-- ==== Sys2Proof/Word.lean ====
section
/-!
DEFINITION. The word types of the ES1620: the byte of every message, frame and store unit, and the 64-bit tick.
-/
namespace Sys2Proof

/-- One byte of a message, of a Sample Link frame, or of the stacked DRAM. -/
abbrev Byte := BitVec 8

/-- The front end's sample-clock count, taken modulo 2^64 (R57, R63). -/
abbrev Tick := BitVec 64

end Sys2Proof
end

