-- ==== Sys2Proof/Syntax.lean ====
section
/-!
DEFINITION. The commands of the ES1620: one constructor of `Instr` per row of spec/opcode_table.json. A command is a
request message arriving at one of the two message ports, an event on the Sample Link or one of its lines, an event of a
port's link, the expiry of a time, or a step of the part's own blocks (a grant, a completion, a marker worked, a settle).
-/
namespace Sys2Proof

/-- The two message ports (R195): the scope processor's and the archive engine's. -/
inductive Port where
  | viewer
  | archive
  deriving DecidableEq, Repr

/-- The requests of the two ports (R198). -/
inductive RequestKind where
  | start | stop | flush | stageProfile | readProfile | setHeadMark | clearHeadMark | pin | unpin | read
  | setGroupNext | applyGroups | setGroupMap | reform
  | openContext | closeContext | take | fetch | confirm | returnBlock | setArchiveMark | clearArchiveMark
  | setFlagSource | post | wait | clearFlag | readIndex | readStatus | readCounts
  | setNoticeMask | clearNotice | forceNotice | resetPort
  deriving DecidableEq, Repr

/-- The header of a request message as it arrived (R203), with the number of body bytes received beside the header's
Body Length, because R195 compares the two. `target` is byte 2, used by the Kinds that have a Target and ignored by the
others; byte 3 is ignored by R203 and is not kept. -/
structure Header where
  tag : Byte
  target : Byte
  bodyLength : BitVec 32
  received : Nat
  deriving DecidableEq, Repr

/-- The thirteen fields of a Capture Profile as StageProfile carries them, each in its field's wire width (R101, R203).
Enumerations and yes/no fields are raw bytes: a value they do not define is answered BAD_PARAM (R102). -/
structure ProfileFields where
  sampleWidth : BitVec 8
  channelCount : BitVec 8
  tickStep : BitVec 32
  archiveRequired : BitVec 8
  overrunPolicy : BitVec 8
  pressedThreshold : BitVec 32
  criticalThreshold : BitVec 32
  hysteresis : BitVec 8
  pauseOnCritical : BitVec 8
  sliceMode : BitVec 8
  sliceLength : BitVec 64
  idleFlushTime : BitVec 32
  haltMode : BitVec 8
  deriving DecidableEq, Repr

/-- What the check of one 64-byte unit of a read gives (R161). -/
inductive UnitResult where
  | clean
  | corrected
  | uncorrectable
  deriving DecidableEq, Repr

/-- The levels that the outside presents at a device reset: the Halt line and the Sample Link's lock (R47), and the links
of the two message ports (R200). -/
structure ResetLevels where
  haltAsserted : Bool
  sampleLinkLocked : Bool
  viewerLinkUp : Bool
  archiveLinkUp : Bool
  deriving DecidableEq, Repr

/-- One constructor per row of spec/opcode_table.json. Request rows carry the message header and the parameter fields in
their wire widths (R203); rows of a request in both ports' sets carry the port. -/
inductive Instr where
  -- Viewer Port requests
  /-- START (R91). -/
  | start (h : Header)
  /-- STOP_AT_SEGMENT_END (R92): a Stop message and its Mode byte; Mode 0 is AtSegmentEnd. -/
  | stopAtSegmentEnd (h : Header) (mode : BitVec 8)
  /-- STOP_NOW (R93): a Stop message and its Mode byte; Mode 1 is Now. -/
  | stopNow (h : Header) (mode : BitVec 8)
  /-- FLUSH (R53). -/
  | flush (h : Header)
  /-- STAGE_PROFILE (R102, R103). -/
  | stageProfile (h : Header) (p : ProfileFields)
  /-- READ_PROFILE (R106): 0 Active, 1 Staged. -/
  | readProfile (h : Header) (which : BitVec 8)
  /-- SET_HEAD_MARK (R107): 0 Notify, 1 Stop. -/
  | setHeadMark (h : Header) (lbn : BitVec 64) (action : BitVec 8)
  /-- CLEAR_HEAD_MARK (R107). -/
  | clearHeadMark (h : Header)
  /-- PIN (R137). -/
  | pin (h : Header) (first : BitVec 64) (count : BitVec 32)
  /-- UNPIN (R141); the Id is the header's Target. -/
  | unpin (h : Header)
  /-- READ (R142); the Pin Id is the header's Target. -/
  | read (h : Header) (lbn : BitVec 64) (offset : BitVec 32) (length : BitVec 32)
  /-- SET_GROUP_NEXT (R167); the Group is the header's Target. 0 Off, 1 Retain, 2 Active. -/
  | setGroupNext (h : Header) (next : BitVec 8)
  /-- APPLY_GROUPS (R168). -/
  | applyGroups (h : Header)
  /-- SET_GROUP_MAP (R176). -/
  | setGroupMap (h : Header) (span : BitVec 8) (groups : List (BitVec 8))
  /-- REFORM (R178, R179). -/
  | reform (h : Header)
  -- Archive Port requests; the Ctx is the header's Target
  /-- OPEN_CONTEXT (R112). -/
  | openContext (h : Header) (windowFirst : BitVec 64) (windowLength : BitVec 64)
  /-- CLOSE_CONTEXT (R130). -/
  | closeContext (h : Header)
  /-- TAKE (R115): Wait 0 no, 1 yes. -/
  | take (h : Header) (wait : BitVec 8)
  /-- FETCH (R122). -/
  | fetch (h : Header) (lbn : BitVec 64) (offset : BitVec 32) (length : BitVec 32)
  /-- CONFIRM (R126): With Loss 0 no, 1 yes. -/
  | confirm (h : Header) (lbn : BitVec 64) (withLoss : BitVec 8)
  /-- RETURN (R129). -/
  | returnBlock (h : Header) (lbn : BitVec 64)
  /-- SET_ARCHIVE_MARK (R109). -/
  | setArchiveMark (h : Header) (lbn : BitVec 64)
  /-- CLEAR_ARCHIVE_MARK (R109). -/
  | clearArchiveMark (h : Header)
  -- requests of both ports
  /-- SET_FLAG_SOURCE (R183); the Flag is the header's Target. -/
  | setFlagSource (p : Port) (h : Header) (source : BitVec 8)
  /-- POST (R185). -/
  | post (p : Port) (h : Header)
  /-- WAIT (R187): Mode 0 Consume, 1 Peek. -/
  | wait (p : Port) (h : Header) (mode : BitVec 8) (timeout : BitVec 32)
  /-- CLEAR_FLAG (R186). -/
  | clearFlag (p : Port) (h : Header)
  /-- READ_INDEX (R88). -/
  | readIndex (p : Port) (h : Header) (first : BitVec 64) (count : BitVec 8)
  /-- READ_STATUS (R201). -/
  | readStatus (p : Port) (h : Header)
  /-- READ_COUNTS (R202). -/
  | readCounts (p : Port) (h : Header)
  /-- SET_NOTICE_MASK (R192). -/
  | setNoticeMask (p : Port) (h : Header) (kinds : BitVec 16)
  /-- CLEAR_NOTICE (R192). -/
  | clearNotice (p : Port) (h : Header) (kinds : BitVec 16)
  /-- FORCE_NOTICE (R192). -/
  | forceNotice (p : Port) (h : Header) (kinds : BitVec 16)
  /-- RESET_PORT (R199). -/
  | resetPort (p : Port) (h : Header)
  /-- UNSUPPORTED_KIND (R195): a message whose Kind is not in the port's set. -/
  | unsupportedKind (p : Port) (kind : BitVec 8) (h : Header)
  -- events of the links and lines
  /-- PORT_LINK_DOWN (R200). `cameUp` says whether the link had come up again since the loss taken before; the table has no
  row for a link coming up, and R200 gives it no act of its own. -/
  | portLinkDown (p : Port) (cameUp : Bool)
  /-- FRAME_ARRIVAL (R31): the bytes of one frame as received (R204), Link Check included. -/
  | frameArrival (bytes : List Byte)
  /-- RESYNC_MARKER (R43). -/
  | resyncMarker
  /-- LINK_LOCK_LOSS (R44). `relocked` says whether lock had been regained since the loss taken before; the table has no
  row for regaining lock, and R43 gives it no act of its own. -/
  | linkLockLoss (relocked : Bool)
  /-- HALT_ASSERTION (R42). -/
  | haltAssertion
  /-- HALT_RELEASE (R42). -/
  | haltRelease
  /-- DEVICE_RESET (R29, R47, R73, R89, R110, R135, R150, R152, R181, R190, R194). -/
  | deviceReset (levels : ResetLevels)
  -- times running out
  /-- IDLE_FLUSH_EXPIRY (R52). -/
  | idleFlushExpiry
  /-- WAIT_TIMEOUT (R189): the parked wait named by its flag, port and tag. -/
  | waitTimeout (flag : Fin 8) (p : Port) (tag : Byte)
  /-- GROUP_SETTLE (R172): the Timing phase of this group ends. -/
  | groupSettle (group : Fin 16)
  -- the part's own steps
  /-- ADMISSION_GRANT (R49). -/
  | admissionGrant
  /-- FETCH_GRANT (R123). -/
  | fetchGrant
  /-- READ_GRANT (R143). -/
  | readGrant
  /-- HALT_MARKER_WORKED (R60). -/
  | haltMarkerWorked
  /-- RESYNC_MARKER_WORKED (R43). -/
  | resyncMarkerWorked
  /-- ADMISSION_WRITE_COMPLETION (R159). -/
  | admissionWriteCompletion
  /-- FETCH_COMPLETION (R124): what the check of each 64-byte unit gave, in address order; units not listed are clean. -/
  | fetchCompletion (units : List UnitResult)
  /-- READ_COMPLETION (R144): as FETCH_COMPLETION. -/
  | readCompletion (units : List UnitResult)
  deriving DecidableEq, Repr

end Sys2Proof
end

