-- ==== Sys2Proof/WellFormed.lean ====
section
/-!
DEFINITION. Which commands are well formed: a request whose message is framed as R195 and R203 ask, and a row's operands
being those of its own row. An ill-formed command still has a meaning (a badly framed message is answered BAD_PARAM);
well-formedness is what the message encoder and the statements about it need.
-/
namespace Sys2Proof

/-- The message header of a request command; `none` for a command that is no message. -/
def Instr.header : Instr → Option Header
  | .start h => some h
  | .stopAtSegmentEnd h _ => some h
  | .stopNow h _ => some h
  | .flush h => some h
  | .stageProfile h _ => some h
  | .readProfile h _ => some h
  | .setHeadMark h _ _ => some h
  | .clearHeadMark h => some h
  | .pin h _ _ => some h
  | .unpin h => some h
  | .read h _ _ _ => some h
  | .setGroupNext h _ => some h
  | .applyGroups h => some h
  | .setGroupMap h _ _ => some h
  | .reform h => some h
  | .openContext h _ _ => some h
  | .closeContext h => some h
  | .take h _ => some h
  | .fetch h _ _ _ => some h
  | .confirm h _ _ => some h
  | .returnBlock h _ => some h
  | .setArchiveMark h _ => some h
  | .clearArchiveMark h => some h
  | .setFlagSource _ h _ => some h
  | .post _ h => some h
  | .wait _ h _ _ => some h
  | .clearFlag _ h => some h
  | .readIndex _ h _ _ => some h
  | .readStatus _ h => some h
  | .readCounts _ h => some h
  | .setNoticeMask _ h _ => some h
  | .clearNotice _ h _ => some h
  | .forceNotice _ h _ => some h
  | .resetPort _ h => some h
  | .unsupportedKind _ _ h => some h
  | .portLinkDown _ _ => none
  | .frameArrival _ => none
  | .resyncMarker => none
  | .linkLockLoss _ => none
  | .haltAssertion => none
  | .haltRelease => none
  | .deviceReset _ => none
  | .idleFlushExpiry => none
  | .waitTimeout _ _ _ => none
  | .groupSettle _ => none
  | .admissionGrant => none
  | .fetchGrant => none
  | .readGrant => none
  | .haltMarkerWorked => none
  | .resyncMarkerWorked => none
  | .admissionWriteCompletion => none
  | .fetchCompletion _ => none
  | .readCompletion _ => none

/-- The length in bytes of a request's parameter fields (R203); 0 for a command that is no message, and for a message of an
unsupported Kind, whose body is not read. -/
def Instr.bodyBytes : Instr → Nat
  | .stopAtSegmentEnd _ _ => 1
  | .stopNow _ _ => 1
  | .stageProfile _ _ => 32
  | .readProfile _ _ => 1
  | .setHeadMark _ _ _ => 9
  | .pin _ _ _ => 12
  | .read _ _ _ _ => 16
  | .setGroupNext _ _ => 1
  | .setGroupMap _ _ groups => 1 + groups.length
  | .openContext _ _ _ => 16
  | .take _ _ => 1
  | .fetch _ _ _ _ => 16
  | .confirm _ _ _ => 9
  | .returnBlock _ _ => 8
  | .setArchiveMark _ _ => 8
  | .setFlagSource _ _ _ => 1
  | .wait _ _ _ _ => 5
  | .readIndex _ _ _ _ => 9
  | .setNoticeMask _ _ _ => 2
  | .clearNotice _ _ _ => 2
  | .forceNotice _ _ _ => 2
  | _ => 0

/-- The Kind values of the Viewer Port's own requests are 1 to 14, of the Archive Port's own 32 to 39, and of both 64 to 74
(R198). -/
def Port.supportsCode (p : Port) (kind : BitVec 8) : Bool :=
  match p with
  | .viewer => decide (1 ≤ kind.toNat ∧ kind.toNat ≤ 14 ∨ 64 ≤ kind.toNat ∧ kind.toNat ≤ 74)
  | .archive => decide (32 ≤ kind.toNat ∧ kind.toNat ≤ 39 ∨ 64 ≤ kind.toNat ∧ kind.toNat ≤ 74)

/-- The message is framed as its Kind asks: the Body Length field, the bytes received and the parameter fields agree. -/
def Instr.framed (i : Instr) : Bool :=
  match i.header with
  | none => true
  | some h => decide (h.bodyLength.toNat = h.received ∧ h.received = i.bodyBytes)

/-- The operands belong to the row: the two Stop rows are told apart by their Mode byte, an unsupported Kind is outside its
port's set, and a read has no more units than 65,536 bytes hold. -/
def Instr.inRow : Instr → Bool
  | .stopAtSegmentEnd _ mode => decide (mode ≠ 1)
  | .stopNow _ mode => decide (mode = 1)
  | .unsupportedKind p kind _ => !p.supportsCode kind
  | .fetchCompletion units => decide (units.length ≤ 1024)
  | .readCompletion units => decide (units.length ≤ 1024)
  | _ => true

/-- A well-formed command. -/
def Instr.wellFormed (i : Instr) : Bool :=
  i.framed && i.inRow

end Sys2Proof
end

