-- ==== Sys2Proof/Decode.lean ====
section
/-!
DEFINITION. The command a table word spells (none: the opcode table gives no row any bits), and the wire form of the request
messages (R198, R203): the command that the bytes arriving at a port carry, and the bytes of a well-formed request.
-/
namespace Sys2Proof

/-- The command that a word spells by the table's bits. spec/opcode_table.json gives no row any bits, so no word spells
one. -/
def decodeTableWord (_nbits _w : Nat) : Option Instr :=
  none

/-! ## Byte order and field widths (R203) -/

/-- A number from its bytes, least significant byte first (R203). -/
def leNat : List Byte → Nat
  | [] => 0
  | b :: bs => b.toNat + 256 * leNat bs

/-- The `width` bytes of a number, least significant byte first (R203). -/
def leBytes : Nat → Nat → List Byte
  | 0, _ => []
  | width + 1, n => BitVec.ofNat 8 n :: leBytes width (n / 256)

/-- The field of `width` bytes at an offset of a body; bytes the body does not have read as 0. -/
def fieldAt (body : List Byte) (offset width : Nat) : Nat :=
  leNat ((body.drop offset).take width)

/-- The one-byte field at an offset of a body. -/
def byteAt (body : List Byte) (offset : Nat) : Byte :=
  body.getD offset 0

/-! ## Kinds (R198) -/

/-- The Kind value of a request (R198). -/
def RequestKind.code : RequestKind → BitVec 8
  | .start => 1
  | .stop => 2
  | .flush => 3
  | .stageProfile => 4
  | .readProfile => 5
  | .setHeadMark => 6
  | .clearHeadMark => 7
  | .pin => 8
  | .unpin => 9
  | .read => 10
  | .setGroupNext => 11
  | .applyGroups => 12
  | .setGroupMap => 13
  | .reform => 14
  | .openContext => 32
  | .closeContext => 33
  | .take => 34
  | .fetch => 35
  | .confirm => 36
  | .returnBlock => 37
  | .setArchiveMark => 38
  | .clearArchiveMark => 39
  | .setFlagSource => 64
  | .post => 65
  | .wait => 66
  | .clearFlag => 67
  | .readIndex => 68
  | .readStatus => 69
  | .readCounts => 70
  | .setNoticeMask => 71
  | .clearNotice => 72
  | .forceNotice => 73
  | .resetPort => 74

/-- Every request Kind. -/
def RequestKind.all : List RequestKind :=
  [.start, .stop, .flush, .stageProfile, .readProfile, .setHeadMark, .clearHeadMark, .pin, .unpin, .read, .setGroupNext,
    .applyGroups, .setGroupMap, .reform, .openContext, .closeContext, .take, .fetch, .confirm, .returnBlock,
    .setArchiveMark, .clearArchiveMark, .setFlagSource, .post, .wait, .clearFlag, .readIndex, .readStatus, .readCounts,
    .setNoticeMask, .clearNotice, .forceNotice, .resetPort]

/-- The request that a Kind value names, if the value is in the port's request set (R195, R198). -/
def Port.requestOf (p : Port) (kind : BitVec 8) : Option RequestKind :=
  if p.supportsCode kind then RequestKind.all.find? (fun k => decide (k.code = kind)) else none

/-! ## Messages (R203) -/

/-- The profile fields of a StageProfile body, in the order of R101 and the widths of R203. -/
def profileOfBody (body : List Byte) : ProfileFields where
  sampleWidth := byteAt body 0
  channelCount := byteAt body 1
  tickStep := BitVec.ofNat 32 (fieldAt body 2 4)
  archiveRequired := byteAt body 6
  overrunPolicy := byteAt body 7
  pressedThreshold := BitVec.ofNat 32 (fieldAt body 8 4)
  criticalThreshold := BitVec.ofNat 32 (fieldAt body 12 4)
  hysteresis := byteAt body 16
  pauseOnCritical := byteAt body 17
  sliceMode := byteAt body 18
  sliceLength := BitVec.ofNat 64 (fieldAt body 19 8)
  idleFlushTime := BitVec.ofNat 32 (fieldAt body 27 4)
  haltMode := byteAt body 31

/-- The body of a StageProfile. -/
def bodyOfProfile (p : ProfileFields) : List Byte :=
  [p.sampleWidth, p.channelCount] ++ leBytes 4 p.tickStep.toNat ++ [p.archiveRequired, p.overrunPolicy]
    ++ leBytes 4 p.pressedThreshold.toNat ++ leBytes 4 p.criticalThreshold.toNat
    ++ [p.hysteresis, p.pauseOnCritical, p.sliceMode] ++ leBytes 8 p.sliceLength.toNat
    ++ leBytes 4 p.idleFlushTime.toNat ++ [p.haltMode]

/-- The command of a request, its parameter fields read from the body in the order its rule names them (R203). The two rows
of Stop are told apart by the Mode byte; a Mode that is neither goes to the first, whose meaning refuses it (R92). -/
def commandOf (p : Port) (k : RequestKind) (h : Header) (body : List Byte) : Instr :=
  match k with
  | .start => .start h
  | .stop => if byteAt body 0 = 1 then .stopNow h (byteAt body 0) else .stopAtSegmentEnd h (byteAt body 0)
  | .flush => .flush h
  | .stageProfile => .stageProfile h (profileOfBody body)
  | .readProfile => .readProfile h (byteAt body 0)
  | .setHeadMark => .setHeadMark h (BitVec.ofNat 64 (fieldAt body 0 8)) (byteAt body 8)
  | .clearHeadMark => .clearHeadMark h
  | .pin => .pin h (BitVec.ofNat 64 (fieldAt body 0 8)) (BitVec.ofNat 32 (fieldAt body 8 4))
  | .unpin => .unpin h
  | .read =>
    .read h (BitVec.ofNat 64 (fieldAt body 0 8)) (BitVec.ofNat 32 (fieldAt body 8 4)) (BitVec.ofNat 32 (fieldAt body 12 4))
  | .setGroupNext => .setGroupNext h (byteAt body 0)
  | .applyGroups => .applyGroups h
  | .setGroupMap => .setGroupMap h (byteAt body 0) (body.drop 1)
  | .reform => .reform h
  | .openContext => .openContext h (BitVec.ofNat 64 (fieldAt body 0 8)) (BitVec.ofNat 64 (fieldAt body 8 8))
  | .closeContext => .closeContext h
  | .take => .take h (byteAt body 0)
  | .fetch =>
    .fetch h (BitVec.ofNat 64 (fieldAt body 0 8)) (BitVec.ofNat 32 (fieldAt body 8 4)) (BitVec.ofNat 32 (fieldAt body 12 4))
  | .confirm => .confirm h (BitVec.ofNat 64 (fieldAt body 0 8)) (byteAt body 8)
  | .returnBlock => .returnBlock h (BitVec.ofNat 64 (fieldAt body 0 8))
  | .setArchiveMark => .setArchiveMark h (BitVec.ofNat 64 (fieldAt body 0 8))
  | .clearArchiveMark => .clearArchiveMark h
  | .setFlagSource => .setFlagSource p h (byteAt body 0)
  | .post => .post p h
  | .wait => .wait p h (byteAt body 0) (BitVec.ofNat 32 (fieldAt body 1 4))
  | .clearFlag => .clearFlag p h
  | .readIndex => .readIndex p h (BitVec.ofNat 64 (fieldAt body 0 8)) (byteAt body 8)
  | .readStatus => .readStatus p h
  | .readCounts => .readCounts p h
  | .setNoticeMask => .setNoticeMask p h (BitVec.ofNat 16 (fieldAt body 0 2))
  | .clearNotice => .clearNotice p h (BitVec.ofNat 16 (fieldAt body 0 2))
  | .forceNotice => .forceNotice p h (BitVec.ofNat 16 (fieldAt body 0 2))
  | .resetPort => .resetPort p h

/-- The command carried by a message that arrives whole at a port (R195, R203); `none` for fewer bytes than a header. -/
def decodeMessage (p : Port) : List Byte → Option Instr
  | tag :: kind :: target :: _ :: n0 :: n1 :: n2 :: n3 :: body =>
    let h : Header :=
      { tag := tag, target := target, bodyLength := BitVec.ofNat 32 (leNat [n0, n1, n2, n3]), received := body.length }
    match p.requestOf kind with
    | some k => some (commandOf p k h body)
    | none => some (.unsupportedKind p kind h)
  | _ => none

/-- The port, Kind value and body of a request command; `none` for a command that is no message. The body of a message of
an unsupported Kind is not read, and is written as empty. -/
def Instr.message : Instr → Option (Port × BitVec 8 × List Byte)
  | .start _ => some (.viewer, RequestKind.code .start, [])
  | .stopAtSegmentEnd _ mode => some (.viewer, RequestKind.code .stop, [mode])
  | .stopNow _ mode => some (.viewer, RequestKind.code .stop, [mode])
  | .flush _ => some (.viewer, RequestKind.code .flush, [])
  | .stageProfile _ p => some (.viewer, RequestKind.code .stageProfile, bodyOfProfile p)
  | .readProfile _ which => some (.viewer, RequestKind.code .readProfile, [which])
  | .setHeadMark _ lbn action => some (.viewer, RequestKind.code .setHeadMark, leBytes 8 lbn.toNat ++ [action])
  | .clearHeadMark _ => some (.viewer, RequestKind.code .clearHeadMark, [])
  | .pin _ first count => some (.viewer, RequestKind.code .pin, leBytes 8 first.toNat ++ leBytes 4 count.toNat)
  | .unpin _ => some (.viewer, RequestKind.code .unpin, [])
  | .read _ lbn offset length =>
    some (.viewer, RequestKind.code .read, leBytes 8 lbn.toNat ++ leBytes 4 offset.toNat ++ leBytes 4 length.toNat)
  | .setGroupNext _ next => some (.viewer, RequestKind.code .setGroupNext, [next])
  | .applyGroups _ => some (.viewer, RequestKind.code .applyGroups, [])
  | .setGroupMap _ span groups => some (.viewer, RequestKind.code .setGroupMap, span :: groups)
  | .reform _ => some (.viewer, RequestKind.code .reform, [])
  | .openContext _ first length =>
    some (.archive, RequestKind.code .openContext, leBytes 8 first.toNat ++ leBytes 8 length.toNat)
  | .closeContext _ => some (.archive, RequestKind.code .closeContext, [])
  | .take _ w => some (.archive, RequestKind.code .take, [w])
  | .fetch _ lbn offset length =>
    some (.archive, RequestKind.code .fetch, leBytes 8 lbn.toNat ++ leBytes 4 offset.toNat ++ leBytes 4 length.toNat)
  | .confirm _ lbn withLoss => some (.archive, RequestKind.code .confirm, leBytes 8 lbn.toNat ++ [withLoss])
  | .returnBlock _ lbn => some (.archive, RequestKind.code .returnBlock, leBytes 8 lbn.toNat)
  | .setArchiveMark _ lbn => some (.archive, RequestKind.code .setArchiveMark, leBytes 8 lbn.toNat)
  | .clearArchiveMark _ => some (.archive, RequestKind.code .clearArchiveMark, [])
  | .setFlagSource p _ source => some (p, RequestKind.code .setFlagSource, [source])
  | .post p _ => some (p, RequestKind.code .post, [])
  | .wait p _ mode timeout => some (p, RequestKind.code .wait, mode :: leBytes 4 timeout.toNat)
  | .clearFlag p _ => some (p, RequestKind.code .clearFlag, [])
  | .readIndex p _ first count => some (p, RequestKind.code .readIndex, leBytes 8 first.toNat ++ [count])
  | .readStatus p _ => some (p, RequestKind.code .readStatus, [])
  | .readCounts p _ => some (p, RequestKind.code .readCounts, [])
  | .setNoticeMask p _ kinds => some (p, RequestKind.code .setNoticeMask, leBytes 2 kinds.toNat)
  | .clearNotice p _ kinds => some (p, RequestKind.code .clearNotice, leBytes 2 kinds.toNat)
  | .forceNotice p _ kinds => some (p, RequestKind.code .forceNotice, leBytes 2 kinds.toNat)
  | .resetPort p _ => some (p, RequestKind.code .resetPort, [])
  | .unsupportedKind p kind _ => some (p, kind, [])
  | .portLinkDown _ _ => none
  | .frameArrival _ => none
  | .resyncMarker => none
  | .linkLockLoss _ => none
  | .haltAssertion => none
  | .haltRelease => none
  | .deviceReset _ => none
  | .idleFlushExpiry => none
  | .waitTimeout _ _ _ => none
  | .groupSettle _ => none
  | .admissionGrant => none
  | .fetchGrant => none
  | .readGrant => none
  | .haltMarkerWorked => none
  | .resyncMarkerWorked => none
  | .admissionWriteCompletion => none
  | .fetchCompletion _ => none
  | .readCompletion _ => none

/-- The bytes of a request message and the port it is sent to (R203). -/
def encodeMessage (i : Instr) : Option (Port × List Byte) :=
  match i.message, i.header with
  | some (p, kind, body), some h =>
    some (p, [h.tag, kind, h.target, 0] ++ leBytes 4 h.bodyLength.toNat ++ body)
  | _, _ => none

end Sys2Proof
end

