-- ==== Sys2Proof/Config.lean ====
section
/-!
DEFINITION. The FREE VALUES of the model: what the spec leaves open while the part goes on. Each is an opaque constant
with no body, so nothing in Lean can evaluate it and no proof can lean on a value of it.
-/
namespace Sys2Proof

/-- What a read delivers for a store byte whose contents are undefined (R166: "A group that leaves Off holds undefined
contents until they are written"). The first argument is the number of reads completed before this one (the model's own
counter), so that two reads of one byte need not agree; the second is the store byte address.
Free value; assumption log 3. -/
opaque Config.undefinedByte : Nat → Nat → Byte

/-- The total of a loss record's field when the exact sum of its two parts does not fit the field's 64 bits. R36 gives the
range 0..2^64 − 1 and no rule for a sum outside it. Free value; assumption log 4. -/
opaque Config.lossTotal : Nat → Nat → BitVec 64

end Sys2Proof
end

