-- ==== Sys2Proof/Machine/State.lean ====
section
/-!
DEFINITION. The state of the ES1620 as plain data, chapter by chapter, the answers that leave its ports, and the state
after device reset. Every field cites the rule that gives it; INVENTORY.md lists them with their reset values.
-/
namespace Sys2Proof.Machine

/-! ## Outcomes -/

/-- The model's faults: none. Every command of the table has an effect or an answer in every state, and the spec names no
condition that stops the part. -/
inductive Fault where
  deriving DecidableEq, Repr

/-- The model's refusals. -/
inductive Refusal where
  /-- Raised only by an arm of `exec` that has no meaning yet; no arm of this model raises it. Safe: the run stops. -/
  | notModelled (mnemonic : String)
  deriving DecidableEq, Repr

/-! ## Chapter 1: the ring -/

/-- Ring pressure (R24). -/
inductive Band where
  | relaxed
  | pressed
  | critical
  deriving DecidableEq, Repr

/-- The state of a held block (R7). Claim Context is present only while Claimed (R6), so it stands in that constructor. -/
inductive BlockState where
  | filling
  | sealed
  | claimed (ctx : Fin 4)
  | archived
  deriving DecidableEq, Repr

/-- One record of the Block Table that holds a block (R6). -/
structure Block where
  lbn : Nat
  state : BlockState
  fillBytes : Nat
  segment : Nat
  archiveRequired : Bool
  pinCount : Nat
  readsInFlight : Nat
  damaged : Bool
  deriving DecidableEq, Repr

/-- The Ring Manager's state (R3, R6, R24). `blocks` is the Block Table: the records that hold a block, oldest first; a
position whose LBN is not among them is Empty (R6). -/
structure Ring where
  head : Nat
  tail : Nat
  blocks : List Block
  band : Band
  deriving DecidableEq, Repr

/-! ## Chapter 2: the Sample Link -/

/-- The First Cause of a loss record (R36). -/
inductive LossCause where
  | sequence
  | intake
  deriving DecidableEq, Repr

/-- A loss record (R36). -/
structure LossRecord where
  firstCause : LossCause
  missingFrames : Nat
  droppedBytes : Nat
  parts : Nat
  deriving DecidableEq, Repr

/-- A frame that passed its check: the header fields R30 lists and the payload. -/
structure Frame where
  sequence : BitVec 16
  startFlag : Bool
  triggerFlag : Bool
  endFlag : Bool
  triggerOffset : BitVec 13
  triggerKind : BitVec 4
  stamp : Option Tick
  payload : List Byte
  deriving DecidableEq, Repr

/-- One item of the intake order (R35): a frame, or a marker, each with the loss record it carries. -/
inductive IntakeItem where
  | frame (f : Frame) (loss : Option LossRecord)
  | resyncMarker (loss : Option LossRecord)
  | haltMarker (loss : Option LossRecord)
  deriving DecidableEq, Repr

/-- The Stream Counts record, in the order of R45; each counter wraps at 2^64. -/
structure StreamCounts where
  framesReceived : BitVec 64
  framesAdmitted : BitVec 64
  framesDroppedIntake : BitVec 64
  framesDroppedOverrun : BitVec 64
  framesDiscarded : BitVec 64
  framesBad : BitVec 64
  sequenceGaps : BitVec 64
  framesMissing : BitVec 64
  blocksSealed : BitVec 64
  blocksEvictedUnarchived : BitVec 64
  correctedErrors : BitVec 64
  uncorrectableErrors : BitVec 64
  linkResyncs : BitVec 64
  deriving DecidableEq, Repr

/-- The Sample Link Receiver's state (R32, R35, R36, R40 to R42, R45, R47). `expected` is `none` while Unsynced. -/
structure Link where
  locked : Bool
  expected : Option (BitVec 16)
  intake : List IntakeItem
  pendingLoss : Option LossRecord
  pause : Bool
  captureEnable : Bool
  haltLine : Bool
  counts : StreamCounts
  deriving DecidableEq, Repr

/-! ## Chapter 3: block assembly -/

/-- Continuation (R54, R59, R71): the Next Tick, the carried value, and the bpp and D of the segment that closed with reason
Slice. The carried value is absent once a profile swap at the open has discarded it (R72). -/
structure Continuation where
  nextTick : Tick
  carried : Option Nat
  bpp : Nat
  tickStep : Nat
  deriving DecidableEq, Repr

/-- The step at which the working of the front frame stopped to wait on a read at the Tail, and at which it resumes (R48):
`makeRoom` is R55 step 3 (R87), `openBlock` is R55 step 4, `nextBlock` is R49 step 3 for an open segment (R50). -/
inductive Stage where
  | makeRoom
  | openBlock
  | nextBlock
  deriving DecidableEq, Repr

/-- The Block Assembler's state (chapter 3). The open segment is the index's Open entry and the open block the Block
Table's Filling record; both are read there. `idleFlush` is the Running timer's remaining time in ms, `none` when Stopped. -/
structure Assembler where
  continuation : Option Continuation
  sliceCounter : Option Int
  idleFlush : Option Nat
  nextSegment : Nat
  stage : Option Stage
  deriving DecidableEq, Repr

/-! ## Chapter 4: the Segment Index -/

/-- Why a segment closed (R58). -/
inductive CloseReason where
  | endFrame
  | slice
  | missingEnd
  | stop
  | halt
  | linkReset
  | overrun
  | numberExhausted
  deriving DecidableEq, Repr

/-- The Cause of a gap (R65). -/
inductive GapCause where
  | sequence
  | intake
  | overrun
  deriving DecidableEq, Repr

/-- A gap record (R65, R74). -/
structure Gap where
  position : Nat
  pointsLost : BitVec 64
  cause : GapCause
  mixed : Bool
  deriving DecidableEq, Repr

/-- The Trigger record of an entry (R64, R74). -/
structure Trigger where
  position : Nat
  tick : Tick
  kind : BitVec 4
  deriving DecidableEq, Repr

/-- An entry of the Segment Index (R74). It is Open while `closeReason` is absent. Points is Byte Length / bpp (R62). -/
structure Entry where
  number : Nat
  closeReason : Option CloseReason
  firstLbn : Nat
  blockCount : Nat
  presentFrom : Nat
  byteLength : Nat
  bpp : Nat
  tickStep : Nat
  archiveRequired : Bool
  firstTick : Tick
  trigger : Option Trigger
  triggerCount : Nat
  triggerIgnored : Nat
  gaps : List Gap
  gapOverflow : Bool
  totalLost : BitVec 64
  evictedUnarchived : BitVec 64
  startLost : Bool
  noStamp : Bool
  stampConflict : Bool
  frontEvicted : Bool
  archivedWithLoss : Bool
  damaged : Bool
  deriving DecidableEq, Repr

/-! ## Chapter 5: capture control -/

/-- The capture state (R90). -/
inductive CaptureState where
  | unformed
  | idle
  | running
  | stopping
  | stopped
  deriving DecidableEq, Repr

/-- The stop reason (R96). -/
inductive StopReason where
  | none
  | stop
  | halt
  | headMark
  | overrun
  | lbnExhausted
  | segmentNumberExhausted
  deriving DecidableEq, Repr

/-- The Stopping reason (chapter 5), present only in Stopping. -/
inductive StoppingReason where
  | stop
  | headMark
  deriving DecidableEq, Repr

/-- The Overrun Policy (R101). -/
inductive OverrunPolicy where
  | drop
  | overwrite
  | stop
  deriving DecidableEq, Repr

/-- The Slice Mode (R101). -/
inductive SliceMode where
  | off
  | points
  deriving DecidableEq, Repr

/-- The Halt Mode (R101). -/
inductive HaltMode where
  | immediate
  | orderly
  deriving DecidableEq, Repr

/-- A Capture Profile: the thirteen fields of R101, in its order. -/
structure Profile where
  sampleWidth : Nat
  channelCount : Nat
  tickStep : Nat
  archiveRequired : Bool
  overrunPolicy : OverrunPolicy
  pressed : Nat
  critical : Nat
  hysteresis : Nat
  pauseOnCritical : Bool
  sliceMode : SliceMode
  sliceLength : Nat
  idleFlushTime : Nat
  haltMode : HaltMode
  deriving DecidableEq, Repr

/-- The Action of the Head Mark (R107). -/
inductive MarkAction where
  | notify
  | stop
  deriving DecidableEq, Repr

/-- An armed Head Mark (R107). -/
structure HeadMark where
  lbn : Nat
  action : MarkAction
  deriving DecidableEq, Repr

/-- Capture Control's state (chapter 5). `active` holds the effective values every other block uses and `requested` the
requested values kept with them (R104); the Clamped set is where the two differ. -/
structure Control where
  capture : CaptureState
  stopReason : StopReason
  stoppingReason : Option StoppingReason
  orderlyHalt : Bool
  active : Profile
  requested : Profile
  staged : Profile
  swapPending : Bool
  headMark : Option HeadMark
  archiveMark : Option Nat
  deriving DecidableEq, Repr

/-! ## Chapter 6: the Drain Engine -/

/-- The window of an Open drain context (R111). A context's claims are the blocks the Block Table shows Claimed by it. -/
structure Window where
  first : Nat
  length : Nat
  deriving DecidableEq, Repr

/-- A parked Take (R117), by its context and tag. -/
structure ParkedTake where
  ctx : Fin 4
  tag : Byte
  deriving DecidableEq, Repr

/-- The Drain Engine's state (R111): four contexts, `none` when Closed, and the parked takes, oldest first. -/
structure Drain where
  contexts : Vector (Option Window) 4
  parkedTakes : List ParkedTake
  deriving DecidableEq, Repr

/-! ## Chapter 7: the Viewer Engine -/

/-- The range of a Live pin (R136), [Range First, Range End). -/
structure PinRange where
  first : Nat
  rangeEnd : Nat
  deriving DecidableEq, Repr

/-! ## Chapter 8: the Store Channel -/

/-- A Fetch that has passed its checks, with the effective length its check gave (R122). -/
structure FetchRequest where
  tag : Byte
  lbn : Nat
  offset : Nat
  length : Nat
  clamped : Bool
  deriving DecidableEq, Repr

/-- A Read that has passed its checks, with its requested length (R142). -/
structure ReadRequest where
  tag : Byte
  pin : Fin 8
  lbn : Nat
  offset : Nat
  length : Nat
  deriving DecidableEq, Repr

/-- The read class preferred at the next grant in Relaxed (R152). -/
inductive ReadClass where
  | archive
  | viewer
  deriving DecidableEq, Repr

/-- The Class of an operation in flight (R159), with what its completion delivers: the payload of an admission write, and
for a read what its response carries (R124, R144). -/
inductive Operation where
  | admissionWrite (payload : List Byte)
  | archiveRead (r : FetchRequest)
  | viewerRead (r : ReadRequest) (blockFill : Nat) (blockSealed : Bool)
  deriving DecidableEq, Repr

/-- The Requester of an operation in flight (R159, R163). -/
inductive Requester where
  | absent
  | request (p : Port) (tag : Byte)
  | discarded
  deriving DecidableEq, Repr

/-- An entry of the in-flight list (R159). -/
structure InFlight where
  op : Operation
  lbn : Nat
  group : Fin 16
  address : Nat
  length : Nat
  requester : Requester
  deriving DecidableEq, Repr

/-- The Store Channel's state (R152) and the stacked DRAM behind it (R1). `memory` lists the bytes with defined contents by
store byte address, addresses strictly rising; an unlisted address holds no defined contents. `readsDone` is the MODEL's own
counter, from which the free values of undefined bytes are drawn (assumption log 3). -/
structure Store where
  admission : Bool
  archiveQueue : List FetchRequest
  viewerQueue : List ReadRequest
  turn : ReadClass
  inFlight : List InFlight
  memory : List Host.Cell
  readsDone : Nat
  deriving DecidableEq, Repr

/-! ## Chapter 9: bank groups -/

/-- The power states a group can rest in (R166). -/
inductive GroupPower where
  | off
  | retain
  | active
  deriving DecidableEq, Repr

/-- The Phase of a change (R166, R170); `timing` holds the Remaining Time in µs. -/
inductive Phase where
  | draining
  | timing (remaining : Nat)
  deriving DecidableEq, Repr

/-- The State of a group (R166). Target, From and Phase are present only while Changing. -/
inductive GroupState where
  | settled (p : GroupPower)
  | changing (start target : GroupPower) (phase : Phase)
  deriving DecidableEq, Repr

/-- A group record (R166). -/
structure Group where
  state : GroupState
  next : GroupPower
  deriving DecidableEq, Repr

/-- The Group Power Controller's state (R166, R175). The span is the number of the Group Map's entries. -/
structure Power where
  groups : Vector Group 16
  groupMap : List (Fin 16)
  deriving DecidableEq, Repr

/-! ## Chapter 10: sync flags and notices -/

/-- The Source of a flag (R182). -/
inductive FlagSource where
  | none
  | segmentClosed
  | blockSealed
  | bandPressedOrCritical
  | bandRelaxed
  | headMark
  | archiveMark
  | captureStopped
  | mediaError
  | groupsSettled
  deriving DecidableEq, Repr

/-- The Mode of a Wait (R187). -/
inductive WaitMode where
  | consume
  | peek
  deriving DecidableEq, Repr

/-- A parked wait (R182). `timeLeft` is present when the Timeout is above zero. -/
structure ParkedWait where
  port : Port
  tag : Byte
  mode : WaitMode
  timeout : Nat
  timeLeft : Option Nat
  deriving DecidableEq, Repr

/-- A sync flag (R182); `value` is true when Set. -/
structure SyncFlag where
  value : Bool
  source : FlagSource
  waits : List ParkedWait
  deriving DecidableEq, Repr

/-- The notice kinds, in priority order (R191). -/
inductive NoticeKind where
  | mediaError
  | captureStopped
  | overrunLoss
  | bandCritical
  | bandPressed
  | bandRelaxed
  | indexFull
  | segmentClosed
  | blockSealed
  | headMark
  | archiveMark
  | groupsSettled
  | linkFault
  deriving DecidableEq, Repr

/-- A set of notice kinds: kind n is in it when bit n is set (R203). -/
abbrev NoticeSet := BitVec 13

/-- A Notice Unit (R191, R193): its Pending set, its Mask, and the level of its notice line. -/
structure NoticeUnit where
  pending : NoticeSet
  mask : NoticeSet
  line : Bool
  deriving DecidableEq, Repr

/-! ## Chapter 11: the message ports -/

/-- The progress of a request at its owning block (R196). A queued Read is held while the band is Critical (R146). -/
inductive Progress where
  | answering
  | queued
  | issued
  | parked
  deriving DecidableEq, Repr

/-- An occupied request slot (R196). -/
structure Slot where
  tag : Byte
  kind : RequestKind
  progress : Progress
  deriving DecidableEq, Repr

/-- A Message Port Engine and its port's Notice Unit (R191, R196, R200). `slots` lists the occupied slots. -/
structure PortState where
  linkUp : Bool
  slots : List Slot
  notices : NoticeUnit
  deriving DecidableEq, Repr

/-- The status codes (R203). -/
inductive Status where
  | ok | adjusted | busy | duplicateTag | unsupported | badParam | wrongState | inTransition | empty | windowDone | gone
  | outOfWindow | notClaimed | limit | asleep | mediaError | timedOut | cancelled
  deriving DecidableEq, Repr

/-- The Claim record (R116, R206). -/
structure ClaimRecord where
  lbn : Nat
  segment : Nat
  fillBytes : Nat
  firstOfSegment : Bool
  lastOfSegment : Bool
  damaged : Bool
  deriving DecidableEq, Repr

/-- What the status record reports of a group (R166, R207). -/
structure GroupReport where
  state : GroupState
  next : GroupPower
  slot : Option Nat
  deriving DecidableEq, Repr

/-- The status record (R201, R207). -/
structure StatusRecord where
  capture : CaptureState
  stopReason : StopReason
  band : Band
  span : Nat
  pause : Bool
  captureEnable : Bool
  orderlyHalt : Bool
  swapPending : Bool
  headMark : Option HeadMark
  archiveMark : Option Nat
  openSegment : Option Nat
  openFill : Option Nat
  occupancy : Nat
  top : Option NoticeKind
  head : Nat
  tail : Nat
  archiveFront : Nat
  holdFloor : Nat
  headroom : Nat
  capacity : Nat
  groups : List GroupReport
  deriving DecidableEq, Repr

/-- A clamped field of a profile with a value that goes with it (R104, R106). -/
inductive ClampedField where
  | pressed (value : Nat)
  | critical (value : Nat)
  | sliceLength (value : Nat)
  deriving DecidableEq, Repr

/-- The result fields of a response, by request (R197). -/
inductive Result where
  /-- no result fields -/
  | none
  /-- Start and Stop: the capture state after the request (R91, R92, R93). -/
  | capture (c : CaptureState)
  /-- Flush: Sealed LBN (R53). -/
  | sealedLbn (lbn : Option Nat)
  /-- StageProfile: Swap Taken and, with ADJUSTED, the clamped fields with their effective values (R103). -/
  | staged (swapTaken : Bool) (clamped : List ClampedField)
  /-- ReadProfile(Active): the effective profile, and the clamped fields with their requested values (R106). -/
  | activeProfile (p : Profile) (clamped : List ClampedField)
  /-- ReadProfile(Staged): the Staged copy and Swap Pending (R106). -/
  | stagedProfile (p : Profile) (swapPending : Bool)
  /-- SetHeadMark and SetArchiveMark: Fired (R107, R109). -/
  | fired (yes : Bool)
  /-- ClearHeadMark and ClearArchiveMark: Was Armed (R107, R109). -/
  | wasArmed (yes : Bool)
  /-- Pin: Id, Range First and Range Count (R138). -/
  | pin (id : Fin 8) (first count : Nat)
  /-- Unpin: Range First and Range Count (R141). -/
  | unpin (first count : Nat)
  /-- Read: Pin Id, LBN, Offset, effective Length, Block Fill Bytes and Block Sealed (R144). -/
  | read (pin : Fin 8) (lbn offset length blockFill : Nat) (blockSealed : Bool)
  /-- SetGroupNext: the group's State and Next (R167). -/
  | groupNext (state : GroupState) (next : GroupPower)
  /-- ApplyGroups answered OK: Changing Count (R169). -/
  | changingCount (n : Nat)
  /-- ApplyGroups refused: Refused Group (R168). -/
  | refusedGroup (g : Option (Fin 16))
  /-- SetGroupMap: span, C and the map as taken (R177). -/
  | groupMap (span capacity : Nat) (map : List (Fin 16))
  /-- Reform: Head, C and the band (R179). -/
  | reformed (head capacity : Nat) (band : Band)
  /-- CloseContext: Returned Count (R130). -/
  | returnedCount (n : Nat)
  /-- Take: the Claim record (R116). -/
  | claim (c : ClaimRecord)
  /-- Fetch: LBN, Offset and effective Length (R124). -/
  | fetch (lbn offset length : Nat)
  /-- Confirm: ArchiveFront after the Confirm (R126). -/
  | archiveFront (lbn : Nat)
  /-- Return: Served (R129). -/
  | served (ctx : Option (Fin 4))
  /-- SetFlagSource: the Source before and after (R183). -/
  | flagSource (before after : FlagSource)
  /-- Post: Served Count and the flag's Value after the serving (R185). -/
  | posted (served : Nat) (value : Bool)
  /-- ClearFlag: Was Set (R186). -/
  | wasSet (yes : Bool)
  /-- Wait: the Flag, the Mode and the flag's Value after the Wait completed (R187). -/
  | waited (flag : Fin 8) (mode : WaitMode) (value : Bool)
  /-- ReadIndex: Live Count, Oldest Number, Next Number and the entries (R88). -/
  | index (liveCount : Nat) (oldest : Option Nat) (next : Nat) (entries : List Entry)
  /-- ReadStatus: the status record (R201). -/
  | status (r : StatusRecord)
  /-- ReadCounts: the thirteen counters and the occupancy (R202). -/
  | counts (c : StreamCounts) (occupancy : Nat)
  /-- SetNoticeMask, ClearNotice and ForceNotice: the Pending set and Mask after the request (R192). -/
  | notices (pending mask : NoticeSet)
  deriving DecidableEq, Repr

/-- A response that left a port (R197, R203). `kind` is the Kind byte of its request. -/
structure Response where
  port : Port
  tag : Byte
  kind : BitVec 8
  status : Status
  top : Option NoticeKind
  result : Result
  data : List Byte
  deriving DecidableEq, Repr

/-! ## The machine -/

/-- The state of the ES1620. `sent` is the MODEL's own field: the responses that left the ports in the last act, in the
order they left. `pending` is the queue of commands that are waiting, first in, first out. -/
structure State where
  ring : Ring
  link : Link
  assembler : Assembler
  index : List Entry
  control : Control
  drain : Drain
  pins : Vector (Option PinRange) 8
  store : Store
  power : Power
  flags : Vector SyncFlag 8
  viewerPort : PortState
  archivePort : PortState
  sent : List Response
  pending : List Instr
  deriving DecidableEq, Repr

/-! ## Reset -/

/-- The device-reset profile (R101). -/
def resetProfile : Profile where
  sampleWidth := 2
  channelCount := 1
  tickStep := 1
  archiveRequired := true
  overrunPolicy := .drop
  pressed := 256
  critical := 64
  hysteresis := 16
  pauseOnCritical := false
  sliceMode := .off
  sliceLength := 1048576
  idleFlushTime := 10
  haltMode := .orderly

/-- The Stream Counts record after device reset (R45). -/
def resetCounts : StreamCounts where
  framesReceived := 0
  framesAdmitted := 0
  framesDroppedIntake := 0
  framesDroppedOverrun := 0
  framesDiscarded := 0
  framesBad := 0
  sequenceGaps := 0
  framesMissing := 0
  blocksSealed := 0
  blocksEvictedUnarchived := 0
  correctedErrors := 0
  uncorrectableErrors := 0
  linkResyncs := 0

/-- A Notice Unit after a reset (R194): nothing pending, nothing enabled, the line deasserted. -/
def resetNotices : NoticeUnit where
  pending := 0
  mask := 0
  line := false

/-- A message port after a device reset (R194, R196), its link at the level presented (R200). -/
def resetPortState (linkUp : Bool) : PortState where
  linkUp := linkUp
  slots := []
  notices := resetNotices

/-- The state device reset leaves, with the levels the outside presents at it: R29 (ring), R47 (link), R73 (assembler), R89
(index), R110 (control), R135 (drain), R150 (pins), R152 (store), R181 (power), R190 (flags), R194 and R196 (ports). Every
group is Off, so the store holds no defined contents (R166). -/
def resetWith (levels : ResetLevels) : State where
  ring := { head := 0, tail := 0, blocks := [], band := .relaxed }
  link :=
    { locked := levels.sampleLinkLocked, expected := none, intake := [], pendingLoss := none, pause := false,
      captureEnable := false, haltLine := levels.haltAsserted, counts := resetCounts }
  assembler := { continuation := none, sliceCounter := none, idleFlush := none, nextSegment := 0, stage := none }
  index := []
  control :=
    { capture := .unformed, stopReason := .none, stoppingReason := none, orderlyHalt := false, active := resetProfile,
      requested := resetProfile, staged := resetProfile, swapPending := false, headMark := none, archiveMark := none }
  drain := { contexts := Vector.replicate 4 none, parkedTakes := [] }
  pins := Vector.replicate 8 none
  store :=
    { admission := false, archiveQueue := [], viewerQueue := [], turn := .archive, inFlight := [], memory := [],
      readsDone := 0 }
  power := { groups := Vector.replicate 16 { state := .settled .off, next := .off }, groupMap := [0] }
  flags := Vector.replicate 8 { value := false, source := .none, waits := [] }
  viewerPort := resetPortState levels.viewerLinkUp
  archivePort := resetPortState levels.archiveLinkUp
  sent := []
  pending := []

/-- The levels the outside presents at `State.reset`: Halt released, every link up. DESIGN CHOICE: R47 and R200 take the
levels as the outside presents them (assumption log 2). -/
def quietLevels : ResetLevels where
  haltAsserted := false
  sampleLinkLocked := true
  viewerLinkUp := true
  archiveLinkUp := true

/-- The machine right after device reset, its queue empty. -/
def State.reset : State := resetWith quietLevels

end Sys2Proof.Machine
end

