-- ==== Sys2Proof/Machine/Ops.lean ====
section
/-!
DEFINITION. The shared operations on memory, on the Block Table and the Segment Index, the arithmetic from LBN to store
address, the values the Ring Manager derives, and the request slots and responses of the two message ports.
-/
namespace Sys2Proof.Machine

/-! ## The stacked DRAM (R1, R159) -/

/-- The defined contents of a store byte; `none` where nothing is defined. -/
def Memory.read (m : List Host.Cell) (address : Nat) : Option Byte :=
  (m.find? fun c => c.1 = address).map Prod.snd

/-- Write bytes at consecutive addresses, keeping the list's addresses strictly rising. -/
def Memory.write (m : List Host.Cell) (address : Nat) (bytes : List Byte) : List Host.Cell :=
  m.filter (fun c => c.1 < address) ++ (bytes.zipIdx address).map (fun p => (p.2, p.1))
    ++ m.filter (fun c => address + bytes.length ≤ c.1)

/-- Forget the contents of the addresses from `lo` up to but not including `hi`. -/
def Memory.forget (m : List Host.Cell) (lo hi : Nat) : List Host.Cell :=
  m.filter fun c => c.1 < lo || hi ≤ c.1

/-- The canonical form: addresses strictly rising. An unlisted address reads as no value, so no entry can equal it. -/
def Memory.wf (m : List Host.Cell) : Bool :=
  decide ((m.map Prod.fst).Pairwise (· < ·))

/-- The bytes a read of `length` bytes delivers. A byte with no defined contents is a free value (assumption log 3). -/
def Memory.deliver (m : List Host.Cell) (draw address length : Nat) : List Byte :=
  (List.range length).map fun i => (Memory.read m (address + i)).getD (Config.undefinedByte draw (address + i))

/-- The bytes of a bank group (R1). -/
def groupBytes : Nat := 4294967296

/-- The bytes of a block (R1). -/
def blockBytes : Nat := 4194304

/-- The largest LBN number, 2^40 − 1, which is not assigned (R3, R4). -/
def lastLbn : Nat := 1099511627775

/-- 2^48 − 1, the segment number that is not assigned (R61). -/
def lastSegment : Nat := 281474976710655

/-! ## Changing one part of the state -/

/-- Change Capture Control's state. -/
def State.mapControl (s : State) (f : Control → Control) : State :=
  { s with control := f s.control }

/-- Change the Block Assembler's state. -/
def State.mapAssembler (s : State) (f : Assembler → Assembler) : State :=
  { s with assembler := f s.assembler }

/-- Change the Sample Link Receiver's state. -/
def State.mapLink (s : State) (f : Link → Link) : State :=
  { s with link := f s.link }

/-- Change the Store Channel's state. -/
def State.mapStore (s : State) (f : Store → Store) : State :=
  { s with store := f s.store }

/-- Change the ring's pointers, Block Table and band. -/
def State.mapRing (s : State) (f : Ring → Ring) : State :=
  { s with ring := f s.ring }

/-- Change the Drain Engine's state. -/
def State.mapDrain (s : State) (f : Drain → Drain) : State :=
  { s with drain := f s.drain }

/-! ## Ring geometry (R2, R5) -/

/-- Ring capacity C in blocks: 1,024 times the span (R2). -/
def State.capacity (s : State) : Nat :=
  1024 * s.power.groupMap.length

/-- The ring position of an LBN (R5). -/
def State.position (s : State) (lbn : Nat) : Nat :=
  lbn % s.capacity

/-- The physical group of an LBN's block: the Group Map entry of its ring slot (R5). -/
def State.groupOf (s : State) (lbn : Nat) : Fin 16 :=
  s.power.groupMap.getD (s.position lbn / 1024) 0

/-- The store byte address of byte b of an LBN's block (R1, R5). -/
def State.storeAddress (s : State) (lbn b : Nat) : Nat :=
  (s.groupOf lbn).val * groupBytes + s.position lbn % 1024 * blockBytes + b

/-- The group is Active (R166); Off, Retain and Changing are not. -/
def State.groupActive (s : State) (g : Fin 16) : Bool :=
  decide (s.power.groups[g].state = .settled .active)

/-- The group of an LBN's block is Active. -/
def State.blockActive (s : State) (lbn : Nat) : Bool :=
  s.groupActive (s.groupOf lbn)

/-! ## The Block Table (R6) -/

/-- The record of the block with this LBN, if it is held. -/
def State.findBlock (s : State) (lbn : Nat) : Option Block :=
  s.ring.blocks.find? fun b => b.lbn = lbn

/-- Change the record of the block with this LBN. -/
def State.mapBlock (s : State) (lbn : Nat) (f : Block → Block) : State :=
  s.mapRing fun r => { r with blocks := r.blocks.map fun b => if b.lbn = lbn then f b else b }

/-- The Filling block (R7). -/
def State.fillingBlock (s : State) : Option Block :=
  s.ring.blocks.find? fun b => b.state = .filling

/-- The oldest held block (R6). -/
def State.tailBlock (s : State) : Option Block :=
  s.ring.blocks.head?

/-- The blocks a drain context claims, in LBN order (R111): those the Block Table shows Claimed by it. -/
def State.claims (s : State) (ctx : Fin 4) : List Block :=
  s.ring.blocks.filter fun b => b.state = .claimed ctx

/-- The block counts as unarchived (R13). -/
def Block.unarchived (b : Block) : Bool :=
  b.archiveRequired && decide (b.state ≠ .archived)

/-! ## ArchiveFront, HoldFloor and Headroom -/

/-- ArchiveFront: the oldest held block that is Archive Required and not Archived, or Head (R13). -/
def State.archiveFront (s : State) : Nat :=
  match s.ring.blocks.find? Block.unarchived with
  | some b => b.lbn
  | none => s.ring.head

/-- The smaller of a number and an optional one. -/
def minWith (n : Nat) : Option Nat → Nat
  | some m => min n m
  | none => n

/-- HoldFloor: the smaller of ArchiveFront and the smallest Range First of the Live pins (R14). -/
def State.holdFloor (s : State) : Nat :=
  s.pins.toList.foldl (fun n p => minWith n (p.map PinRange.first)) s.archiveFront

/-- Headroom: C − (Head − HoldFloor) (R14). -/
def State.headroom (s : State) : Nat :=
  s.capacity - (s.ring.head - s.holdFloor)

/-! ## The Segment Index -/

/-- The entry is Open (R74). -/
def Entry.isOpen (e : Entry) : Bool :=
  e.closeReason.isNone

/-- Points: Byte Length / bpp, the index of the next point to be placed (R62). -/
def Entry.points (e : Entry) : Nat :=
  e.byteLength / e.bpp

/-- Next Tick: First Tick + (Points + Total Points Lost) × D, modulo 2^64 (R63). -/
def Entry.nextTick (e : Entry) : Tick :=
  e.firstTick + BitVec.ofNat 64 ((e.points + e.totalLost.toNat) * e.tickStep)

/-- None of the entry's blocks is held (R83). -/
def Entry.emptied (e : Entry) : Bool :=
  decide (e.presentFrom = e.firstLbn + e.blockCount)

/-- The Open entry (R75). -/
def State.openEntry (s : State) : Option Entry :=
  s.index.find? Entry.isOpen

/-- The entry with this Segment Number. -/
def State.findEntry (s : State) (number : Nat) : Option Entry :=
  s.index.find? fun e => e.number = number

/-- Change the Open entry. -/
def State.mapOpen (s : State) (f : Entry → Entry) : State :=
  { s with index := s.index.map fun e => if e.isOpen then f e else e }

/-- Change the entry with this Segment Number. -/
def State.mapEntry (s : State) (number : Nat) (f : Entry → Entry) : State :=
  { s with index := s.index.map fun e => if e.number = number then f e else e }

/-- Retire the Closed entries none of whose blocks is held (R83). -/
def State.retire (s : State) : State :=
  { s with index := s.index.filter fun e => e.isOpen || !e.emptied }

/-! ## Intake (R35) -/

/-- The item is a frame; markers occupy no place. -/
def IntakeItem.isFrame : IntakeItem → Bool
  | .frame _ _ => true
  | .resyncMarker _ => false
  | .haltMarker _ => false

/-- Occupancy: the number of frames held (R35). -/
def State.occupancy (s : State) : Nat :=
  s.link.intake.countP IntakeItem.isFrame

/-- Capture takes frames: Running or Stopping, and no Orderly halt in progress (R34). -/
def State.takingFrames (s : State) : Bool :=
  decide (s.control.capture = .running ∨ s.control.capture = .stopping) && !s.control.orderlyHalt

/-- Change the Stream Counts record. -/
def State.count (s : State) (f : StreamCounts → StreamCounts) : State :=
  s.mapLink fun l => { l with counts := f l.counts }

/-- Put the admission request in its queue when a frame stands at the front of intake and its working is not waiting on a
read (R48, R153). A request already placed stays. -/
def State.present (s : State) : State :=
  let frameInFront := (s.link.intake.head?.map IntakeItem.isFrame).getD false
  s.mapStore fun t => { t with admission := frameInFront && (s.assembler.stage.isNone || t.admission) }

/-! ## Notices and responses -/

/-- The number of a notice kind (R191). -/
def NoticeKind.number : NoticeKind → Nat
  | .mediaError => 0
  | .captureStopped => 1
  | .overrunLoss => 2
  | .bandCritical => 3
  | .bandPressed => 4
  | .bandRelaxed => 5
  | .indexFull => 6
  | .segmentClosed => 7
  | .blockSealed => 8
  | .headMark => 9
  | .archiveMark => 10
  | .groupsSettled => 11
  | .linkFault => 12

/-- The notice kinds in priority order (R191). -/
def NoticeKind.all : List NoticeKind :=
  [.mediaError, .captureStopped, .overrunLoss, .bandCritical, .bandPressed, .bandRelaxed, .indexFull, .segmentClosed,
    .blockSealed, .headMark, .archiveMark, .groupsSettled, .linkFault]

/-- The set that holds one kind. -/
def NoticeKind.single (k : NoticeKind) : NoticeSet :=
  BitVec.ofNat 13 (2 ^ k.number)

/-- Bring the notice line up to date: asserted while a kind is both pending and enabled (R193). -/
def NoticeUnit.drive (u : NoticeUnit) : NoticeUnit :=
  { u with line := decide (u.pending &&& u.mask ≠ 0) }

/-- The Top Notice: the lowest-numbered kind both pending and enabled (R193). -/
def NoticeUnit.top (u : NoticeUnit) : Option NoticeKind :=
  NoticeKind.all.find? fun k => (u.pending &&& u.mask).getLsbD k.number

/-- The state of a port. -/
def State.port (s : State) : Port → PortState
  | .viewer => s.viewerPort
  | .archive => s.archivePort

/-- Change the state of a port. -/
def State.mapPort (s : State) (p : Port) (f : PortState → PortState) : State :=
  match p with
  | .viewer => { s with viewerPort := f s.viewerPort }
  | .archive => { s with archivePort := f s.archivePort }

/-- Change a port's Notice Unit and bring its line up to date (R192, R193). -/
def State.mapNotices (s : State) (p : Port) (f : NoticeUnit → NoticeUnit) : State :=
  s.mapPort p fun q => { q with notices := (f q.notices).drive }

/-- A response leaves the port. Its Top Notice is filled in at the end of the act (R193). -/
def State.send (s : State) (r : Response) : State :=
  { s with sent := s.sent ++ [r] }

/-- Free the slot that holds a tag (R196). -/
def State.freeSlot (s : State) (p : Port) (tag : Byte) : State :=
  s.mapPort p fun q => { q with slots := q.slots.filter fun x => x.tag ≠ tag }

/-- Answer a request that holds a slot: its response leaves and its slot becomes free (R196, R197). -/
def State.answerWith (s : State) (p : Port) (tag : Byte) (kind : RequestKind) (status : Status) (result : Result)
    (data : List Byte) : State :=
  (s.freeSlot p tag).send
    { port := p, tag := tag, kind := kind.code, status := status, top := none, result := result, data := data }

/-- Answer a request with result fields and no data. -/
def State.answer (s : State) (p : Port) (tag : Byte) (kind : RequestKind) (status : Status) (result : Result) : State :=
  s.answerWith p tag kind status result []

/-- Refuse a request that holds a slot: no result fields, no data (R197). -/
def State.refuse (s : State) (p : Port) (tag : Byte) (kind : RequestKind) (status : Status) : State :=
  s.answer p tag kind status .none

/-- Answer a message that takes no slot (R195). -/
def State.reject (s : State) (p : Port) (tag : Byte) (kind : BitVec 8) (status : Status) : State :=
  s.send { port := p, tag := tag, kind := kind, status := status, top := none, result := .none, data := [] }

/-- Occupy a free slot (R195, R196). -/
def State.occupy (s : State) (p : Port) (tag : Byte) (kind : RequestKind) : State :=
  s.mapPort p fun q => { q with slots := q.slots ++ [{ tag := tag, kind := kind, progress := .answering }] }

/-- Record the progress of a request at its owning block (R196). -/
def State.setProgress (s : State) (p : Port) (tag : Byte) (progress : Progress) : State :=
  s.mapPort p fun q =>
    { q with slots := q.slots.map fun x => if x.tag = tag then { x with progress := progress } else x }

/-- Begin an act: no response of it has left yet. -/
def State.beginAct (s : State) : State :=
  { s with sent := [] }

/-- End an act: every response of the act carries the Top Notice that stands now (R193, R197). -/
def State.endAct (s : State) : State :=
  { s with sent := s.sent.map fun r => { r with top := (s.port r.port).notices.top } }

/-- A message arrives whole at a port, whose link is therefore up (R195, R200). -/
def State.arrive (s : State) (p : Port) : State :=
  s.beginAct.mapPort p fun q => { q with linkUp := true }

/-- The tests a request message meets at its port and, when it passes them, its routing to the owning block (R195, R203):
framing, a free slot, the tag, then the slot is taken and the body's length is checked against the parameter fields. DESIGN CHOICE (assumption
log 23): a request is answered after its effects, so the responses of the Takes and Waits they serve leave before its own. -/
def State.request (s : State) (p : Port) (kind : RequestKind) (h : Header) (bodyBytes : Nat) (act : State → State) : State :=
  let s := s.arrive p
  State.endAct <|
    if h.bodyLength.toNat ≠ h.received then s.reject p h.tag kind.code .badParam
    else if 16 ≤ (s.port p).slots.length then s.reject p h.tag kind.code .busy
    else if (s.port p).slots.any fun x => x.tag = h.tag then s.reject p h.tag kind.code .duplicateTag
    else if h.received ≠ bodyBytes then (s.occupy p h.tag kind).refuse p h.tag kind .badParam
    else act (s.occupy p h.tag kind)

/-- A step of the part that is no request: an event or one of its own acts. -/
def State.act (s : State) (f : State → State) : State :=
  (f s.beginAct).endAct

end Sys2Proof.Machine
end

