-- ==== Sys2Proof/Machine/Flags.lean ====
section
/-!
DEFINITION. Notices, events and sync flags: raising a notice kind in both Notice Units, setting a flag and serving its
parked waits, and raising an event (R184, R188, R191).
-/
namespace Sys2Proof.Machine

/-- The events that go to both Notice Units and to the Sync Flag Unit (R184). -/
inductive Event where
  | segmentClosed
  | blockSealed
  | bandPressed
  | bandCritical
  | bandRelaxed
  | headMark
  | archiveMark
  | captureStopped
  | mediaError
  | groupsSettled
  deriving DecidableEq, Repr

/-- The notice kind of an event (R191). -/
def Event.notice : Event → NoticeKind
  | .segmentClosed => .segmentClosed
  | .blockSealed => .blockSealed
  | .bandPressed => .bandPressed
  | .bandCritical => .bandCritical
  | .bandRelaxed => .bandRelaxed
  | .headMark => .headMark
  | .archiveMark => .archiveMark
  | .captureStopped => .captureStopped
  | .mediaError => .mediaError
  | .groupsSettled => .groupsSettled

/-- The Source that names an event (R184); entry to Pressed and entry to Critical have one Source. -/
def Event.source : Event → FlagSource
  | .segmentClosed => .segmentClosed
  | .blockSealed => .blockSealed
  | .bandPressed => .bandPressedOrCritical
  | .bandCritical => .bandPressedOrCritical
  | .bandRelaxed => .bandRelaxed
  | .headMark => .headMark
  | .archiveMark => .archiveMark
  | .captureStopped => .captureStopped
  | .mediaError => .mediaError
  | .groupsSettled => .groupsSettled

/-- The band's event (R27). -/
def Band.event : Band → Event
  | .relaxed => .bandRelaxed
  | .pressed => .bandPressed
  | .critical => .bandCritical

/-- A notice kind joins the Pending set of both Notice Units (R191). -/
def State.raiseNotice (s : State) (k : NoticeKind) : State :=
  (s.mapNotices .viewer fun u => { u with pending := u.pending ||| k.single }).mapNotices .archive
    fun u => { u with pending := u.pending ||| k.single }

/-- What serving a flag's parked waits gives: the waits completed, oldest first, each with the flag's Value after it
completed; the waits that stay parked; and the flag's Value (R188). -/
structure Serving where
  served : List (ParkedWait × Bool)
  kept : List ParkedWait
  value : Bool
  deriving DecidableEq, Repr

/-- Serve the parked waits of a flag just set, oldest first: every Peek wait up to the first Consume wait, and that one, which
clears the flag (R188). -/
def serveWaits : List ParkedWait → Serving
  | [] => { served := [], kept := [], value := true }
  | w :: rest =>
    match w.mode with
    | .consume => { served := [(w, false)], kept := rest, value := false }
    | .peek =>
      let later := serveWaits rest
      { later with served := (w, true) :: later.served }

/-- Replace a flag. -/
def State.putFlag (s : State) (i : Fin 8) (f : SyncFlag) : State :=
  { s with flags := s.flags.set i f }

/-- Complete a parked wait of a flag with OK (R187, R188). -/
def State.completeWait (s : State) (i : Fin 8) (done : ParkedWait × Bool) : State :=
  s.answer done.1.port done.1.tag .wait .ok (.waited i done.1.mode done.2)

/-- Set a flag: a Clear flag becomes Set and serves its parked waits; a Set flag stays as it is (R184, R185, R188). -/
def State.setFlag (s : State) (i : Fin 8) : State :=
  if s.flags[i].value then s
  else
    let serving := serveWaits s.flags[i].waits
    serving.served.foldl (fun s done => s.completeWait i done)
      (s.putFlag i { s.flags[i] with value := serving.value, waits := serving.kept })

/-- The number of parked waits that setting a flag completes (R185). -/
def State.servedBySet (s : State) (i : Fin 8) : Nat :=
  if s.flags[i].value then 0 else (serveWaits s.flags[i].waits).served.length

/-- Raise an event: its notice kind in both Notice Units, then every flag whose Source names it (R184, R191). DESIGN CHOICE (assumption log
24): several flags with the same Source are set in the order of their numbers, lowest first, and so are the responses of the waits each of them
serves; R183, R184 and R197 give no order. -/
def State.raise (s : State) (e : Event) : State :=
  (List.finRange 8).foldl (fun s i => if s.flags[i].source = e.source then s.setFlag i else s) (s.raiseNotice e.notice)

end Sys2Proof.Machine
end

