-- ==== Sys2Proof/Machine/Ring.lean ====
section
/-!
DEFINITION. The Ring Manager's shared acts: the band, the Pause line that follows it, the profile in force, the drain order
and the parked takes, the examination of the Tail block, and blocks leaving the ring.
-/
namespace Sys2Proof.Machine

/-! ## The band (R25, R26, R27) and the Pause line (R40) -/

/-- The band after a re-evaluation with hysteresis: the first row of R25 that matches, else the present band. -/
def bandMove (band : Band) (headroom p k h : Nat) : Band :=
  match band with
  | .relaxed => if headroom ≤ k then .critical else if headroom ≤ p then .pressed else .relaxed
  | .pressed => if headroom ≤ k then .critical else if p + h < headroom then .relaxed else .pressed
  | .critical => if p + h < headroom then .relaxed else if k + h < headroom then .pressed else .critical

/-- The band evaluated from no present band (R26). -/
def bandFresh (headroom p k : Nat) : Band :=
  if headroom ≤ k then .critical else if headroom ≤ p then .pressed else .relaxed

/-- The Pause line after occupancy has fallen, the band has changed or a swap has been taken (R40): asserted while the band is
Critical with Pause On Critical set, otherwise deasserted at an occupancy of 16 or less, otherwise as it was. -/
def State.updatePause (s : State) : State :=
  let pause :=
    if s.ring.band = .critical ∧ s.control.active.pauseOnCritical then true
    else if s.occupancy ≤ 16 then false
    else s.link.pause
  s.mapLink fun l => { l with pause := pause }

/-- The band takes a value; a change raises its event and acts on the Pause line (R27, R40). -/
def State.setBand (s : State) (band : Band) : State :=
  if band = s.ring.band then s
  else ((s.mapRing fun r => { r with band := band }).raise band.event).updatePause

/-- Re-evaluate the band with hysteresis (R25). -/
def State.reband (s : State) : State :=
  s.setBand (bandMove s.ring.band s.headroom s.control.active.pressed s.control.active.critical s.control.active.hysteresis)

/-- Evaluate the band without hysteresis (R26). -/
def State.rebandFresh (s : State) : State :=
  s.setBand (bandFresh s.headroom s.control.active.pressed s.control.active.critical)

/-! ## The profile in force (R104, R105) -/

/-- Bytes per point of a profile (R62). -/
def Profile.bpp (p : Profile) : Nat :=
  p.sampleWidth * p.channelCount

/-- The effective values of a profile under ring capacity C (R104). -/
def Profile.effective (p : Profile) (capacity : Nat) : Profile :=
  { p with
    pressed := min p.pressed capacity
    critical := if capacity < p.pressed ∧ capacity ≤ p.critical then capacity - 1 else p.critical
    sliceLength := max p.sliceLength (8192 / p.bpp) }

/-- The Clamped set: the fields whose effective value differs from the requested one, in the order of R101, each with its value
in the profile `values` (R103, R104, R106). -/
def Profile.clamped (effective requested values : Profile) : List ClampedField :=
  (if effective.pressed ≠ requested.pressed then [.pressed values.pressed] else [])
    ++ (if effective.critical ≠ requested.critical then [.critical values.critical] else [])
    ++ (if effective.sliceLength ≠ requested.sliceLength then [.sliceLength values.sliceLength] else [])

/-- The Staged copy becomes active (R104): its fields as the requested values, the effective values from them and the present
C, Swap Pending clear, the band evaluated without hysteresis and the Pause line brought up to date. -/
def State.activate (s : State) : State :=
  ((s.mapControl fun c =>
    { c with requested := c.staged, active := c.staged.effective s.capacity, swapPending := false }).rebandFresh).updatePause

/-- Re-clamp the active profile from its requested values and the present C (R105). -/
def State.reclamp (s : State) : State :=
  s.mapControl fun c => { c with active := c.requested.effective s.capacity }

/-! ## Drain windows, claims and parked takes (R113 to R119) -/

/-- The window covers an LBN (R113). -/
def Window.covers (w : Window) (lbn : Nat) : Bool :=
  decide (w.first ≤ lbn) && (decide (w.length = 0) || decide (lbn < w.first + w.length))

/-- The window is bounded and its end is at or below ArchiveFront (R113). -/
def Window.done (w : Window) (archiveFront : Nat) : Bool :=
  decide (w.length ≠ 0) && decide (w.first + w.length ≤ archiveFront)

/-- The block is in the drain order: Sealed with Archive Required set (R114). -/
def Block.drainable (b : Block) : Bool :=
  decide (b.state = .sealed) && b.archiveRequired

/-- The Claim record of a block, with the segment facts of the moment (R84, R116). -/
def State.claimRecord (s : State) (b : Block) : ClaimRecord :=
  let entry := s.findEntry b.segment
  { lbn := b.lbn
    segment := b.segment
    fillBytes := b.fillBytes
    firstOfSegment := (entry.map fun e => decide (b.lbn = e.firstLbn)).getD false
    lastOfSegment := (entry.map fun e => !e.isOpen && decide (b.lbn + 1 = e.firstLbn + e.blockCount)).getD false
    damaged := b.damaged }

/-- A block becomes Claimed by a context (R10, R116). -/
def State.claimBlock (s : State) (lbn : Nat) (ctx : Fin 4) : State :=
  s.mapBlock lbn fun b => { b with state := .claimed ctx }

/-- A parked take leaves the arrival order (R117). -/
def State.unpark (s : State) (t : ParkedTake) : State :=
  s.mapDrain fun d => { d with parkedTakes := d.parkedTakes.filter fun x => x ≠ t }

/-- The oldest parked take whose context's window covers an LBN (R118). -/
def State.takerOf (s : State) (lbn : Nat) : Option ParkedTake :=
  s.drain.parkedTakes.find? fun t => (s.drain.contexts[t.ctx].map fun w => w.covers lbn).getD false

/-- A block has joined the drain order: offer it to the parked takes, oldest first. The first whose window covers it is served
and the block is claimed for it (R118). -/
def State.offer (s : State) (lbn : Nat) : State :=
  match s.takerOf lbn, s.findBlock lbn with
  | some t, some b =>
    ((s.unpark t).claimBlock lbn t.ctx).answer .archive t.tag .take .ok (.claim (s.claimRecord b))
  | _, _ => s

/-- The parked takes whose bounded window is done complete with WINDOW_DONE (R119). DESIGN CHOICE (assumption log 12): where several are done in
one act, their responses leave in arrival order, oldest first; R119 and R197 give no order. -/
def State.endDoneTakes (s : State) : State :=
  let done := s.drain.parkedTakes.filter fun t =>
    (s.drain.contexts[t.ctx].map fun w => w.done s.archiveFront).getD false
  done.foldl (fun s t => (s.unpark t).refuse .archive t.tag .take .windowDone) s

/-- Every parked take completes with EMPTY (R120). DESIGN CHOICE (assumption log 12): their responses leave in arrival order, oldest first; R120 and
R197 give no order. -/
def State.endParkedTakes (s : State) : State :=
  s.drain.parkedTakes.foldl (fun s t => (s.unpark t).refuse .archive t.tag .take .empty) s

/-! ## Bringing the ring up to date (R13, R14, R25, R109, R119) -/

/-- Test an armed Archive Mark against ArchiveFront; it fires when its LBN is at or below it (R109). -/
def State.testArchiveMark (s : State) : State :=
  match s.control.archiveMark with
  | some lbn =>
    if lbn ≤ s.archiveFront then (s.mapControl fun c => { c with archiveMark := none }).raise .archiveMark else s
  | none => s

/-- At the end of an act that changed Head, Tail or a block's archiving: re-evaluate the band, and if ArchiveFront has moved
from where the act found it, test the Archive Mark and the bounded parked takes, in the order of R126. -/
def State.settleRing (s : State) (before : Nat) : State :=
  let s := s.reband
  if s.archiveFront = before then s else s.testArchiveMark.endDoneTakes

/-! ## The Tail block (R12, R16, R17, R22) -/

/-- The class of a Tail block (R16). -/
inductive TailClass where
  | recyclable
  | readBound
  | evictable
  | held
  deriving DecidableEq, Repr

/-- Classify a Tail block under an Overrun Policy (R16). A Filling block, which R16 says is never met, does not leave (R12). -/
def Block.classify (b : Block) (policy : OverrunPolicy) : TailClass :=
  if b.pinCount ≠ 0 then .held
  else
    match b.state with
    | .filling => .held
    | .claimed _ => .held
    | .archived => if b.readsInFlight = 0 then .recyclable else .readBound
    | .sealed =>
      if b.archiveRequired then
        match policy with
        | .overwrite => if b.readsInFlight = 0 then .evictable else .readBound
        | .drop => .held
        | .stop => .held
      else if b.readsInFlight = 0 then .recyclable
      else .readBound

/-- The leaving report for a block: its entry's Present From LBN advances, an eviction adds its points and sets
FrontEvictedUnarchived, and the retirement test is made (R82, R83). -/
def State.leavingReport (s : State) (b : Block) (evicted : Bool) : State :=
  State.retire <|
    s.mapEntry b.segment fun e =>
      { e with
        presentFrom := e.presentFrom + 1
        evictedUnarchived :=
          if evicted then e.evictedUnarchived + BitVec.ofNat 64 (b.fillBytes / e.bpp) else e.evictedUnarchived
        frontEvicted := e.frontEvicted || evicted }

/-- The Tail block's record becomes Empty and Tail increases by one (R12). -/
def State.emptyTail (s : State) : State :=
  s.mapRing fun r => { r with blocks := r.blocks.tail, tail := r.tail + 1 }

/-- The Tail block leaves the ring by recycling (R12, R17). -/
def State.recycleTail (s : State) (b : Block) : State :=
  s.emptyTail.leavingReport b false

/-- The Tail block leaves the ring as Evicted Unarchived (R12, R22). -/
def State.evictTail (s : State) (b : Block) : State :=
  ((s.emptyTail.leavingReport b true).count
    fun c => { c with blocksEvictedUnarchived := c.blocksEvictedUnarchived + 1 }).raiseNotice .overrunLoss

end Sys2Proof.Machine
end

