-- ==== Sys2Proof/Machine/Segments.lean ====
section
/-!
DEFINITION. The Block Assembler's and Capture Control's shared acts: sealing a block, recording losses and gaps, closing the
open segment, discarding intake, and entering Stopped.
-/
namespace Sys2Proof.Machine

/-! ## Seal (R9, R51) -/

/-- Seal the Filling block, if there is one: it becomes Sealed, Blocks Sealed increases, BlockSealed is raised, and the block is
offered to the parked takes when its Archive Required is set (R9, R51, R118). -/
def State.sealFilling (s : State) : State :=
  match s.fillingBlock with
  | none => s
  | some b =>
    let s := s.mapBlock b.lbn fun b => { b with state := .sealed }
    let s := s.count fun c => { c with blocksSealed := c.blocksSealed + 1 }
    let s := s.raise .blockSealed
    if b.archiveRequired then s.offer b.lbn else s

/-! ## Gaps (R65, R78) -/

/-- Record a gap in an entry's Gap List: merge into the newest record at the same Position, append, or fold into the fourth
record as an overflow; in every case its Points Lost join Total Points Lost (R65, R78). -/
def Entry.addGap (e : Entry) (lost : BitVec 64) (cause : GapCause) (mixed : Bool) : Entry :=
  let fresh : Gap := { position := e.points, pointsLost := lost, cause := cause, mixed := mixed }
  let e := { e with totalLost := e.totalLost + lost }
  match e.gaps.getLast? with
  | none => { e with gaps := [fresh] }
  | some g =>
    if g.position = e.points then
      { e with gaps := e.gaps.dropLast ++ [{ g with pointsLost := g.pointsLost + lost, mixed := true }] }
    else if e.gaps.length < 4 then { e with gaps := e.gaps ++ [fresh] }
    else { e with gaps := e.gaps.dropLast ++ [{ g with pointsLost := g.pointsLost + lost }], gapOverflow := true }

/-- The slice counter, when present, decreases by a number of points (R65, R70). -/
def State.spendSlice (s : State) (points : Nat) : State :=
  s.mapAssembler fun a => { a with sliceCounter := a.sliceCounter.map fun c => c - (points : Int) }

/-- Record a gap against the open segment, if one is open (R65). -/
def State.recordGap (s : State) (lost : Nat) (cause : GapCause) (mixed : Bool) : State :=
  match s.openEntry with
  | none => s
  | some _ => (s.mapOpen fun e => e.addGap (BitVec.ofNat 64 lost) cause mixed).spendSlice lost

/-- The gap Cause of a loss record's First Cause (R66). -/
def LossCause.gapCause : LossCause → GapCause
  | .sequence => .sequence
  | .intake => .intake

/-- The exact part X of a loss record in points (R66). -/
def LossRecord.exact (r : LossRecord) (bpp : Nat) : Nat :=
  r.droppedBytes / bpp

/-- The estimate E of a loss record in points: each missing frame taken as a full-size payload (R66). -/
def LossRecord.estimate (r : LossRecord) (bpp : Nat) : Nat :=
  r.missingFrames * (8192 / bpp) + r.exact bpp

/-- Points Lost of a loss record worked against an entry, and whether the stamp is in conflict (R66, R67). -/
def Entry.lossOf (e : Entry) (r : LossRecord) (stamp : Option Tick) : Nat × Bool :=
  if r.missingFrames = 0 then (r.exact e.bpp, false)
  else
    match stamp with
    | none => (r.estimate e.bpp, false)
    | some t =>
      if e.nextTick.toNat ≤ t.toNat ∧ r.exact e.bpp ≤ (t.toNat - e.nextTick.toNat) / e.tickStep then
        ((t.toNat - e.nextTick.toNat) / e.tickStep, false)
      else (r.estimate e.bpp, true)

/-- Act on a loss record: with a segment open it becomes one gap of it, corrected by the carrying frame's Stamp where R67 accepts
it; with none open it is recorded in no gap (R66, R67, R69). -/
def State.recordLoss (s : State) (loss : Option LossRecord) (stamp : Option Tick) : State :=
  match loss, s.openEntry with
  | some r, some e =>
    let found := e.lossOf r stamp
    (s.mapOpen fun e => { e with stampConflict := e.stampConflict || found.2 }).recordGap found.1 r.firstCause.gapCause
      (decide (1 < r.parts))
  | _, _ => s

/-! ## Discard of intake and entry to Stopped (R39, R95) -/

/-- Discard the whole intake order: each frame is counted in Frames Discarded; markers, loss records and the pending loss record
are removed; a wait at the front ends and the admission request is withdrawn (R39, R153). -/
def State.discardIntake (s : State) : State :=
  let frames := s.occupancy
  let s := s.count fun c => { c with framesDiscarded := c.framesDiscarded + BitVec.ofNat 64 frames }
  let s := s.mapLink fun l => { l with intake := [], pendingLoss := none }
  let s := s.mapAssembler fun a => { a with stage := none }
  let s := s.mapStore fun t => { t with admission := false }
  s.updatePause

/-- Capture enters Stopped (R95): intake is discarded, Continuation and an Orderly halt end, the state and reason are recorded,
Capture Enable falls, a pending swap is taken, CaptureStopped is raised, and the parked takes end EMPTY. -/
def State.enterStopped (s : State) (reason : StopReason) : State :=
  let s := s.discardIntake
  let s := s.mapAssembler fun a => { a with continuation := none }
  let s := s.mapControl fun c =>
    { c with capture := .stopped, stopReason := reason, stoppingReason := none, orderlyHalt := false }
  let s := s.mapLink fun l => { l with captureEnable := false }
  let s := if s.control.swapPending then s.activate else s
  (s.raise .captureStopped).endParkedTakes

/-! ## Segment close (R59, R71, R94) -/

/-- The carried value of a Slice close: L − (e mod L), where e is the counter with its sign changed (R71). -/
def carriedValue (counter : Int) (sliceLength : Nat) : Nat :=
  sliceLength - (-counter).toNat % sliceLength

/-- The Continuation a Slice close leaves: the segment's Next Tick, the carried value, and its bpp and D (R59 step 5, R71). -/
def State.continuationOf (s : State) (e : Entry) : Continuation where
  nextTick := e.nextTick
  carried := s.assembler.sliceCounter.map fun c => carriedValue c s.control.active.sliceLength
  bpp := e.bpp
  tickStep := e.tickStep

/-- Steps 4 and 5 of a close: the idle-flush timer and the slice counter end, and Continuation is set where one is given
(R59). -/
def State.clearTimers (s : State) (next : Option Continuation) : State :=
  s.mapAssembler fun a =>
    { a with idleFlush := none, sliceCounter := none, continuation := next.or a.continuation }

/-- Close the open segment, if one is open: seal its block, close its entry and make the retirement test, raise SegmentClosed,
cancel the idle-flush timer and the slice counter, and for reason Slice keep Continuation (R59, R71, R80, R83). -/
def State.closeSegment (s : State) (reason : CloseReason) : State :=
  match s.openEntry with
  | none => s
  | some e =>
    let next := if reason = .slice then some (s.continuationOf e) else none
    (((s.sealFilling.mapOpen fun e => { e with closeReason := some reason }).retire.raise .segmentClosed).clearTimers next)

/-- The stop reason when the open segment's close ends Stopping: Halt if an Orderly halt is in progress, else the Stopping reason
(R94). -/
def Control.reasonAfterClose (c : Control) : StopReason :=
  if c.orderlyHalt then .halt
  else
    match c.stoppingReason with
    | some .headMark => .headMark
    | some .stop => .stop
    | none => .stop

/-- Close the open segment in the course of capture and tell Capture Control, which in Stopping enters Stopped in the same act
(R59 step 6, R94). With no segment open nothing closes. -/
def State.closeInCourse (s : State) (reason : CloseReason) : State :=
  match s.openEntry with
  | none => s
  | some _ =>
    let s := s.closeSegment reason
    if s.control.capture = .stopping then s.enterStopped s.control.reasonAfterClose else s

/-- Stop at once, as Stop(Now) and a Halt in Immediate mode do (R93, R97): intake is discarded, the open segment closes with the
reason, and capture enters Stopped. -/
def State.stopAtOnce (s : State) (close : CloseReason) (reason : StopReason) : State :=
  (s.discardIntake.closeSegment close).enterStopped reason

/-! ## The Head Mark (R108) -/

/-- Test an armed Head Mark against Head; it fires when Head is equal to or above its LBN, and for Action Stop the capture state
decides what follows (R108). -/
def State.testHeadMark (s : State) : State :=
  match s.control.headMark with
  | none => s
  | some m =>
    if m.lbn ≤ s.ring.head then
      let s := (s.mapControl fun c => { c with headMark := none }).raise .headMark
      if m.action = .stop ∧ s.control.capture = .running then
        if s.openEntry.isSome then
          s.mapControl fun c => { c with capture := .stopping, stoppingReason := some .headMark }
        else s.enterStopped .headMark
      else s
    else s

end Sys2Proof.Machine
end

