-- ==== Sys2Proof/Machine/Assembly.lean ====
section
/-!
DEFINITION. The Block Assembler's commands: ADMISSION_GRANT, HALT_MARKER_WORKED, RESYNC_MARKER_WORKED, IDLE_FLUSH_EXPIRY and
FLUSH (chapters 1, 3 and 4), with the choice among the classes of the Store Channel that a grant follows (R155, R156).
-/
namespace Sys2Proof.Machine

/-! ## Whose grant is next (R155, R156, R157) -/

/-- The three classes of the Store Channel (R152). -/
inductive GrantClass where
  | admission
  | archive
  | viewer
  deriving DecidableEq, Repr

/-- The read class the band of the moment prefers (R156). Viewer requests are not eligible in Critical (R157). -/
def State.readChoice (s : State) : Option GrantClass :=
  let archive := !s.store.archiveQueue.isEmpty
  let viewer := !s.store.viewerQueue.isEmpty
  match s.ring.band with
  | .critical => if archive then some .archive else none
  | .pressed => if archive then some .archive else if viewer then some .viewer else none
  | .relaxed =>
    match s.store.turn with
    | .archive => if archive then some .archive else if viewer then some .viewer else none
    | .viewer => if viewer then some .viewer else if archive then some .archive else none

/-- The class whose request the Store Channel grants next, if a grant is due: fewer than three operations in flight and a
request eligible; an admission request before any read (R155, R156). -/
def State.grantChoice (s : State) : Option GrantClass :=
  if s.store.inFlight.length < 3 then
    if s.store.admission then some .admission else s.readChoice
  else none

/-! ## Placing a payload (R8, R9, R49 steps 4 to 8) -/

/-- An admission write is issued: it joins the in-flight list with the address R5 gives at the issue (R153, R159). -/
def State.issueWrite (s : State) (lbn offset : Nat) (payload : List Byte) : State :=
  s.mapStore fun t =>
    { t with
      inFlight :=
        t.inFlight
          ++ [{ op := .admissionWrite payload, lbn := lbn, group := s.groupOf lbn, address := s.storeAddress lbn offset,
                length := payload.length, requester := .absent }] }

/-- The front frame leaves the Intake FIFO, and occupancy falls by one (R38, R48). -/
def State.leaveIntake (s : State) : State :=
  (s.mapLink fun l => { l with intake := l.intake.tail }).updatePause

/-- The payload is counted in the open segment and the frame in Frames Admitted, and the frame leaves intake (R49 step 4). -/
def State.countPlaced (s : State) (f : Frame) : State :=
  let s := s.mapOpen fun e => { e with byteLength := e.byteLength + f.payload.length }
  (s.count fun c => { c with framesAdmitted := c.framesAdmitted + 1 }).leaveIntake

/-- The payload is appended to the Filling block (R9, R50). -/
def State.appendPayload (s : State) (b : Block) (f : Frame) : State :=
  (s.mapBlock b.lbn fun b => { b with fillBytes := b.fillBytes + f.payload.length }).issueWrite b.lbn b.fillBytes f.payload

/-- A block opens for a frame of a segment and takes its payload, in one act with the admission write (R8). -/
def State.openBlock (s : State) (segment : Nat) (archiveRequired : Bool) (f : Frame) : State :=
  let lbn := s.ring.head
  let fresh : Block :=
    { lbn := lbn, state := .filling, fillBytes := f.payload.length, segment := segment, archiveRequired := archiveRequired,
      pinCount := 0, readsInFlight := 0, damaged := false }
  (s.mapRing fun r => { r with blocks := r.blocks ++ [fresh], head := r.head + 1 }).issueWrite lbn 0 f.payload

/-- The largest value of a saturating trigger counter (R74). -/
def triggerMax : Nat := 4294967295

/-- The trigger of a frame just placed, whose first point has admitted index p0 (R64). -/
def Entry.recordTrigger (e : Entry) (f : Frame) (p0 : Nat) : Entry :=
  let rounded := f.triggerOffset.toNat - f.triggerOffset.toNat % e.bpp
  if f.payload.length ≤ rounded then { e with triggerIgnored := min (e.triggerIgnored + 1) triggerMax }
  else
    let position := p0 + rounded / e.bpp
    let found : Trigger :=
      { position := position
        tick := e.firstTick + BitVec.ofNat 64 ((position + e.totalLost.toNat) * e.tickStep)
        kind := f.triggerKind }
    { e with triggerCount := min (e.triggerCount + 1) triggerMax, trigger := e.trigger.or (some found) }

/-- Act on a placed frame's Trigger flag (R49 step 5, R64). -/
def State.recordTrigger (s : State) (f : Frame) : State :=
  if f.triggerFlag then
    s.mapOpen fun e => e.recordTrigger f ((e.byteLength - f.payload.length) / e.bpp)
  else s

/-- The slice counter decreases by a placed frame's points, and the idle-flush timer restarts (R49 step 6, R52, R70). -/
def State.spendFrame (s : State) (f : Frame) : State :=
  let points := ((s.openEntry.map fun e => f.payload.length / e.bpp)).getD 0
  let time := s.control.active.idleFlushTime
  (s.spendSlice points).mapAssembler fun a => { a with idleFlush := if time = 0 then none else some time }

/-- A block that has reached its full 4,194,304 bytes is sealed (R49 step 7, R51). -/
def State.sealFull (s : State) : State :=
  match s.fillingBlock with
  | some b => if blockBytes ≤ b.fillBytes then s.sealFilling else s
  | none => s

/-- The slice counter is present and at 0 or below (R71). -/
def State.sliceDue (s : State) : Bool :=
  match s.assembler.sliceCounter with
  | some c => decide (c ≤ 0)
  | none => false

/-- The End flag or the slice counter closes the segment after a placed frame (R49 step 8). -/
def State.endFrame (s : State) (f : Frame) : State :=
  if f.endFlag then s.closeInCourse .endFrame
  else if s.sliceDue then s.closeInCourse .slice
  else s

/-- Steps 5 to 8 of the working of a frame, after its payload is placed (R49). -/
def State.afterPlaced (s : State) (f : Frame) : State :=
  (((s.recordTrigger f).spendFrame f).sealFull).endFrame f

/-! ## Drops (R4, R19 to R23, R55, R86) -/

/-- The frame under working is dropped and counted in Frames Dropped Overrun (R38). -/
def State.dropFront (s : State) : State :=
  (s.count fun c => { c with framesDroppedOverrun := c.framesDroppedOverrun + 1 }).leaveIntake

/-- Continuation becomes none when a frame that would open a segment is dropped (R54, R55). -/
def State.dropContinuation (s : State) : State :=
  s.mapAssembler fun a => { a with continuation := none }

/-- LBN exhaustion: the frame is dropped, the open segment closes with reason NumberExhausted, and capture goes to Stopped (R4). -/
def State.exhaustLbn (s : State) : State :=
  ((s.dropFront.raiseNotice .overrunLoss).closeSegment .numberExhausted).enterStopped .lbnExhausted

/-- An overrun: the frame is dropped, its payload becomes an Overrun gap of the open segment, and under the Stop policy the
segment closes and capture goes to Stopped (R19, R20, R21, R23, R68). -/
def State.overrun (s : State) (f : Frame) : State :=
  let s := s.dropFront.raiseNotice .overrunLoss
  let s :=
    match s.openEntry with
    | some e => s.recordGap (f.payload.length / e.bpp) .overrun false
    | none => s.dropContinuation
  if s.control.active.overrunPolicy = .stop then (s.closeSegment .overrun).enterStopped .overrun else s

/-- The index could not make room: the frame is dropped, IndexFull is raised, and under the Stop policy capture goes to Stopped
(R86). -/
def State.indexFull (s : State) : State :=
  let s := (s.dropFront.raiseNotice .indexFull).dropContinuation
  if s.control.active.overrunPolicy = .stop then s.enterStopped .overrun else s

/-- The frame waits at the front of intake on a read in flight at the Tail; the admission request stays withdrawn (R18, R48,
R153). -/
def State.waitAtFront (s : State) (stage : Stage) : State :=
  s.mapAssembler fun a => { a with stage := some stage }

/-! ## The Ring Manager's answer (R4, R15, R16) -/

/-- What the Ring Manager answers to a request for the position of LBN Head, with the state it leaves where it grants it. -/
inductive BlockAnswer where
  | granted (s : State)
  | exhausted
  | readBound
  | held

/-- The Ring Manager's answer: the LBN test first (R4), an Empty position at once (R15), else by the class of the Tail block, which
leaves by recycling or eviction where it may (R16, R17, R22). -/
def State.requestBlock (s : State) : BlockAnswer :=
  if lastLbn ≤ s.ring.head then .exhausted
  else if s.ring.head - s.ring.tail < s.capacity then .granted s
  else
    match s.tailBlock with
    | none => .held
    | some b =>
      match b.classify s.control.active.overrunPolicy with
      | .recyclable => .granted (s.recycleTail b)
      | .evictable => .granted (s.evictTail b)
      | .readBound => .readBound
      | .held => .held

/-- What making room in a full index comes to, with the state it leaves (R85, R86, R87). -/
inductive RoomAnswer where
  | made (s : State)
  | readBound (s : State)
  | held (s : State)

/-- The most entries the Segment Index holds (R75). -/
def indexCapacity : Nat := 4096

/-- Make room in a full index: Tail blocks leave by recycling or eviction until the oldest entry retires, or a Tail block may not
leave (R85). `fuel` bounds the examinations; the held blocks are as many as there can be. -/
def State.makeRoom (s : State) : Nat → RoomAnswer
  | 0 => if s.index.length < indexCapacity then .made s else .held s
  | fuel + 1 =>
    if s.index.length < indexCapacity then .made s
    else
      match s.tailBlock with
      | none => .held s
      | some b =>
        match b.classify s.control.active.overrunPolicy with
        | .recyclable => (s.recycleTail b).makeRoom fuel
        | .evictable => (s.evictTail b).makeRoom fuel
        | .readBound => .readBound s
        | .held => .held s

/-! ## Opening a segment (R54 to R57, R69 to R72) -/

/-- The Continuation a frame continues: one is present and the frame carries no Start flag (R54). -/
def State.continued (s : State) (f : Frame) : Option Continuation :=
  if f.startFlag then none else s.assembler.continuation

/-- The First Tick of a segment and its NoStamp flag: the opening frame's Stamp; else the Continuation's Next Tick, advanced by the
estimate of the loss record the frame carries; else 0 (R57, R69). -/
def openingTick (f : Frame) (loss : Option LossRecord) (continued : Option Continuation) : Tick × Bool :=
  match f.stamp, continued with
  | some t, _ => (t, false)
  | none, some c =>
    (c.nextTick + BitVec.ofNat 64 (((loss.map fun r => r.estimate c.bpp)).getD 0 * c.tickStep), false)
  | none, none => (0, true)

/-- The slice counter a segment opens with: under Slice Mode Points the carried value of the Continuation it continues, or the
effective L (R70, R71, R72). -/
def openingCounter (p : Profile) (continued : Option Continuation) : Option Int :=
  match p.sliceMode with
  | .off => none
  | .points => some (((continued.bind Continuation.carried).getD p.sliceLength : Nat) : Int)

/-- The entry of a segment at its open (R56). -/
def State.newEntry (s : State) (f : Frame) (loss : Option LossRecord) : Entry :=
  let p := s.control.active
  let first := openingTick f loss (s.continued f)
  { number := s.assembler.nextSegment
    closeReason := none
    firstLbn := s.ring.head
    blockCount := 1
    presentFrom := s.ring.head
    byteLength := 0
    bpp := p.bpp
    tickStep := p.tickStep
    archiveRequired := p.archiveRequired
    firstTick := first.1
    trigger := none
    triggerCount := 0
    triggerIgnored := 0
    gaps := []
    gapOverflow := false
    totalLost := 0
    evictedUnarchived := 0
    startLost := !f.startFlag && (s.continued f).isNone
    noStamp := first.2
    stampConflict := false
    frontEvicted := false
    archivedWithLoss := false
    damaged := false }

/-- The segment opens in one act with its first block, in the position granted (R55 step 5, R76). -/
def State.openSegment (s : State) (f : Frame) (loss : Option LossRecord) : State :=
  let entry := s.newEntry f loss
  let counter := openingCounter s.control.active (s.continued f)
  let s := s.openBlock entry.number entry.archiveRequired f
  let s := { s with index := s.index ++ [entry] }
  s.mapAssembler fun a =>
    { a with nextSegment := a.nextSegment + 1, continuation := none, sliceCounter := counter }

/-- A block has opened and its payload is placed: the ring is brought up to date from the ArchiveFront the act began with, the Head
Mark is tested, and the working goes on (R8, R49, R108). -/
def State.finishOpening (s : State) (before : Nat) (f : Frame) : State :=
  (((s.countPlaced f).settleRing before).testHeadMark).afterPlaced f

/-- R55 step 4 onward: the block of a segment that is to open. DESIGN CHOICE (assumption log 25): where no block opens in the act, what room made in the
index has moved is brought up to date before the wait, or before the drop and the entry to Stopped. -/
def State.openWithBlock (s : State) (before : Nat) (f : Frame) (loss : Option LossRecord) : State :=
  match s.requestBlock with
  | .granted s => (s.openSegment f loss).finishOpening before f
  | .exhausted => ((s.settleRing before).dropContinuation).exhaustLbn
  | .readBound => (s.settleRing before).waitAtFront .openBlock
  | .held => (s.settleRing before).overrun f

/-- R55 step 3 onward: room in the Segment Index. DESIGN CHOICE (assumption log 25): where making room stops, what it has moved is brought up to date before
the wait, or before the drop and the entry to Stopped. -/
def State.openWithRoom (s : State) (before : Nat) (f : Frame) (loss : Option LossRecord) : State :=
  match s.makeRoom s.ring.blocks.length with
  | .made s => s.openWithBlock before f loss
  | .readBound s => (s.settleRing before).waitAtFront .makeRoom
  | .held s => (s.settleRing before).indexFull

/-- A profile swap taken at the open of a slice continuation discards the carried value (R72). -/
def State.discardCarried (s : State) : State :=
  s.mapAssembler fun a => { a with continuation := a.continuation.map fun c => { c with carried := none } }

/-- R55 steps 1 and 2: a pending swap is taken, then the segment number is tested. -/
def State.beginSegment (s : State) (before : Nat) (f : Frame) (loss : Option LossRecord) : State :=
  let s := if s.control.swapPending then s.activate.discardCarried else s
  if lastSegment ≤ s.assembler.nextSegment then
    ((s.dropFront.raiseNotice .overrunLoss).dropContinuation).enterStopped .segmentNumberExhausted
  else s.openWithRoom before f loss

/-! ## Working a frame (R49, R50) -/

/-- A new block for the open segment, whose Filling block has been sealed (R50). -/
def State.nextBlock (s : State) (before : Nat) (e : Entry) (f : Frame) : State :=
  match s.requestBlock with
  | .granted s =>
    ((s.openBlock e.number e.archiveRequired f).mapOpen fun e => { e with blockCount := e.blockCount + 1 }).finishOpening
      before f
  | .exhausted => s.exhaustLbn
  | .readBound => s.waitAtFront .nextBlock
  | .held => s.overrun f

/-- The payload joins the Filling block if it fits there; otherwise that block is sealed and a new one is asked for (R50). -/
def State.placeInSegment (s : State) (before : Nat) (e : Entry) (f : Frame) : State :=
  match s.fillingBlock with
  | some b =>
    if b.fillBytes + f.payload.length ≤ blockBytes then ((s.appendPayload b f).countPlaced f).afterPlaced f
    else s.sealFilling.nextBlock before e f
  | none => s.nextBlock before e f

/-- Step 3 of the working: the frame opens a segment or its payload goes to the open one (R49). -/
def State.placeFrame (s : State) (before : Nat) (f : Frame) (loss : Option LossRecord) : State :=
  match s.openEntry with
  | some e => s.placeInSegment before e f
  | none => s.beginSegment before f loss

/-- The working of a frame from its first step: its loss record, a MissingEnd close where its Start flag finds a segment open, and
step 3 (R49). In Stopping that close ends Stopping, and the frame is discarded with the rest of intake (R60). -/
def State.workFrame (s : State) (f : Frame) (loss : Option LossRecord) : State :=
  let before := s.archiveFront
  let s := s.recordLoss loss f.stamp
  if f.startFlag && s.openEntry.isSome then
    let stopping := decide (s.control.capture = .stopping)
    let s := s.closeInCourse .missingEnd
    if stopping then s else s.placeFrame before f loss
  else s.placeFrame before f loss

/-- A working that waited resumes at the step where it stopped (R48, R55, R87). -/
def State.resumeFrame (s : State) (stage : Stage) (f : Frame) (loss : Option LossRecord) : State :=
  let before := s.archiveFront
  match stage with
  | .makeRoom => s.openWithRoom before f loss
  | .openBlock => s.openWithBlock before f loss
  | .nextBlock =>
    match s.openEntry with
    | some e => s.nextBlock before e f
    | none => s

/-- The Block Assembler works the front frame under a grant (R48, R49, R153): the admission request leaves its queue, and the next
item is presented when the working ends. -/
def State.workFront (s : State) : State :=
  let stage := s.assembler.stage
  let s := s.mapStore fun t => { t with admission := false }
  let s := s.mapAssembler fun a => { a with stage := none }
  match s.link.intake with
  | .frame f loss :: _ =>
    State.present <|
      match stage with
      | none => s.workFrame f loss
      | some stage => s.resumeFrame stage f loss
  | _ => s

/-- ADMISSION_GRANT (R49, R155): the grant is made when it is due and falls to the admission class; otherwise none is made. -/
def execAdmissionGrant (s : State) : Host.Outcome State Fault Refusal :=
  .next (s.act fun s => if s.grantChoice = some .admission then s.workFront else s)

/-! ## Markers (R48, R60) -/

/-- The marker at the front of intake is taken (R38). -/
def State.takeMarker (s : State) : State :=
  s.mapLink fun l => { l with intake := l.intake.tail }

/-- HALT_MARKER_WORKED (R60, R98): with a halt marker at the front, its loss record is recorded, the open segment closes with reason
Halt, and capture enters Stopped. -/
def execHaltMarkerWorked (s : State) : Host.Outcome State Fault Refusal :=
  .next
    (s.act fun s =>
      match s.link.intake with
      | .haltMarker loss :: _ => ((s.takeMarker.recordLoss loss none).closeSegment .halt).enterStopped .halt
      | _ => s)

/-- RESYNC_MARKER_WORKED (R43, R60): with a resync marker at the front, its loss record is recorded and the open segment closes with
reason LinkReset, which in Stopping ends Stopping. -/
def execResyncMarkerWorked (s : State) : Host.Outcome State Fault Refusal :=
  .next
    (s.act fun s =>
      match s.link.intake with
      | .resyncMarker loss :: _ => ((s.takeMarker.recordLoss loss none).closeInCourse .linkReset).present
      | _ => s)

/-! ## Idle flush and Flush (R52, R53) -/

/-- IDLE_FLUSH_EXPIRY (R52): a Running timer expires, becomes Stopped, and the Filling block, if any, is sealed. -/
def execIdleFlushExpiry (s : State) : Host.Outcome State Fault Refusal :=
  .next
    (s.act fun s =>
      if s.assembler.idleFlush.isSome then (s.mapAssembler fun a => { a with idleFlush := none }).sealFilling else s)

/-- FLUSH (R53): the Filling block, if any, is sealed at once, and the response gives its LBN. -/
def execFlush (h : Header) (s : State) : Host.Outcome State Fault Refusal :=
  .next
    (s.request .viewer .flush h 0 fun s =>
      s.sealFilling.answer .viewer h.tag .flush .ok (.sealedLbn (s.fillingBlock.map Block.lbn)))

end Sys2Proof.Machine
end

