-- ==== Sys2Proof/Machine/Operands.lean ====
section
/-!
DEFINITION. Reading the parameter fields of a request: Targets, yes/no bytes, enumerations and sets (R203), and the validation
of a Capture Profile (R102). `none` is a value the field does not define, which the owning block answers BAD_PARAM.
-/
namespace Sys2Proof.Machine

/-- A Target or number below n (R203). -/
def below (n : Nat) (k : Nat) : Option (Fin n) :=
  if h : k < n then some ⟨k, h⟩ else none

/-- A yes/no byte (R203). -/
def yesNo (b : BitVec 8) : Option Bool :=
  if b = 0 then some false else if b = 1 then some true else none

/-- An LBN parameter, 0..2^40 − 1 (R107, R109, R112, R122, R126, R129, R137, R142). -/
def lbnParam (lbn : BitVec 64) : Option Nat :=
  if lbn.toNat ≤ lastLbn then some lbn.toNat else none

/-- A Stop Mode (R92): `true` is Now. -/
def stopModeParam (b : BitVec 8) : Option Bool :=
  yesNo b

/-- The Action of a Head Mark (R107). -/
def markActionParam (b : BitVec 8) : Option MarkAction :=
  if b = 0 then some .notify else if b = 1 then some .stop else none

/-- The Mode of a Wait (R187). -/
def waitModeParam (b : BitVec 8) : Option WaitMode :=
  if b = 0 then some .consume else if b = 1 then some .peek else none

/-- The Next of a SetGroupNext (R167). -/
def groupPowerParam (b : BitVec 8) : Option GroupPower :=
  if b = 0 then some .off else if b = 1 then some .retain else if b = 2 then some .active else none

/-- The Source of a SetFlagSource (R183, R203). -/
def flagSourceParam (b : BitVec 8) : Option FlagSource :=
  match b.toNat with
  | 0 => some .none
  | 1 => some .segmentClosed
  | 2 => some .blockSealed
  | 3 => some .bandPressedOrCritical
  | 4 => some .bandRelaxed
  | 5 => some .headMark
  | 6 => some .archiveMark
  | 7 => some .captureStopped
  | 8 => some .mediaError
  | 9 => some .groupsSettled
  | _ => none

/-- A set of notice kinds; bits 13 to 15 name kinds outside 0..12 (R192, R203). -/
def noticeSetParam (kinds : BitVec 16) : Option NoticeSet :=
  if kinds.toNat < 8192 then some (kinds.setWidth 13) else none

/-- The Offset and Length of a Fetch or a Read (R122, R142): both multiples of 64, the Length 64..65,536. -/
def pieceOk (offset length : BitVec 32) : Bool :=
  decide (offset.toNat % 64 = 0) && decide (length.toNat % 64 = 0) && decide (64 ≤ length.toNat)
    && decide (length.toNat ≤ 65536)

/-- The Overrun Policy of a profile (R101, R203). -/
def overrunPolicyParam (b : BitVec 8) : Option OverrunPolicy :=
  if b = 0 then some .drop else if b = 1 then some .overwrite else if b = 2 then some .stop else none

/-- The Slice Mode of a profile (R101, R203). -/
def sliceModeParam (b : BitVec 8) : Option SliceMode :=
  if b = 0 then some .off else if b = 1 then some .points else none

/-- The Halt Mode of a profile (R101, R203). -/
def haltModeParam (b : BitVec 8) : Option HaltMode :=
  if b = 0 then some .immediate else if b = 1 then some .orderly else none

/-- The numbers of a profile lie in their ranges (R102). -/
def profileNumbersOk (p : ProfileFields) : Bool :=
  decide (p.sampleWidth = 1 ∨ p.sampleWidth = 2)
    && decide (p.channelCount = 1 ∨ p.channelCount = 2 ∨ p.channelCount = 4 ∨ p.channelCount = 8)
    && decide (1 ≤ p.tickStep.toNat ∧ p.tickStep.toNat ≤ 65536)
    && decide (1 ≤ p.pressedThreshold.toNat ∧ p.pressedThreshold.toNat ≤ 16384)
    && decide (p.criticalThreshold.toNat < p.pressedThreshold.toNat)
    && decide (1 ≤ p.sliceLength.toNat ∧ p.sliceLength.toNat ≤ lastLbn)
    && decide (p.idleFlushTime.toNat ≤ 10000)

/-- The validation of a StageProfile: the profile its fields give, or `none` where one lies outside its structural range
(R102). -/
def validateProfile (p : ProfileFields) : Option Profile :=
  if profileNumbersOk p then do
    let archiveRequired ← yesNo p.archiveRequired
    let overrunPolicy ← overrunPolicyParam p.overrunPolicy
    let pauseOnCritical ← yesNo p.pauseOnCritical
    let sliceMode ← sliceModeParam p.sliceMode
    let haltMode ← haltModeParam p.haltMode
    pure
      { sampleWidth := p.sampleWidth.toNat
        channelCount := p.channelCount.toNat
        tickStep := p.tickStep.toNat
        archiveRequired := archiveRequired
        overrunPolicy := overrunPolicy
        pressed := p.pressedThreshold.toNat
        critical := p.criticalThreshold.toNat
        hysteresis := p.hysteresis.toNat
        pauseOnCritical := pauseOnCritical
        sliceMode := sliceMode
        sliceLength := p.sliceLength.toNat
        idleFlushTime := p.idleFlushTime.toNat
        haltMode := haltMode }
  else none

end Sys2Proof.Machine
end

