-- ==== Sys2Proof/Machine/Capture.lean ====
section
/-!
DEFINITION. Capture Control's requests: START, the two rows of Stop, the profile and the two marks (chapter 5).
-/
namespace Sys2Proof.Machine

/-! ## Start and Stop (R91, R92, R93) -/

/-- Every group named by the Group Map is Active (R91, R178). -/
def State.mapActive (s : State) : Bool :=
  s.power.groupMap.all fun g => s.groupActive g

/-- The act of a Start answered OK (R91): Running, stop reason None, Capture Enable asserted, the sequence state Unsynced. -/
def State.startCapture (s : State) : State :=
  (s.mapControl fun c => { c with capture := .running, stopReason := .none }).mapLink fun l =>
    { l with captureEnable := true, expected := none }

/-- START (R91). -/
def execStart (h : Header) (s : State) : Host.Outcome State Fault Refusal :=
  .next
    (s.request .viewer .start h 0 fun s =>
      if s.control.capture = .unformed ∨ s.control.capture = .running ∨ s.control.capture = .stopping then
        s.refuse .viewer h.tag .start .wrongState
      else if !s.mapActive then s.refuse .viewer h.tag .start .asleep
      else s.startCapture.answer .viewer h.tag .start .ok (.capture s.startCapture.control.capture))

/-- The act of Stop(AtSegmentEnd) (R92). -/
def State.stopAtEnd (s : State) : State :=
  if s.control.capture = .running then
    if s.openEntry.isSome then s.mapControl fun c => { c with capture := .stopping, stoppingReason := some .stop }
    else s.enterStopped .stop
  else s

/-- A Stop request at Capture Control (R92, R93): a Mode that is neither value is refused first, then the capture state. -/
def State.takeStop (s : State) (h : Header) (mode : BitVec 8) : State :=
  match stopModeParam mode with
  | none => s.refuse .viewer h.tag .stop .badParam
  | some now =>
    if s.control.capture = .running ∨ s.control.capture = .stopping then
      let t := if now then s.stopAtOnce .stop .stop else s.stopAtEnd
      t.answer .viewer h.tag .stop .ok (.capture t.control.capture)
    else s.refuse .viewer h.tag .stop .wrongState

/-- STOP_AT_SEGMENT_END (R92). -/
def execStopAtSegmentEnd (h : Header) (mode : BitVec 8) (s : State) : Host.Outcome State Fault Refusal :=
  .next (s.request .viewer .stop h 1 fun s => s.takeStop h mode)

/-- STOP_NOW (R93). -/
def execStopNow (h : Header) (mode : BitVec 8) (s : State) : Host.Outcome State Fault Refusal :=
  .next (s.request .viewer .stop h 1 fun s => s.takeStop h mode)

/-! ## The Capture Profile (R102 to R106) -/

/-- The profile is staged (R103): in Running and Stopping Swap Pending is set, in the other states it becomes active at once. -/
def State.stage (s : State) (p : Profile) : State :=
  let s := s.mapControl fun c => { c with staged := p }
  if s.control.capture = .running ∨ s.control.capture = .stopping then s.mapControl fun c => { c with swapPending := true }
  else s.activate

/-- STAGE_PROFILE (R102, R103). -/
def execStageProfile (h : Header) (p : ProfileFields) (s : State) : Host.Outcome State Fault Refusal :=
  .next
    (s.request .viewer .stageProfile h 32 fun s =>
      match validateProfile p with
      | none => s.refuse .viewer h.tag .stageProfile .badParam
      | some profile =>
        let t := s.stage profile
        if s.control.capture = .running ∨ s.control.capture = .stopping then
          t.answer .viewer h.tag .stageProfile .ok (.staged false [])
        else
          let clamped := t.control.active.clamped t.control.requested t.control.active
          t.answer .viewer h.tag .stageProfile (if clamped = [] then .ok else .adjusted) (.staged true clamped))

/-- READ_PROFILE (R106): Which 0 is Active, 1 is Staged. -/
def execReadProfile (h : Header) (which : BitVec 8) (s : State) : Host.Outcome State Fault Refusal :=
  .next
    (s.request .viewer .readProfile h 1 fun s =>
      if which = 0 then
        let clamped := s.control.active.clamped s.control.requested s.control.requested
        s.answer .viewer h.tag .readProfile (if clamped = [] then .ok else .adjusted)
          (.activeProfile s.control.active clamped)
      else if which = 1 then
        s.answer .viewer h.tag .readProfile .ok (.stagedProfile s.control.staged s.control.swapPending)
      else s.refuse .viewer h.tag .readProfile .badParam)

/-! ## The marks (R107, R109) -/

/-- SET_HEAD_MARK (R107): the mark is armed, and fires in the same act when its LBN is at or below Head. -/
def execSetHeadMark (h : Header) (lbn : BitVec 64) (action : BitVec 8) (s : State) : Host.Outcome State Fault Refusal :=
  .next
    (s.request .viewer .setHeadMark h 9 fun s =>
      match lbnParam lbn, markActionParam action with
      | some n, some a =>
        let armed := s.mapControl fun c => { c with headMark := some { lbn := n, action := a } }
        armed.testHeadMark.answer .viewer h.tag .setHeadMark .ok (.fired (decide (n ≤ s.ring.head)))
      | _, _ => s.refuse .viewer h.tag .setHeadMark .badParam)

/-- CLEAR_HEAD_MARK (R107). -/
def execClearHeadMark (h : Header) (s : State) : Host.Outcome State Fault Refusal :=
  .next
    (s.request .viewer .clearHeadMark h 0 fun s =>
      (s.mapControl fun c => { c with headMark := none }).answer .viewer h.tag .clearHeadMark .ok
        (.wasArmed s.control.headMark.isSome))

/-- SET_ARCHIVE_MARK (R109): the mark is armed, and fires in the same act when its LBN is at or below ArchiveFront. -/
def execSetArchiveMark (h : Header) (lbn : BitVec 64) (s : State) : Host.Outcome State Fault Refusal :=
  .next
    (s.request .archive .setArchiveMark h 8 fun s =>
      match lbnParam lbn with
      | some n =>
        let armed := s.mapControl fun c => { c with archiveMark := some n }
        armed.testArchiveMark.answer .archive h.tag .setArchiveMark .ok (.fired (decide (n ≤ s.archiveFront)))
      | none => s.refuse .archive h.tag .setArchiveMark .badParam)

/-- CLEAR_ARCHIVE_MARK (R109). -/
def execClearArchiveMark (h : Header) (s : State) : Host.Outcome State Fault Refusal :=
  .next
    (s.request .archive .clearArchiveMark h 0 fun s =>
      (s.mapControl fun c => { c with archiveMark := none }).answer .archive h.tag .clearArchiveMark .ok
        (.wasArmed s.control.archiveMark.isSome))

end Sys2Proof.Machine
end

