-- ==== Sys2Proof/Machine/Drain.lean ====
section
/-!
DEFINITION. The Drain Engine's requests: OPEN_CONTEXT, CLOSE_CONTEXT, TAKE, FETCH, CONFIRM and RETURN (chapter 6).
-/
namespace Sys2Proof.Machine

/-- The context a Target names (R112). -/
def ctxParam (h : Header) : Option (Fin 4) :=
  below 4 h.target.toNat

/-- The context is Open. -/
def State.contextOpen (s : State) (ctx : Fin 4) : Bool :=
  s.drain.contexts[ctx].isSome

/-- A context becomes Open with a window, or Closed (R112, R130). -/
def State.putContext (s : State) (ctx : Fin 4) (w : Option Window) : State :=
  s.mapDrain fun d => { d with contexts := d.contexts.set ctx w }

/-! ## OpenContext (R112) -/

/-- The window of an OpenContext, when its numbers lie in their ranges and a bounded window ends at or below 2^40 (R112). -/
def windowParam (first length : BitVec 64) : Option Window :=
  if first.toNat ≤ lastLbn ∧ length.toNat ≤ lastLbn ∧ (length.toNat = 0 ∨ first.toNat + length.toNat ≤ lastLbn + 1) then
    some { first := first.toNat, length := length.toNat }
  else none

/-- OPEN_CONTEXT (R112). -/
def execOpenContext (h : Header) (first length : BitVec 64) (s : State) : Host.Outcome State Fault Refusal :=
  .next
    (s.request .archive .openContext h 16 fun s =>
      match ctxParam h, windowParam first length with
      | some ctx, some w =>
        if s.contextOpen ctx then s.refuse .archive h.tag .openContext .wrongState
        else (s.putContext ctx (some w)).answer .archive h.tag .openContext .ok .none
      | _, _ => s.refuse .archive h.tag .openContext .badParam)

/-! ## Take (R115, R116, R117) -/

/-- The oldest block of the drain order that a window covers (R115). -/
def State.chosenBlock (s : State) (w : Window) : Option Block :=
  s.ring.blocks.find? fun b => b.drainable && w.covers b.lbn

/-- The context's parked take (R111). -/
def State.parkedTakeOf (s : State) (ctx : Fin 4) : Option ParkedTake :=
  s.drain.parkedTakes.find? fun t => t.ctx = ctx

/-- A Take parks: it keeps its slot and joins the newest end of the arrival order (R117). -/
def State.parkTake (s : State) (ctx : Fin 4) (tag : Byte) : State :=
  (s.mapDrain fun d => { d with parkedTakes := d.parkedTakes ++ [{ ctx := ctx, tag := tag }] }).setProgress .archive tag
    .parked

/-- The rows of R115 for an Open context's Take. -/
def State.takeFrom (s : State) (h : Header) (ctx : Fin 4) (w : Window) (wait : Bool) : State :=
  if 8 ≤ (s.claims ctx).length then s.refuse .archive h.tag .take .limit
  else
    match s.chosenBlock w with
    | some b =>
      if s.blockActive b.lbn then
        (s.claimBlock b.lbn ctx).answer .archive h.tag .take .ok (.claim (s.claimRecord b))
      else s.refuse .archive h.tag .take .asleep
    | none =>
      if w.done s.archiveFront then s.refuse .archive h.tag .take .windowDone
      else if !wait then s.refuse .archive h.tag .take .empty
      else if s.control.capture = .stopped then s.refuse .archive h.tag .take .empty
      else if (s.parkedTakeOf ctx).isSome then s.refuse .archive h.tag .take .limit
      else s.parkTake ctx h.tag

/-- TAKE (R115). -/
def execTake (h : Header) (wait : BitVec 8) (s : State) : Host.Outcome State Fault Refusal :=
  .next
    (s.request .archive .take h 1 fun s =>
      match ctxParam h, yesNo wait with
      | some ctx, some w =>
        match s.drain.contexts[ctx] with
        | none => s.refuse .archive h.tag .take .wrongState
        | some window => s.takeFrom h ctx window w
      | _, _ => s.refuse .archive h.tag .take .badParam)

/-! ## Claims (R122, R126, R129) -/

/-- The block of an LBN, when it is held and Claimed by this context and the context is Open (R122, R126, R129). -/
def State.claimedBlock (s : State) (ctx : Fin 4) (lbn : Nat) : Option Block :=
  if s.contextOpen ctx then
    match s.findBlock lbn with
    | some b => if b.state = .claimed ctx then some b else none
    | none => none
  else none

/-- FETCH (R122): the checks in the order of its table, then the Fetch joins the archive queue with its effective length. -/
def execFetch (h : Header) (lbn : BitVec 64) (offset length : BitVec 32) (s : State) :
    Host.Outcome State Fault Refusal :=
  .next
    (s.request .archive .fetch h 16 fun s =>
      match ctxParam h, lbnParam lbn, pieceOk offset length with
      | some ctx, some n, true =>
        match s.claimedBlock ctx n with
        | none => s.refuse .archive h.tag .fetch .notClaimed
        | some b =>
          if b.fillBytes ≤ offset.toNat then s.refuse .archive h.tag .fetch .badParam
          else if !s.blockActive n then s.refuse .archive h.tag .fetch .asleep
          else
            let left := b.fillBytes - offset.toNat
            let r : FetchRequest :=
              { tag := h.tag, lbn := n, offset := offset.toNat, length := min length.toNat left,
                clamped := decide (left < length.toNat) }
            (s.mapStore fun t => { t with archiveQueue := t.archiveQueue ++ [r] }).setProgress .archive h.tag .queued
      | _, _, _ => s.refuse .archive h.tag .fetch .badParam)

/-- With Loss marks the segment of the block ArchivedWithLoss (R127). -/
def State.markLoss (s : State) (b : Block) (withLoss : Bool) : State :=
  if withLoss then s.mapEntry b.segment fun e => { e with archivedWithLoss := true } else s

/-- The act of a Confirm answered OK: the block becomes Archived, With Loss is acted on, and the ring is brought up to date (R126). -/
def State.confirmBlock (s : State) (b : Block) (withLoss : Bool) : State :=
  ((s.mapBlock b.lbn fun b => { b with state := .archived }).markLoss b withLoss).settleRing s.archiveFront

/-- CONFIRM (R126). -/
def execConfirm (h : Header) (lbn : BitVec 64) (withLoss : BitVec 8) (s : State) : Host.Outcome State Fault Refusal :=
  .next
    (s.request .archive .confirm h 9 fun s =>
      match ctxParam h, lbnParam lbn, yesNo withLoss with
      | some ctx, some n, some loss =>
        match s.claimedBlock ctx n with
        | none => s.refuse .archive h.tag .confirm .notClaimed
        | some b =>
          let t := s.confirmBlock b loss
          t.answer .archive h.tag .confirm .ok (.archiveFront t.archiveFront)
      | _, _, _ => s.refuse .archive h.tag .confirm .badParam)

/-- A claimed block is returned: it becomes Sealed, rejoins the drain order, and is offered to the parked takes (R129). -/
def State.returnOne (s : State) (b : Block) : State :=
  (s.mapBlock b.lbn fun b => { b with state := .sealed }).offer b.lbn

/-- RETURN (R129): the response says which context's parked take received the block, if one did. -/
def execReturnBlock (h : Header) (lbn : BitVec 64) (s : State) : Host.Outcome State Fault Refusal :=
  .next
    (s.request .archive .returnBlock h 8 fun s =>
      match ctxParam h, lbnParam lbn with
      | some ctx, some n =>
        match s.claimedBlock ctx n with
        | none => s.refuse .archive h.tag .returnBlock .notClaimed
        | some b =>
          (s.returnOne b).answer .archive h.tag .returnBlock .ok (.served ((s.takerOf n).map ParkedTake.ctx))
      | _, _ => s.refuse .archive h.tag .returnBlock .badParam)

/-! ## CloseContext (R130) -/

/-- The context's parked take, if any, completes with CANCELLED (R130 step 1). -/
def State.cancelTake (s : State) (ctx : Fin 4) : State :=
  match s.parkedTakeOf ctx with
  | some t => (s.unpark t).refuse .archive t.tag .take .cancelled
  | none => s

/-- The act of a CloseContext answered OK: the parked take is cancelled, the claims are returned in LBN order, and the context becomes
Closed (R130). -/
def State.closeOne (s : State) (ctx : Fin 4) : State :=
  ((s.claims ctx).foldl State.returnOne (s.cancelTake ctx)).putContext ctx none

/-- CLOSE_CONTEXT (R130). -/
def execCloseContext (h : Header) (s : State) : Host.Outcome State Fault Refusal :=
  .next
    (s.request .archive .closeContext h 0 fun s =>
      match ctxParam h with
      | none => s.refuse .archive h.tag .closeContext .badParam
      | some ctx =>
        if s.contextOpen ctx then
          (s.closeOne ctx).answer .archive h.tag .closeContext .ok (.returnedCount (s.claims ctx).length)
        else s.refuse .archive h.tag .closeContext .wrongState)

end Sys2Proof.Machine
end

