-- ==== Sys2Proof/Machine/Wire.lean ====
section
/-!
DEFINITION. The wire formats the part reads and writes: the Sample Link frame and its Link Check (R204), the response message
(R203), the Segment Index entry (R205), the Claim record (R206) and the status record (R207).
-/
namespace Sys2Proof.Machine

/-! ## The Link Check (R204) -/

/-- One bit into the check register: the generator polynomial is 1EDC6F41h (R204). -/
def linkCheckBit (reg : BitVec 32) (bit : Bool) : BitVec 32 :=
  let shifted := reg <<< 1
  if reg.msb ^^ bit then shifted ^^^ 0x1EDC6F41#32 else shifted

/-- One byte into the check register, least significant bit first (R204). -/
def linkCheckByte (reg : BitVec 32) (b : Byte) : BitVec 32 :=
  (List.range 8).foldl (fun reg i => linkCheckBit reg (b.getLsbD i)) reg

/-- The Link Check of a run of bytes: starting value FFFFFFFFh, the register reflected on output and complemented (R204). -/
def linkCheck (bytes : List Byte) : BitVec 32 :=
  ~~~(bytes.foldl linkCheckByte 0xFFFFFFFF#32).reverse

/-! ## The frame (R30, R204) -/

/-- The frame in the bytes received, or `none` when it fails its check: too few bytes for its fields, Payload Units outside
1..128, a payload of another length, or a Link Check that differs (R31, R204). -/
def parseFrame (bytes : List Byte) : Option Frame :=
  let flags := byteAt bytes 2
  let units := (byteAt bytes 3).toNat
  let stamped := flags.getLsbD 3
  let headerBytes := if stamped then 16 else 8
  let covered := headerBytes + 64 * units
  if 1 ≤ units ∧ units ≤ 128 ∧ bytes.length = covered + 4
      ∧ linkCheck (bytes.take covered) = BitVec.ofNat 32 (fieldAt bytes covered 4) then
    some
      { sequence := BitVec.ofNat 16 (fieldAt bytes 0 2)
        startFlag := flags.getLsbD 0
        triggerFlag := flags.getLsbD 1
        endFlag := flags.getLsbD 2
        triggerOffset := BitVec.ofNat 13 (fieldAt bytes 4 2)
        triggerKind := (byteAt bytes 6).setWidth 4
        stamp := if stamped then some (BitVec.ofNat 64 (fieldAt bytes 8 8)) else none
        payload := (bytes.drop headerBytes).take (64 * units) }
  else none

/-! ## Enumerations on the wire (R203) -/

/-- The Status byte (R203). -/
def Status.code : Status → Nat
  | .ok => 0
  | .adjusted => 1
  | .busy => 2
  | .duplicateTag => 3
  | .unsupported => 4
  | .badParam => 5
  | .wrongState => 6
  | .inTransition => 7
  | .empty => 8
  | .windowDone => 9
  | .gone => 10
  | .outOfWindow => 11
  | .notClaimed => 12
  | .limit => 13
  | .asleep => 14
  | .mediaError => 15
  | .timedOut => 16
  | .cancelled => 17

/-- The Capture state byte (R203). -/
def CaptureState.code : CaptureState → Nat
  | .unformed => 0
  | .idle => 1
  | .running => 2
  | .stopping => 3
  | .stopped => 4

/-- The Stop reason byte (R203). -/
def StopReason.code : StopReason → Nat
  | .none => 0
  | .stop => 1
  | .halt => 2
  | .headMark => 3
  | .overrun => 4
  | .lbnExhausted => 5
  | .segmentNumberExhausted => 6

/-- The Band byte (R203). -/
def Band.code : Band → Nat
  | .relaxed => 0
  | .pressed => 1
  | .critical => 2

/-- The Next or Target byte of a group (R203). -/
def GroupPower.code : GroupPower → Nat
  | .off => 0
  | .retain => 1
  | .active => 2

/-- The State byte of a group (R203). -/
def GroupState.code : GroupState → Nat
  | .settled p => p.code
  | .changing _ _ _ => 3

/-- The Close Reason byte; 0 while absent (R203, R205). -/
def closeReasonCode : Option CloseReason → Nat
  | none => 0
  | some .endFrame => 1
  | some .slice => 2
  | some .missingEnd => 3
  | some .stop => 4
  | some .halt => 5
  | some .linkReset => 6
  | some .overrun => 7
  | some .numberExhausted => 8

/-- The Gap Cause byte (R203). -/
def GapCause.code : GapCause → Nat
  | .sequence => 0
  | .intake => 1
  | .overrun => 2

/-- The Flag Source byte (R203). -/
def FlagSource.code : FlagSource → Nat
  | .none => 0
  | .segmentClosed => 1
  | .blockSealed => 2
  | .bandPressedOrCritical => 3
  | .bandRelaxed => 4
  | .headMark => 5
  | .archiveMark => 6
  | .captureStopped => 7
  | .mediaError => 8
  | .groupsSettled => 9

/-- The Overrun Policy byte (R203). -/
def OverrunPolicy.code : OverrunPolicy → Nat
  | .drop => 0
  | .overwrite => 1
  | .stop => 2

/-- The Slice Mode byte (R203). -/
def SliceMode.code : SliceMode → Nat
  | .off => 0
  | .points => 1

/-- The Halt Mode byte (R203). -/
def HaltMode.code : HaltMode → Nat
  | .immediate => 0
  | .orderly => 1

/-- The Wait Mode byte (R203). -/
def WaitMode.code : WaitMode → Nat
  | .consume => 0
  | .peek => 1

/-- One byte of a number. -/
def oneByte (n : Nat) : List Byte :=
  leBytes 1 n

/-- A yes/no byte (R203). -/
def yesNoByte (b : Bool) : List Byte :=
  oneByte b.toNat

/-- An optional field behind its presence byte (R203). -/
def optionalField (width : Nat) : Option Nat → List Byte
  | none => oneByte 0
  | some n => oneByte 1 ++ leBytes width n

/-- A number whose bit n is the n-th of the flags. -/
def flagBits (flags : List Bool) : Nat :=
  flags.foldr (fun b n => b.toNat + 2 * n) 0

/-- The Top Notice byte: 0..12, or 255 for none (R203, R207). -/
def topByte (k : Option NoticeKind) : List Byte :=
  oneByte ((k.map NoticeKind.number).getD 255)

/-! ## The Segment Index entry (R205) -/

/-- A gap record: 18 bytes (R205). -/
def Gap.bytes (g : Gap) : List Byte :=
  leBytes 8 g.position ++ leBytes 8 g.pointsLost.toNat ++ oneByte g.cause.code ++ yesNoByte g.mixed

/-- An entry as ReadIndex returns it: 108 bytes followed by its gap records (R205). -/
def Entry.bytes (e : Entry) : List Byte :=
  leBytes 8 e.number ++ yesNoByte (!e.isOpen) ++ oneByte (closeReasonCode e.closeReason) ++ oneByte e.bpp
    ++ oneByte e.gaps.length
    ++ leBytes 2
        (flagBits
          [e.startLost, e.noStamp, e.stampConflict, e.frontEvicted, e.archivedWithLoss, e.damaged, e.archiveRequired,
            e.gapOverflow, e.trigger.isSome])
    ++ oneByte ((e.trigger.map fun t => t.kind.toNat).getD 0) ++ oneByte 0 ++ leBytes 4 e.tickStep
    ++ leBytes 4 e.triggerCount ++ leBytes 4 e.triggerIgnored ++ leBytes 8 e.firstLbn ++ leBytes 8 e.blockCount
    ++ leBytes 8 e.presentFrom ++ leBytes 8 e.byteLength ++ leBytes 8 e.points ++ leBytes 8 e.firstTick.toNat
    ++ leBytes 8 e.totalLost.toNat ++ leBytes 8 e.evictedUnarchived.toNat
    ++ leBytes 8 ((e.trigger.map Trigger.position).getD 0)
    ++ leBytes 8 ((e.trigger.map fun t => t.tick.toNat).getD 0) ++ e.gaps.flatMap Gap.bytes

/-! ## The Claim record (R206) and the status record (R207) -/

/-- The Claim record: 21 bytes (R206). -/
def ClaimRecord.bytes (c : ClaimRecord) : List Byte :=
  leBytes 8 c.lbn ++ leBytes 8 c.segment ++ leBytes 4 c.fillBytes
    ++ oneByte (flagBits [c.firstOfSegment, c.lastOfSegment, c.damaged])

/-- A group's four bytes of the status record (R207). -/
def GroupReport.bytes (g : GroupReport) : List Byte :=
  oneByte g.state.code ++ oneByte g.next.code
    ++ oneByte
        (match g.state with
        | .settled _ => 255
        | .changing _ target _ => target.code)
    ++ oneByte (g.slot.getD 255)

/-- The status record: 136 bytes (R207). -/
def StatusRecord.bytes (r : StatusRecord) : List Byte :=
  oneByte r.capture.code ++ oneByte r.stopReason.code ++ oneByte r.band.code ++ oneByte r.span
    ++ leBytes 2
        (flagBits
          [r.pause, r.captureEnable, r.orderlyHalt, r.swapPending, r.headMark.isSome,
            (r.headMark.map fun m => decide (m.action = .stop)).getD false, r.archiveMark.isSome, r.openSegment.isSome,
            r.openFill.isSome])
    ++ oneByte r.occupancy ++ topByte r.top ++ leBytes 8 r.head ++ leBytes 8 r.tail ++ leBytes 8 r.archiveFront
    ++ leBytes 8 r.holdFloor ++ leBytes 2 r.headroom ++ leBytes 2 r.capacity ++ leBytes 4 (r.openFill.getD 0)
    ++ leBytes 8 (r.openSegment.getD 0) ++ leBytes 8 ((r.headMark.map HeadMark.lbn).getD 0)
    ++ leBytes 8 (r.archiveMark.getD 0) ++ r.groups.flatMap GroupReport.bytes

/-! ## Responses (R203) -/

/-- The thirteen fields of a profile, in the order of R101 and the widths of R203. -/
def Profile.bytes (p : Profile) : List Byte :=
  oneByte p.sampleWidth ++ oneByte p.channelCount ++ leBytes 4 p.tickStep ++ yesNoByte p.archiveRequired
    ++ oneByte p.overrunPolicy.code ++ leBytes 4 p.pressed ++ leBytes 4 p.critical ++ oneByte p.hysteresis
    ++ yesNoByte p.pauseOnCritical ++ oneByte p.sliceMode.code ++ leBytes 8 p.sliceLength ++ leBytes 4 p.idleFlushTime
    ++ oneByte p.haltMode.code

/-- The row of the profile table that a clamped field stands in, counted from 0 (R203). -/
def ClampedField.row : ClampedField → Nat
  | .pressed _ => 5
  | .critical _ => 6
  | .sliceLength _ => 10

/-- The value that goes with a clamped field, in the field's width (R203). -/
def ClampedField.bytes : ClampedField → List Byte
  | .pressed v => leBytes 4 v
  | .critical v => leBytes 4 v
  | .sliceLength v => leBytes 8 v

/-- A Clamped set of two bytes and the values that go with it (R203). -/
def clampedBytes (fields : List ClampedField) : List Byte :=
  leBytes 2 (fields.foldl (fun n f => n + 2 ^ f.row) 0) ++ fields.flatMap ClampedField.bytes

/-- The thirteen counters in the order of R45. -/
def StreamCounts.bytes (c : StreamCounts) : List Byte :=
  [c.framesReceived, c.framesAdmitted, c.framesDroppedIntake, c.framesDroppedOverrun, c.framesDiscarded, c.framesBad,
    c.sequenceGaps, c.framesMissing, c.blocksSealed, c.blocksEvictedUnarchived, c.correctedErrors, c.uncorrectableErrors,
    c.linkResyncs].flatMap fun n => leBytes 8 n.toNat

/-- The result fields of a response as bytes, each in the order its rule names them and in the width of its range (R203).
Where R203 leaves the layout open, assumption log 9 says what is taken. -/
def Result.bytes : Result → List Byte
  | .none => []
  | .capture c => oneByte c.code
  | .sealedLbn lbn => optionalField 8 lbn
  | .staged swapTaken clamped => yesNoByte swapTaken ++ (if clamped = [] then [] else clampedBytes clamped)
  | .activeProfile p clamped => p.bytes ++ clampedBytes clamped
  | .stagedProfile p swapPending => p.bytes ++ yesNoByte swapPending
  | .fired yes => yesNoByte yes
  | .wasArmed yes => yesNoByte yes
  | .pin id first count => oneByte id.val ++ leBytes 8 first ++ leBytes 4 count
  | .unpin first count => leBytes 8 first ++ leBytes 4 count
  | .read id lbn offset length blockFill blockSealed =>
    oneByte id.val ++ leBytes 8 lbn ++ leBytes 4 offset ++ leBytes 4 length ++ leBytes 4 blockFill ++ yesNoByte blockSealed
  | .groupNext state next => oneByte state.code ++ oneByte next.code
  | .changingCount n => oneByte 0 ++ oneByte n
  | .refusedGroup g => optionalField 1 (g.map Fin.val)
  | .groupMap span capacity map => oneByte span ++ leBytes 4 capacity ++ map.flatMap fun g => oneByte g.val
  | .reformed head capacity band => leBytes 8 head ++ leBytes 4 capacity ++ oneByte band.code
  | .returnedCount n => oneByte n
  | .claim c => c.bytes
  | .fetch lbn offset length => leBytes 8 lbn ++ leBytes 4 offset ++ leBytes 4 length
  | .archiveFront lbn => leBytes 8 lbn
  | .served ctx => optionalField 1 (ctx.map Fin.val)
  | .flagSource before after => oneByte before.code ++ oneByte after.code
  | .posted n value => oneByte n ++ yesNoByte value
  | .wasSet yes => yesNoByte yes
  | .waited flag mode value => oneByte flag.val ++ oneByte mode.code ++ yesNoByte value
  | .index liveCount oldest next entries =>
    leBytes 4 liveCount ++ optionalField 8 oldest ++ leBytes 8 next ++ oneByte entries.length ++ entries.flatMap Entry.bytes
  | .status r => r.bytes
  | .counts c occupancy => c.bytes ++ oneByte occupancy
  | .notices pending mask => leBytes 2 pending.toNat ++ leBytes 2 mask.toNat

/-- A response message: a header of 8 bytes, then the result fields and the data (R203). -/
def Response.bytes (r : Response) : List Byte :=
  let body := r.result.bytes ++ r.data
  [r.tag, r.kind] ++ oneByte r.status.code ++ topByte r.top ++ leBytes 4 body.length ++ body

end Sys2Proof.Machine
end

