-- ==== Sys2Proof/Machine/Intake.lean ====
section
/-!
DEFINITION. The Sample Link commands: FRAME_ARRIVAL, RESYNC_MARKER, LINK_LOCK_LOSS, HALT_ASSERTION and HALT_RELEASE
(chapter 2).
-/
namespace Sys2Proof.Machine

/-! ## Loss records (R36) -/

/-- The total of two parts of a loss record's field. Where the exact sum does not fit the field's 64 bits it is a free value
(assumption log 4). -/
def lossSum (a b : Nat) : Nat :=
  if a + b < 2 ^ 64 then a + b else (Config.lossTotal a b).toNat

/-- A loss joins a loss record, or creates it with that loss's cause (R36). -/
def addLoss (r : Option LossRecord) (cause : LossCause) (frames bytes : Nat) : LossRecord :=
  match r with
  | none => { firstCause := cause, missingFrames := frames, droppedBytes := bytes, parts := 1 }
  | some r =>
    { r with
      missingFrames := lossSum r.missingFrames frames
      droppedBytes := lossSum r.droppedBytes bytes
      parts := lossSum r.parts 1 }

/-- The loss record after the Sequence gap a frame carries, if it carries one, is merged into it (R36). -/
def addGapLoss (r : Option LossRecord) (gap : Nat) : Option LossRecord :=
  if gap = 0 then r else some (addLoss r .sequence gap 0)

/-! ## Frames -/

/-- The frame joins the Intake FIFO with its loss record: the pending record, then its own Sequence gap (R36, R37). Pause is
asserted when occupancy becomes 48 (R40), and a frame that finds intake empty is presented (R48). -/
def State.joinIntake (s : State) (f : Frame) (gap : Nat) : State :=
  let s := s.mapLink fun l =>
    { l with intake := l.intake ++ [.frame f (addGapLoss l.pendingLoss gap)], pendingLoss := none }
  let s := s.mapLink fun l => { l with pause := l.pause || decide (s.occupancy = 48) }
  s.present

/-- A frame offered to a full FIFO is dropped; its Sequence gap and then its payload join the pending loss record (R36, R37). -/
def State.dropAtIntake (s : State) (f : Frame) (gap : Nat) : State :=
  (s.count fun c => { c with framesDroppedIntake := c.framesDroppedIntake + 1 }).mapLink fun l =>
    { l with pendingLoss := some (addLoss (addGapLoss l.pendingLoss gap) .intake 0 f.payload.length) }

/-- The capture state test and the intake test of a frame that carries a Sequence gap of this many frames, 0 for none (R34,
R37). -/
def State.offerFrame (s : State) (f : Frame) (gap : Nat) : State :=
  if !s.takingFrames then s.count fun c => { c with framesDiscarded := c.framesDiscarded + 1 }
  else if s.occupancy < 64 then s.joinIntake f gap
  else s.dropAtIntake f gap

/-- The next frame in order will carry the Sequence after this one (R32). -/
def State.expectAfter (s : State) (f : Frame) : State :=
  s.mapLink fun l => { l with expected := some (f.sequence + 1) }

/-- The sequence test of a frame that passed its check (R32, R33). -/
def State.sequenceTest (s : State) (f : Frame) : State :=
  match s.link.expected with
  | none => (s.expectAfter f).offerFrame f 0
  | some expected =>
    let d := (f.sequence - expected).toNat
    if d = 0 then (s.expectAfter f).offerFrame f 0
    else if d ≤ 32767 then
      let s := s.count fun c =>
        { c with sequenceGaps := c.sequenceGaps + 1, framesMissing := c.framesMissing + BitVec.ofNat 64 d }
      ((s.raiseNotice .linkFault).expectAfter f).offerFrame f d
    else (s.count fun c => { c with framesBad := c.framesBad + 1 }).raiseNotice .linkFault

/-- A frame arrives, so the link is in lock; it is counted and checked (R31). -/
def State.receive (s : State) (bytes : List Byte) : State :=
  let s := s.mapLink fun l => { l with locked := true }
  let s := s.count fun c => { c with framesReceived := c.framesReceived + 1 }
  match parseFrame bytes with
  | some f => s.sequenceTest f
  | none => (s.count fun c => { c with framesBad := c.framesBad + 1 }).raiseNotice .linkFault

/-- FRAME_ARRIVAL (R31 to R37). -/
def execFrameArrival (bytes : List Byte) (s : State) : Host.Outcome State Fault Refusal :=
  .next (s.act fun s => s.receive bytes)

/-! ## Link resync (R43) -/

/-- The last item of the intake order is a resync marker (R43). -/
def State.endsInResync (s : State) : Bool :=
  match s.link.intake.getLast? with
  | some (.resyncMarker _) => true
  | some (.haltMarker _) => false
  | some (.frame _ _) => false
  | none => false

/-- A resync marker joins the tail of intake with the pending loss record; behind another resync marker none is placed and the
pending record is discarded (R43). -/
def State.placeResync (s : State) : State :=
  if s.endsInResync then s.mapLink fun l => { l with pendingLoss := none }
  else s.mapLink fun l => { l with intake := l.intake ++ [.resyncMarker l.pendingLoss], pendingLoss := none }

/-- A link resync (R43). -/
def State.resync (s : State) : State :=
  let s := s.count fun c => { c with linkResyncs := c.linkResyncs + 1 }
  let s := (s.raiseNotice .linkFault).mapLink fun l => { l with expected := none }
  if s.takingFrames then s.placeResync else s

/-- RESYNC_MARKER (R43): the front end's resync marker arrives, so the link is in lock. -/
def execResyncMarker (s : State) : Host.Outcome State Fault Refusal :=
  .next (s.act fun s => (s.mapLink fun l => { l with locked := true }).resync)

/-- LINK_LOCK_LOSS (R43, R44): the resync is taken at the loss of a lock the link had; with no lock regained since the last loss
there is none to lose. -/
def execLinkLockLoss (relocked : Bool) (s : State) : Host.Outcome State Fault Refusal :=
  .next
    (s.act fun s =>
      if s.link.locked || relocked then (s.mapLink fun l => { l with locked := false }).resync else s)

/-! ## The Halt line (R42, R97, R98, R99) -/

/-- An Orderly halt starts: a halt marker joins the tail of intake with the pending loss record (R42, R98). -/
def State.startOrderlyHalt (s : State) : State :=
  (s.mapLink fun l => { l with intake := l.intake ++ [.haltMarker l.pendingLoss], pendingLoss := none }).mapControl
    fun c => { c with orderlyHalt := true }

/-- Capture Control takes a Halt assertion: in Running or Stopping by the active Halt Mode, in other states without effect (R97,
R98, R99). -/
def State.takeHalt (s : State) : State :=
  if s.control.capture = .running ∨ s.control.capture = .stopping then
    match s.control.active.haltMode with
    | .immediate => s.stopAtOnce .halt .halt
    | .orderly => if s.control.orderlyHalt then s else s.startOrderlyHalt
  else s

/-- HALT_ASSERTION (R42): one event when the line changes from released to asserted; a line held asserted gives none. -/
def execHaltAssertion (s : State) : Host.Outcome State Fault Refusal :=
  .next (s.act fun s => if s.link.haltLine then s else (s.mapLink fun l => { l with haltLine := true }).takeHalt)

/-- HALT_RELEASE (R42). -/
def execHaltRelease (s : State) : Host.Outcome State Fault Refusal :=
  .next (s.act fun s => s.mapLink fun l => { l with haltLine := false })

end Sys2Proof.Machine
end

