-- ==== Sys2Proof/Machine/Viewer.lean ====
section
/-!
DEFINITION. The Viewer Engine's requests: PIN, UNPIN and READ (chapter 7).
-/
namespace Sys2Proof.Machine

/-- The range covers an LBN (R136). -/
def PinRange.covers (r : PinRange) (lbn : Nat) : Bool :=
  decide (r.first ≤ lbn) && decide (lbn < r.rangeEnd)

/-- A Pin's clamped range, from the present Tail and Head (R137). -/
def State.pinRange (s : State) (first count : Nat) : PinRange where
  first := max first s.ring.tail
  rangeEnd := min (first + count) s.ring.head

/-- The lowest-numbered Free pin (R138). -/
def State.freePin (s : State) : Option (Fin 8) :=
  (List.finRange 8).find? fun i => s.pins[i].isNone

/-- Change the Pin Count of every block of a range (R11). -/
def State.mapPinCounts (s : State) (r : PinRange) (f : Nat → Nat) : State :=
  s.mapRing fun ring =>
    { ring with blocks := ring.blocks.map fun b => if r.covers b.lbn then { b with pinCount := f b.pinCount } else b }

/-- A pin becomes Live with a range, or Free (R136). -/
def State.putPin (s : State) (id : Fin 8) (r : Option PinRange) : State :=
  { s with pins := s.pins.set id r }

/-- The act of a Pin that is taken (R138). -/
def State.takePin (s : State) (id : Fin 8) (r : PinRange) : State :=
  ((s.putPin id (some r)).mapPinCounts r fun n => n + 1).reband

/-- A pin is removed: its blocks' Pin Counts fall and it becomes Free (R11, R141). -/
def State.dropPin (s : State) (id : Fin 8) : State :=
  match s.pins[id] with
  | some r => (s.mapPinCounts r fun n => n - 1).putPin id none
  | none => s

/-- PIN (R137, R138), in the order of its table. -/
def execPin (h : Header) (first : BitVec 64) (count : BitVec 32) (s : State) : Host.Outcome State Fault Refusal :=
  .next
    (s.request .viewer .pin h 12 fun s =>
      match lbnParam first with
      | none => s.refuse .viewer h.tag .pin .badParam
      | some n =>
        if count.toNat = 0 ∨ 16384 < count.toNat then s.refuse .viewer h.tag .pin .badParam
        else
          match s.freePin with
          | none => s.refuse .viewer h.tag .pin .limit
          | some id =>
            let r := s.pinRange n count.toNat
            if n + count.toNat ≤ s.ring.tail then s.refuse .viewer h.tag .pin .gone
            else if r.rangeEnd ≤ r.first then s.refuse .viewer h.tag .pin .badParam
            else
              (s.takePin id r).answer .viewer h.tag .pin
                (if r = { first := n, rangeEnd := n + count.toNat } then .ok else .adjusted)
                (.pin id r.first (r.rangeEnd - r.first)))

/-- UNPIN (R141). -/
def execUnpin (h : Header) (s : State) : Host.Outcome State Fault Refusal :=
  .next
    (s.request .viewer .unpin h 0 fun s =>
      match below 8 h.target.toNat with
      | none => s.refuse .viewer h.tag .unpin .badParam
      | some id =>
        match s.pins[id] with
        | none => s.refuse .viewer h.tag .unpin .badParam
        | some r => (s.dropPin id).reband.answer .viewer h.tag .unpin .ok (.unpin r.first (r.rangeEnd - r.first)))

/-- The rows of R142 for a Read of a Live pin. -/
def State.checkRead (s : State) (h : Header) (id : Fin 8) (r : PinRange) (lbn offset length : Nat) : State :=
  if !r.covers lbn then s.refuse .viewer h.tag .read .outOfWindow
  else if ((s.findBlock lbn).map Block.fillBytes).getD 0 ≤ offset then s.refuse .viewer h.tag .read .badParam
  else if !s.blockActive lbn then s.refuse .viewer h.tag .read .asleep
  else
    let q : ReadRequest := { tag := h.tag, pin := id, lbn := lbn, offset := offset, length := length }
    (s.mapStore fun t => { t with viewerQueue := t.viewerQueue ++ [q] }).setProgress .viewer h.tag .queued

/-- READ (R142). -/
def execRead (h : Header) (lbn : BitVec 64) (offset length : BitVec 32) (s : State) : Host.Outcome State Fault Refusal :=
  .next
    (s.request .viewer .read h 16 fun s =>
      match below 8 h.target.toNat, lbnParam lbn, pieceOk offset length with
      | some id, some n, true =>
        match s.pins[id] with
        | none => s.refuse .viewer h.tag .read .badParam
        | some r => s.checkRead h id r n offset.toNat length.toNat
      | _, _, _ => s.refuse .viewer h.tag .read .badParam)

end Sys2Proof.Machine
end

