-- ==== Sys2Proof/Machine/Ports.lean ====
section
/-!
DEFINITION. The reads of the index, the status and the counts; the message ports' own commands RESET_PORT, UNSUPPORTED_KIND and
PORT_LINK_DOWN; and DEVICE_RESET (chapters 4 and 11).
-/
namespace Sys2Proof.Machine

/-! ## ReadIndex (R88), ReadStatus (R201), ReadCounts (R202) -/

/-- The status and the entries of a ReadIndex whose Count is in range (R88). -/
def State.indexAnswer (s : State) (first count : Nat) : Status × List Entry :=
  match s.index.head?, s.index.getLast? with
  | some oldest, some newest =>
    if newest.number < first then (.empty, [])
    else if first < oldest.number then (.adjusted, s.index.take count)
    else (.ok, (s.index.filter fun e => first ≤ e.number).take count)
  | _, _ => (.empty, [])

/-- READ_INDEX (R88): Count alone is refused; a From above the newest live entry is answered EMPTY, whatever its size. -/
def execReadIndex (p : Port) (h : Header) (first : BitVec 64) (count : BitVec 8) (s : State) :
    Host.Outcome State Fault Refusal :=
  .next
    (s.request p .readIndex h 9 fun s =>
      if count.toNat = 0 ∨ 16 < count.toNat then s.refuse p h.tag .readIndex .badParam
      else
        let found := s.indexAnswer first.toNat count.toNat
        s.answer p h.tag .readIndex found.1
          (.index s.index.length (s.index.head?.map Entry.number) s.assembler.nextSegment found.2))

/-- The ring slot that names a group (R175). -/
def State.ringSlot (s : State) (g : Fin 16) : Option Nat :=
  s.power.groupMap.findIdx? fun x => x = g

/-- The status record of a port (R201). -/
def State.statusRecord (s : State) (p : Port) : StatusRecord where
  capture := s.control.capture
  stopReason := s.control.stopReason
  band := s.ring.band
  span := s.power.groupMap.length
  pause := s.link.pause
  captureEnable := s.link.captureEnable
  orderlyHalt := s.control.orderlyHalt
  swapPending := s.control.swapPending
  headMark := s.control.headMark
  archiveMark := s.control.archiveMark
  openSegment := s.openEntry.map Entry.number
  openFill := s.fillingBlock.map Block.fillBytes
  occupancy := s.occupancy
  top := (s.port p).notices.top
  head := s.ring.head
  tail := s.ring.tail
  archiveFront := s.archiveFront
  holdFloor := s.holdFloor
  headroom := s.headroom
  capacity := s.capacity
  groups :=
    (List.finRange 16).map fun g =>
      { state := s.power.groups[g].state, next := s.power.groups[g].next, slot := s.ringSlot g }

/-- READ_STATUS (R201). -/
def execReadStatus (p : Port) (h : Header) (s : State) : Host.Outcome State Fault Refusal :=
  .next (s.request p .readStatus h 0 fun s => s.answer p h.tag .readStatus .ok (.status (s.statusRecord p)))

/-- READ_COUNTS (R202). -/
def execReadCounts (p : Port) (h : Header) (s : State) : Host.Outcome State Fault Refusal :=
  .next
    (s.request p .readCounts h 0 fun s => s.answer p h.tag .readCounts .ok (.counts s.link.counts s.occupancy))

/-! ## Port reset (R199, R200) -/

/-- Every request slot of the port is discarded (R199 step 1). -/
def State.discardSlots (s : State) (p : Port) : State :=
  s.mapPort p fun q => { q with slots := [] }

/-- Every wait of the port leaves every flag's arrival order, without response (R190). -/
def State.dropWaits (s : State) (p : Port) : State :=
  { s with flags := s.flags.map fun f => { f with waits := f.waits.filter fun w => w.port ≠ p } }

/-- The requester of an in-flight read of the port becomes discarded (R163). -/
def InFlight.discardFor (e : InFlight) (p : Port) : InFlight :=
  match e.requester with
  | .request q _ => if q = p then { e with requester := .discarded } else e
  | .discarded => e
  | .absent => e

/-- The port's reads in flight stay in the list with their requester discarded (R163, R199 step 3). -/
def State.discardReads (s : State) (p : Port) : State :=
  s.mapStore fun t => { t with inFlight := t.inFlight.map fun e => e.discardFor p }

/-- A Claimed block becomes Sealed (R10). -/
def Block.unclaim (b : Block) : Block :=
  match b.state with
  | .claimed _ => { b with state := .sealed }
  | .filling => b
  | .sealed => b
  | .archived => b

/-- An Archive Port reset at the Drain Engine and the archive queue (R132): parked takes are removed, every claim is returned with no parked
take to be offered it, every context closes, and queued Fetches are removed. -/
def State.resetDrain (s : State) : State :=
  let s := s.mapDrain fun _ => { contexts := Vector.replicate 4 none, parkedTakes := [] }
  let s := s.mapRing fun r => { r with blocks := r.blocks.map Block.unclaim }
  s.mapStore fun t => { t with archiveQueue := [] }

/-- A Viewer Port reset at the Viewer Engine and the viewer queue (R149): queued and held Reads are removed, every pin becomes Free, and the band
is re-evaluated once. -/
def State.resetViewer (s : State) : State :=
  let s := s.mapStore fun t => { t with viewerQueue := [] }
  ((List.finRange 8).foldl State.dropPin s).reband

/-- The owning blocks' effects of a reset of the port (R199 step 2). -/
def State.resetOwners (s : State) : Port → State
  | .viewer => s.resetViewer
  | .archive => s.resetDrain

/-- A port reset (R199): slots, waits, the owning blocks' effects, the reads in flight, and the Notice Unit (R194). The port's waits leave
before its owners act, so that no event of the reset reaches a wait of a request the reset has discarded. -/
def State.resetPort (s : State) (p : Port) : State :=
  ((((s.discardSlots p).dropWaits p).resetOwners p).discardReads p).mapPort p fun q => { q with notices := resetNotices }

/-- RESET_PORT (R195, R199): taken without a slot, whatever the slots and tags in use; a body that fails the framing test, or is not empty, resets
nothing. -/
def execResetPort (p : Port) (h : Header) (s : State) : Host.Outcome State Fault Refusal :=
  .next <|
    State.endAct <|
      if h.bodyLength.toNat ≠ h.received then (s.arrive p).reject p h.tag (RequestKind.code .resetPort) .badParam
      else if h.received ≠ 0 then (s.arrive p).reject p h.tag (RequestKind.code .resetPort) .badParam
      else ((s.arrive p).resetPort p).reject p h.tag (RequestKind.code .resetPort) .ok

/-- UNSUPPORTED_KIND (R195): a message whose Kind is not in the port's set takes no slot and changes nothing; its framing is tested first. A Kind
that is in the set makes another command. -/
def execUnsupportedKind (p : Port) (kind : BitVec 8) (h : Header) (s : State) : Host.Outcome State Fault Refusal :=
  .next <|
    State.endAct <|
      if p.supportsCode kind then s.beginAct
      else if h.bodyLength.toNat ≠ h.received then (s.arrive p).reject p h.tag kind .badParam
      else (s.arrive p).reject p h.tag kind .unsupported

/-- PORT_LINK_DOWN (R200): a port reset with no response, in the act that finds the link lost; a loss before the link has come up again is no
event. -/
def execPortLinkDown (p : Port) (cameUp : Bool) (s : State) : Host.Outcome State Fault Refusal :=
  .next
    (s.act fun s =>
      if (s.port p).linkUp || cameUp then (s.resetPort p).mapPort p fun q => { q with linkUp := false } else s)

/-! ## Device reset -/

/-- DEVICE_RESET: every block's state takes its device-reset value, with the levels the outside presents (R29, R47, R73, R89, R110, R135, R150,
R152, R181, R190, R194, R196, R200). The queue of waiting commands is the outside's and stays, and so does the model's own count of reads, so that
no free value is drawn twice (assumption logs 3 and 20). -/
def execDeviceReset (levels : ResetLevels) (s : State) : Host.Outcome State Fault Refusal :=
  .next
    { resetWith levels with
      pending := s.pending
      store := { (resetWith levels).store with readsDone := s.store.readsDone } }

end Sys2Proof.Machine
end

