-- ==== Sys2Proof/Machine/Power.lean ====
section
/-!
DEFINITION. The Group Power Controller: SET_GROUP_NEXT, APPLY_GROUPS, GROUP_SETTLE, SET_GROUP_MAP and REFORM (chapter 9), and the
end of a group's drain, which a completion on the Store Channel brings about (R171).
-/
namespace Sys2Proof.Machine

/-! ## Group records (R166 to R172) -/

/-- Replace a group record. -/
def State.putGroup (s : State) (g : Fin 16) (r : Group) : State :=
  { s with power := { s.power with groups := s.power.groups.set g r } }

/-- The group is Changing (R166). -/
def Group.isChanging (r : Group) : Bool :=
  match r.state with
  | .changing _ _ _ => true
  | .settled _ => false

/-- A group is Changing (R168, R172). -/
def State.anyChanging (s : State) : Bool :=
  s.power.groups.toList.any Group.isChanging

/-- The group's Next differs from its State (R168). -/
def Group.wantsChange (r : Group) : Bool :=
  decide (r.state ≠ .settled r.next)

/-- No operation in flight is on the group (R160, R171). -/
def State.groupIdle (s : State) (g : Fin 16) : Bool :=
  s.store.inFlight.all fun e => decide (e.group ≠ g)

/-- The group's contents are lost: no byte of it is defined any more (R166, R170). -/
def State.loseContents (s : State) (g : Fin 16) : State :=
  s.mapStore fun t => { t with memory := Memory.forget t.memory (g.val * groupBytes) ((g.val + 1) * groupBytes) }

/-- The group settles in its Target (R172): contents are lost when it settles in Off and undefined when the change began from Off
(R170), and GroupsSettled is raised when no group is Changing after the settle. -/
def State.settleGroup (s : State) (g : Fin 16) (start target : GroupPower) : State :=
  let s := s.putGroup g { s.power.groups[g] with state := .settled target }
  let s := if start = .off ∨ target = .off then s.loseContents g else s
  if s.anyChanging then s else s.raise .groupsSettled

/-- The µs of the Timing phase of a change (R170): 2 ms from Off, 200 µs between Retain and Active. -/
def timingOf (start : GroupPower) : Nat :=
  match start with
  | .off => 2000
  | .retain => 200
  | .active => 200

/-- The phase a change begins in (R170): Draining from Active, Timing from Off or Retain. A change from Retain to Off settles at
once and stands in Draining until then, in the same act. -/
def firstPhase (start target : GroupPower) : Phase :=
  match start, target with
  | .active, _ => .draining
  | .retain, .off => .draining
  | _, _ => .timing (timingOf start)

/-- The end of the Draining phase (R171): a change to Off settles, a change to Retain begins its Timing. -/
def State.endDraining (s : State) (g : Fin 16) : State :=
  match s.power.groups[g].state with
  | .changing start target .draining =>
    match target with
    | .off => s.settleGroup g start target
    | .retain => s.putGroup g { s.power.groups[g] with state := .changing start target (.timing (timingOf start)) }
    | .active => s.putGroup g { s.power.groups[g] with state := .changing start target (.timing (timingOf start)) }
  | .changing _ _ (.timing _) => s
  | .settled _ => s

/-- Tell the Group Power Controller when no operation is in flight on a group: a Draining phase ends (R160, R171). A change from Retain
to Off waits for nothing (R170). -/
def State.checkDrain (s : State) (g : Fin 16) : State :=
  if s.groupIdle g then s.endDraining g else s

/-- SET_GROUP_NEXT (R167). -/
def execSetGroupNext (h : Header) (next : BitVec 8) (s : State) : Host.Outcome State Fault Refusal :=
  .next
    (s.request .viewer .setGroupNext h 1 fun s =>
      match below 16 h.target.toNat, groupPowerParam next with
      | some g, some n =>
        (s.putGroup g { s.power.groups[g] with next := n }).answer .viewer h.tag .setGroupNext .ok
          (.groupNext s.power.groups[g].state n)
      | _, _ => s.refuse .viewer h.tag .setGroupNext .badParam)

/-! ## ApplyGroups (R168, R169) -/

/-- The group is named by the Group Map (R175). -/
def State.mapped (s : State) (g : Fin 16) : Bool :=
  s.power.groupMap.contains g

/-- The groups whose Next differs from their State, lowest first (R168). -/
def State.wanting (s : State) : List (Fin 16) :=
  (List.finRange 16).filter fun g => s.power.groups[g].wantsChange

/-- The lowest-numbered mapped group whose change the capture state refuses (R168): any change in Running or Stopping, a change to Off
in Stopped. -/
def State.refusedGroup (s : State) : Option (Fin 16) :=
  s.wanting.find? fun g =>
    s.mapped g
      && (match s.control.capture with
        | .running => true
        | .stopping => true
        | .stopped => decide (s.power.groups[g].next = .off)
        | .unformed => false
        | .idle => false)

/-- A group becomes Changing from its State to its Next (R169). -/
def State.beginChange (s : State) (g : Fin 16) : State :=
  match s.power.groups[g].state with
  | .settled p =>
    let target := s.power.groups[g].next
    s.putGroup g { s.power.groups[g] with state := .changing p target (firstPhase p target) }
  | .changing _ _ _ => s

/-- The changes whose first phase ends in the act of the ApplyGroups: a change from Retain to Off, and a drain with nothing in flight on the
group (R169, R170, R171). -/
def State.endFirstPhase (s : State) (g : Fin 16) : State :=
  match s.power.groups[g].state with
  | .changing .retain .off _ => s.endDraining g
  | _ => s.checkDrain g

/-- The act of an ApplyGroups answered OK (R169): every group that wants a change becomes Changing, then the first phases that end at once
end. -/
def State.applyChanges (s : State) : State :=
  s.wanting.foldl State.endFirstPhase (s.wanting.foldl State.beginChange s)

/-- APPLY_GROUPS (R168, R169). DESIGN CHOICE (assumption log 23): where every change settles in this act, the responses of the Waits that
GroupsSettled serves leave before the ApplyGroups response; R172 leaves the order open. -/
def execApplyGroups (h : Header) (s : State) : Host.Outcome State Fault Refusal :=
  .next
    (s.request .viewer .applyGroups h 0 fun s =>
      if s.anyChanging then s.answer .viewer h.tag .applyGroups .inTransition (.refusedGroup none)
      else
        match s.refusedGroup with
        | some g => s.answer .viewer h.tag .applyGroups .wrongState (.refusedGroup (some g))
        | none => s.applyChanges.answer .viewer h.tag .applyGroups .ok (.changingCount s.wanting.length))

/-- GROUP_SETTLE (R172): the time of a group in its Timing phase has run out, and it settles in its Target; a group in no Timing phase has
no time to run out. -/
def execGroupSettle (g : Fin 16) (s : State) : Host.Outcome State Fault Refusal :=
  .next
    (s.act fun s =>
      match s.power.groups[g].state with
      | .changing start target (.timing _) => s.settleGroup g start target
      | .changing _ _ .draining => s
      | .settled _ => s)

/-! ## SetGroupMap (R176, R177) -/

/-- The groups of a SetGroupMap, when the span is one of its values, the list holds exactly Span entries, each a group, and no two the same
(R176). -/
def groupMapParam (span : BitVec 8) (groups : List (BitVec 8)) : Option (List (Fin 16)) :=
  let map := groups.filterMap fun g => below 16 g.toNat
  if (span = 1 ∨ span = 2 ∨ span = 4 ∨ span = 8 ∨ span = 16) ∧ groups.length = span.toNat ∧ map.length = groups.length
      ∧ map.Nodup then
    some map
  else none

/-- The act of a SetGroupMap answered OK (R177). -/
def State.putMap (s : State) (map : List (Fin 16)) : State :=
  let s := { s with power := { s.power with groupMap := map } }
  let s := s.mapRing fun r => { r with blocks := [] }
  let s := s.mapControl fun c => { c with capture := .unformed }
  s.reclamp.rebandFresh.updatePause

/-- SET_GROUP_MAP (R176, R177). A body without even the Span byte is not the length of its fields (R195). -/
def execSetGroupMap (h : Header) (span : BitVec 8) (groups : List (BitVec 8)) (s : State) :
    Host.Outcome State Fault Refusal :=
  .next
    (s.request .viewer .setGroupMap h (1 + groups.length) fun s =>
      match groupMapParam span groups with
      | none => s.refuse .viewer h.tag .setGroupMap .badParam
      | some map =>
        if s.control.capture = .unformed ∨ s.control.capture = .idle then
          (s.putMap map).answer .viewer h.tag .setGroupMap .ok (.groupMap map.length (1024 * map.length) map)
        else s.refuse .viewer h.tag .setGroupMap .wrongState)

/-! ## Reform (R178, R179) -/

/-- A claim, a Live pin or a read in flight on a held block stands in the way of a Reform (R178). -/
def State.reformBlocked (s : State) : Bool :=
  (List.finRange 4).any (fun c => !(s.claims c).isEmpty) || s.pins.toList.any Option.isSome
    || s.ring.blocks.any fun b => decide (0 < b.readsInFlight)

/-- The act of a Reform answered OK (R179). -/
def State.reform (s : State) : State :=
  let s := s.mapRing fun r => { r with blocks := [], tail := r.head }
  let s := { s with index := [] }
  let s := s.mapControl fun c => { c with capture := .idle, stopReason := .none }
  (s.reclamp.rebandFresh.updatePause).testArchiveMark

/-- REFORM (R178, R179). -/
def execReform (h : Header) (s : State) : Host.Outcome State Fault Refusal :=
  .next
    (s.request .viewer .reform h 0 fun s =>
      if s.control.capture = .running ∨ s.control.capture = .stopping ∨ s.reformBlocked then
        s.refuse .viewer h.tag .reform .wrongState
      else if !s.mapActive then s.refuse .viewer h.tag .reform .asleep
      else
        s.reform.answer .viewer h.tag .reform .ok
          (.reformed s.reform.ring.head s.reform.capacity s.reform.ring.band))

end Sys2Proof.Machine
end

