-- ==== Sys2Proof/Machine/StoreChannel.lean ====
section
/-!
DEFINITION. The Store Channel's commands: FETCH_GRANT and READ_GRANT, and the three completions (chapter 8).
-/
namespace Sys2Proof.Machine

/-! ## Grants (R123, R143, R155 to R160) -/

/-- A read is issued: it joins the in-flight list, its block's Reads In Flight rises by one, and its slot shows it issued (R159, R160). -/
def State.issueRead (s : State) (p : Port) (tag : Byte) (op : Operation) (lbn offset length : Nat) : State :=
  let entry : InFlight :=
    { op := op, lbn := lbn, group := s.groupOf lbn, address := s.storeAddress lbn offset, length := length,
      requester := .request p tag }
  let s := s.mapStore fun t => { t with inFlight := t.inFlight ++ [entry] }
  (s.mapBlock lbn fun b => { b with readsInFlight := b.readsInFlight + 1 }).setProgress p tag .issued

/-- A granted Fetch is tested again and issued, or answered GONE or ASLEEP (R123, R158). -/
def State.grantFetch (s : State) (r : FetchRequest) : State :=
  match s.findBlock r.lbn with
  | none => s.refuse .archive r.tag .fetch .gone
  | some _ =>
    if s.blockActive r.lbn then s.issueRead .archive r.tag (.archiveRead r) r.lbn r.offset r.length
    else s.refuse .archive r.tag .fetch .asleep

/-- A granted Read is tested again and issued with its effective length, or answered GONE or ASLEEP (R143, R158). -/
def State.grantRead (s : State) (r : ReadRequest) : State :=
  match s.findBlock r.lbn with
  | none => s.refuse .viewer r.tag .read .gone
  | some b =>
    if s.blockActive r.lbn then
      s.issueRead .viewer r.tag (.viewerRead r b.fillBytes (decide (b.state ≠ .filling))) r.lbn r.offset
        (min r.length (b.fillBytes - r.offset))
    else s.refuse .viewer r.tag .read .asleep

/-- FETCH_GRANT (R123, R155): the grant is made when it is due and falls to the archive class. It sets Turn to the viewer (R156). -/
def execFetchGrant (s : State) : Host.Outcome State Fault Refusal :=
  .next
    (s.act fun s =>
      match s.grantChoice, s.store.archiveQueue with
      | some .archive, r :: rest =>
        (s.mapStore fun t => { t with archiveQueue := rest, turn := .viewer }).grantFetch r
      | _, _ => s)

/-- READ_GRANT (R143, R155): the grant is made when it is due and falls to the viewer class. It sets Turn to the archive (R156). -/
def execReadGrant (s : State) : Host.Outcome State Fault Refusal :=
  .next
    (s.act fun s =>
      match s.grantChoice, s.store.viewerQueue with
      | some .viewer, r :: rest =>
        (s.mapStore fun t => { t with viewerQueue := rest, turn := .archive }).grantRead r
      | _, _ => s)

/-! ## Completions (R124, R144, R159 to R163) -/

/-- The oldest entry leaves the in-flight list (R159). -/
def State.popInFlight (s : State) : State :=
  s.mapStore fun t => { t with inFlight := t.inFlight.tail }

/-- The Block Assembler waits on a read at the Tail (R18, R48). -/
def State.waitingOnRead (s : State) : Bool :=
  s.assembler.stage.isSome && !s.store.admission

/-- The admission request is placed again when the completion has brought the Reads In Flight of the Tail block waited on to 0 (R160). -/
def State.wakeAssembler (s : State) (lbn : Nat) : State :=
  if s.waitingOnRead && decide (lbn = s.ring.tail)
      && ((s.findBlock lbn).map fun b => decide (b.readsInFlight = 0)).getD false then
    s.mapStore fun t => { t with admission := true }
  else s

/-- A read's count in its block's Reads In Flight ends, and the blocks that wait on it are told (R11, R160, R171). -/
def State.endRead (s : State) (lbn : Nat) (g : Fin 16) : State :=
  ((s.mapBlock lbn fun b => { b with readsInFlight := b.readsInFlight - 1 }).wakeAssembler lbn).checkDrain g

/-- The units of a read, as many as its length holds (R161). -/
def unitsOf (units : List UnitResult) (length : Nat) : List UnitResult :=
  units.take (length / 64)

/-- A read has an uncorrectable unit (R162). -/
def uncorrectable (units : List UnitResult) : Bool :=
  units.any fun u => decide (u = .uncorrectable)

/-- Corrected Errors increases by one for each unit corrected (R161). -/
def State.countCorrected (s : State) (units : List UnitResult) : State :=
  s.count fun c =>
    { c with correctedErrors := c.correctedErrors + BitVec.ofNat 64 (units.countP fun u => decide (u = .corrected)) }

/-- A read met an uncorrectable error: its block and segment are marked Damaged, the error is counted, and MediaError is raised (R81,
R162). -/
def State.markDamaged (s : State) (lbn : Nat) : State :=
  let s :=
    match s.findBlock lbn with
    | some b => (s.mapBlock lbn fun b => { b with damaged := true }).mapEntry b.segment fun e => { e with damaged := true }
    | none => s
  (s.count fun c => { c with uncorrectableErrors := c.uncorrectableErrors + 1 }).raise .mediaError

/-- Answer a completed read, unless its requester is discarded (R124, R144, R163): the data, with OK or ADJUSTED, or MEDIA_ERROR with no
data. -/
def State.answerRead (s : State) (e : InFlight) (kind : RequestKind) (clamped failed : Bool) (result : Result)
    (data : List Byte) : State :=
  match e.requester with
  | .request p tag =>
    if failed then s.answer p tag kind .mediaError result
    else s.answerWith p tag kind (if clamped then .adjusted else .ok) result data
  | .discarded => s
  | .absent => s

/-- A read completes (R124, R144, R161, R162, R163): its units are checked, it is answered, and its count in Reads In Flight ends. Its response
leaves before those of the Waits its events serve (assumption log 23). -/
def State.completeRead (s : State) (e : InFlight) (units : List UnitResult) (kind : RequestKind) (clamped : Bool)
    (result : Result) : State :=
  let units := unitsOf units e.length
  let data := Memory.deliver s.store.memory s.store.readsDone e.address e.length
  let s := s.popInFlight.mapStore fun t => { t with readsDone := t.readsDone + 1 }
  let s := (s.countCorrected units).answerRead e kind clamped (uncorrectable units) result data
  let s := if uncorrectable units then s.markDamaged e.lbn else s
  s.endRead e.lbn e.group

/-- The payload of a completed admission write stands in the store (R159). -/
def State.storePayload (s : State) (address : Nat) (payload : List Byte) : State :=
  s.mapStore fun t => { t with memory := Memory.write t.memory address payload }

/-- ADMISSION_WRITE_COMPLETION (R159): the oldest operation in flight is an admission write and completes. -/
def execAdmissionWriteCompletion (s : State) : Host.Outcome State Fault Refusal :=
  .next
    (s.act fun s =>
      match s.store.inFlight with
      | e :: _ =>
        match e.op with
        | .admissionWrite payload => ((s.popInFlight).storePayload e.address payload).checkDrain e.group
        | .archiveRead _ => s
        | .viewerRead _ _ _ => s
      | [] => s)

/-- FETCH_COMPLETION (R124): the oldest operation in flight is a Fetch and completes. -/
def execFetchCompletion (units : List UnitResult) (s : State) : Host.Outcome State Fault Refusal :=
  .next
    (s.act fun s =>
      match s.store.inFlight with
      | e :: _ =>
        match e.op with
        | .archiveRead r => s.completeRead e units .fetch r.clamped (.fetch r.lbn r.offset e.length)
        | .admissionWrite _ => s
        | .viewerRead _ _ _ => s
      | [] => s)

/-- READ_COMPLETION (R144): the oldest operation in flight is a Read and completes. -/
def execReadCompletion (units : List UnitResult) (s : State) : Host.Outcome State Fault Refusal :=
  .next
    (s.act fun s =>
      match s.store.inFlight with
      | e :: _ =>
        match e.op with
        | .viewerRead r fill blockSealed =>
          s.completeRead e units .read (decide (e.length < r.length)) (.read r.pin r.lbn r.offset e.length fill blockSealed)
        | .admissionWrite _ => s
        | .archiveRead _ => s
      | [] => s)

end Sys2Proof.Machine
end

