-- ==== Sys2Proof/Machine/Sync.lean ====
section
/-!
DEFINITION. The Sync Flag Unit's and the Notice Units' requests: SET_FLAG_SOURCE, POST, WAIT, CLEAR_FLAG, SET_NOTICE_MASK,
CLEAR_NOTICE and FORCE_NOTICE, and the expiry WAIT_TIMEOUT (chapter 10).
-/
namespace Sys2Proof.Machine

/-- The flag a Target names (R183). -/
def flagParam (h : Header) : Option (Fin 8) :=
  below 8 h.target.toNat

/-- The port selects the Source of a flag: 0..3 the Viewer Port, 4..7 the Archive Port (R182). -/
def ownsFlag (p : Port) (i : Fin 8) : Bool :=
  match p with
  | .viewer => decide (i.val < 4)
  | .archive => decide (4 ≤ i.val)

/-- SET_FLAG_SOURCE (R183). -/
def execSetFlagSource (p : Port) (h : Header) (source : BitVec 8) (s : State) : Host.Outcome State Fault Refusal :=
  .next
    (s.request p .setFlagSource h 1 fun s =>
      match flagParam h, flagSourceParam source with
      | some i, some src =>
        if ownsFlag p i then
          (s.putFlag i { s.flags[i] with source := src }).answer p h.tag .setFlagSource .ok
            (.flagSource s.flags[i].source src)
        else s.refuse p h.tag .setFlagSource .unsupported
      | _, _ => s.refuse p h.tag .setFlagSource .badParam)

/-- POST (R185). -/
def execPost (p : Port) (h : Header) (s : State) : Host.Outcome State Fault Refusal :=
  .next
    (s.request p .post h 0 fun s =>
      match flagParam h with
      | none => s.refuse p h.tag .post .badParam
      | some i => (s.setFlag i).answer p h.tag .post .ok (.posted (s.servedBySet i) (s.setFlag i).flags[i].value))

/-- CLEAR_FLAG (R186). -/
def execClearFlag (p : Port) (h : Header) (s : State) : Host.Outcome State Fault Refusal :=
  .next
    (s.request p .clearFlag h 0 fun s =>
      match flagParam h with
      | none => s.refuse p h.tag .clearFlag .badParam
      | some i =>
        (s.putFlag i { s.flags[i] with value := false }).answer p h.tag .clearFlag .ok (.wasSet s.flags[i].value))

/-- A wait parks on a Clear flag: it keeps its slot and joins the newest end of the flag's arrival order (R187). -/
def State.parkWait (s : State) (i : Fin 8) (w : ParkedWait) : State :=
  (s.putFlag i { s.flags[i] with waits := s.flags[i].waits ++ [w] }).setProgress w.port w.tag .parked

/-- The rows of R187 for a Wait whose parameters are in range. -/
def State.takeWait (s : State) (i : Fin 8) (w : ParkedWait) : State :=
  if s.flags[i].value then
    match w.mode with
    | .peek => s.answer w.port w.tag .wait .ok (.waited i .peek true)
    | .consume =>
      (s.putFlag i { s.flags[i] with value := false }).answer w.port w.tag .wait .ok (.waited i .consume false)
  else if 4 ≤ s.flags[i].waits.length then s.refuse w.port w.tag .wait .limit
  else s.parkWait i w

/-- WAIT (R187). -/
def execWait (p : Port) (h : Header) (mode : BitVec 8) (timeout : BitVec 32) (s : State) :
    Host.Outcome State Fault Refusal :=
  .next
    (s.request p .wait h 5 fun s =>
      match flagParam h, waitModeParam mode with
      | some i, some m =>
        if 65535 < timeout.toNat then s.refuse p h.tag .wait .badParam
        else
          s.takeWait i
            { port := p, tag := h.tag, mode := m, timeout := timeout.toNat,
              timeLeft := if timeout.toNat = 0 then none else some timeout.toNat }
      | _, _ => s.refuse p h.tag .wait .badParam)

/-- WAIT_TIMEOUT (R189): the time of a parked wait runs out, and it completes TIMED_OUT; a wait that is not parked, or has no Timeout, has
no time to run out. -/
def execWaitTimeout (i : Fin 8) (p : Port) (tag : Byte) (s : State) : Host.Outcome State Fault Refusal :=
  .next
    (s.act fun s =>
      match s.flags[i].waits.find? fun w => decide (w.port = p ∧ w.tag = tag) && w.timeLeft.isSome with
      | none => s
      | some w =>
        (s.putFlag i { s.flags[i] with waits := s.flags[i].waits.filter fun x => x ≠ w }).answer p tag .wait .timedOut
          (.waited i w.mode s.flags[i].value))

/-! ## Notices (R192) -/

/-- A request that manages the port's own Notice Unit, with the set of kinds it names (R192): the response carries the Pending set and
Mask after it. -/
def State.manageNotices (s : State) (p : Port) (h : Header) (kind : RequestKind) (kinds : BitVec 16)
    (f : NoticeSet → NoticeUnit → NoticeUnit) : State :=
  match noticeSetParam kinds with
  | none => s.refuse p h.tag kind .badParam
  | some set =>
    let t := s.mapNotices p (f set)
    t.answer p h.tag kind .ok (.notices (t.port p).notices.pending (t.port p).notices.mask)

/-- SET_NOTICE_MASK (R192). -/
def execSetNoticeMask (p : Port) (h : Header) (kinds : BitVec 16) (s : State) : Host.Outcome State Fault Refusal :=
  .next
    (s.request p .setNoticeMask h 2 fun s =>
      s.manageNotices p h .setNoticeMask kinds fun set u => { u with mask := set })

/-- CLEAR_NOTICE (R192). -/
def execClearNotice (p : Port) (h : Header) (kinds : BitVec 16) (s : State) : Host.Outcome State Fault Refusal :=
  .next
    (s.request p .clearNotice h 2 fun s =>
      s.manageNotices p h .clearNotice kinds fun set u => { u with pending := u.pending &&& ~~~set })

/-- FORCE_NOTICE (R192). -/
def execForceNotice (p : Port) (h : Header) (kinds : BitVec 16) (s : State) : Host.Outcome State Fault Refusal :=
  .next
    (s.request p .forceNotice h 2 fun s =>
      s.manageNotices p h .forceNotice kinds fun set u => { u with pending := u.pending ||| set })

end Sys2Proof.Machine
end

