-- ==== Sys2Proof/Machine/Dispatch.lean ====
section
/-!
DEFINITION. The meaning of every command: one arm per constructor of `Instr`, each one direct call of its definition.
-/
namespace Sys2Proof.Machine

/-- What a command does to everything but the queue of waiting commands. -/
def exec (i : Instr) (s : State) : Host.Outcome State Fault Refusal :=
  match i with
  | .start h => Sys2Proof.Machine.execStart h s
  | .stopAtSegmentEnd h mode => Sys2Proof.Machine.execStopAtSegmentEnd h mode s
  | .stopNow h mode => Sys2Proof.Machine.execStopNow h mode s
  | .flush h => Sys2Proof.Machine.execFlush h s
  | .stageProfile h p => Sys2Proof.Machine.execStageProfile h p s
  | .readProfile h which => Sys2Proof.Machine.execReadProfile h which s
  | .setHeadMark h lbn action => Sys2Proof.Machine.execSetHeadMark h lbn action s
  | .clearHeadMark h => Sys2Proof.Machine.execClearHeadMark h s
  | .pin h first count => Sys2Proof.Machine.execPin h first count s
  | .unpin h => Sys2Proof.Machine.execUnpin h s
  | .read h lbn offset length => Sys2Proof.Machine.execRead h lbn offset length s
  | .setGroupNext h next => Sys2Proof.Machine.execSetGroupNext h next s
  | .applyGroups h => Sys2Proof.Machine.execApplyGroups h s
  | .setGroupMap h span groups => Sys2Proof.Machine.execSetGroupMap h span groups s
  | .reform h => Sys2Proof.Machine.execReform h s
  | .openContext h windowFirst windowLength => Sys2Proof.Machine.execOpenContext h windowFirst windowLength s
  | .closeContext h => Sys2Proof.Machine.execCloseContext h s
  | .take h wait => Sys2Proof.Machine.execTake h wait s
  | .fetch h lbn offset length => Sys2Proof.Machine.execFetch h lbn offset length s
  | .confirm h lbn withLoss => Sys2Proof.Machine.execConfirm h lbn withLoss s
  | .returnBlock h lbn => Sys2Proof.Machine.execReturnBlock h lbn s
  | .setArchiveMark h lbn => Sys2Proof.Machine.execSetArchiveMark h lbn s
  | .clearArchiveMark h => Sys2Proof.Machine.execClearArchiveMark h s
  | .setFlagSource p h source => Sys2Proof.Machine.execSetFlagSource p h source s
  | .post p h => Sys2Proof.Machine.execPost p h s
  | .wait p h mode timeout => Sys2Proof.Machine.execWait p h mode timeout s
  | .clearFlag p h => Sys2Proof.Machine.execClearFlag p h s
  | .readIndex p h first count => Sys2Proof.Machine.execReadIndex p h first count s
  | .readStatus p h => Sys2Proof.Machine.execReadStatus p h s
  | .readCounts p h => Sys2Proof.Machine.execReadCounts p h s
  | .setNoticeMask p h kinds => Sys2Proof.Machine.execSetNoticeMask p h kinds s
  | .clearNotice p h kinds => Sys2Proof.Machine.execClearNotice p h kinds s
  | .forceNotice p h kinds => Sys2Proof.Machine.execForceNotice p h kinds s
  | .resetPort p h => Sys2Proof.Machine.execResetPort p h s
  | .unsupportedKind p kind h => Sys2Proof.Machine.execUnsupportedKind p kind h s
  | .portLinkDown p cameUp => Sys2Proof.Machine.execPortLinkDown p cameUp s
  | .frameArrival bytes => Sys2Proof.Machine.execFrameArrival bytes s
  | .resyncMarker => Sys2Proof.Machine.execResyncMarker s
  | .linkLockLoss relocked => Sys2Proof.Machine.execLinkLockLoss relocked s
  | .haltAssertion => Sys2Proof.Machine.execHaltAssertion s
  | .haltRelease => Sys2Proof.Machine.execHaltRelease s
  | .deviceReset levels => Sys2Proof.Machine.execDeviceReset levels s
  | .idleFlushExpiry => Sys2Proof.Machine.execIdleFlushExpiry s
  | .waitTimeout flag p tag => Sys2Proof.Machine.execWaitTimeout flag p tag s
  | .groupSettle group => Sys2Proof.Machine.execGroupSettle group s
  | .admissionGrant => Sys2Proof.Machine.execAdmissionGrant s
  | .fetchGrant => Sys2Proof.Machine.execFetchGrant s
  | .readGrant => Sys2Proof.Machine.execReadGrant s
  | .haltMarkerWorked => Sys2Proof.Machine.execHaltMarkerWorked s
  | .resyncMarkerWorked => Sys2Proof.Machine.execResyncMarkerWorked s
  | .admissionWriteCompletion => Sys2Proof.Machine.execAdmissionWriteCompletion s
  | .fetchCompletion units => Sys2Proof.Machine.execFetchCompletion units s
  | .readCompletion units => Sys2Proof.Machine.execReadCompletion units s

end Sys2Proof.Machine
end

