-- ==== Sys2Proof/Machine/Step.lean ====
section
/-!
DEFINITION. One step of the block: the command at the front of the queue is taken and executed; on an empty queue the block idles.
-/
namespace Sys2Proof.Machine

/-- One step. The command at the front of the queue runs with the queue's rest; an empty queue leaves the state as it is (DESIGN CHOICE,
assumption log 1: what time alone brings about are rows of the table). -/
def step (s : State) : Host.Outcome State Fault Refusal :=
  match s.pending with
  | [] => .next s
  | c :: rest => exec c { s with pending := rest }

/-- The state with the command that a table word spells put at the front of its queue. The table gives no row any bits, so no word spells
one and the state stays as it is (assumption log 16). -/
def State.withFetchWord (s : State) (nbits w : Nat) : State :=
  match decodeTableWord nbits w with
  | some c => { s with pending := c :: s.pending }
  | none => s

end Sys2Proof.Machine
end

