-- ==== Sys2Proof/Safety.lean ====
section
/-!
DEFINITION. The terms the statements use: when a request is taken, what a state is once a request has been answered, what events and an entry to
Stopped do, and the forms that every step keeps.
-/
namespace Sys2Proof.Machine

/-! ## Requests (R195, R196, R197) -/

/-- The message passes the tests of its port and the length test of its owning block: it is framed, its body is as long as its
parameter fields, a slot is free, and its tag is not in use (R195). -/
def Taken (s : State) (p : Port) (h : Header) (bodyBytes : Nat) : Prop :=
  h.bodyLength.toNat = h.received ∧ h.received = bodyBytes ∧ (s.port p).slots.length < 16
    ∧ ∀ x ∈ (s.port p).slots, x.tag ≠ h.tag

/-- The state with a port's link seen to be up, as the arrival of a message shows it (R200). -/
def State.reached (s : State) (p : Port) : State :=
  s.mapPort p fun q => { q with linkUp := true }

/-- The state in which its owning block meets a request that has been taken: the port's link is up, the slot is occupied, and no response of
the act has left. -/
def State.opened (s : State) (p : Port) (h : Header) (k : RequestKind) : State :=
  (s.arrive p).occupy p h.tag k

/-- The state when the one response of the act has left a port: its slot is free again, the port's link is seen to be up, and the
response carries the Top Notice of the port as it stands (R193, R196, R197). -/
def State.respond (s : State) (p : Port) (tag : Byte) (kind : BitVec 8) (status : Status) (result : Result) : State :=
  { s.mapPort p (fun q => { q with linkUp := true }) with
    sent :=
      [{ port := p, tag := tag, kind := kind, status := status, top := (s.port p).notices.top, result := result, data := [] }] }

/-- The state when a request has been answered with this status and these result fields, and no other response left in the act. -/
def State.answered (s : State) (p : Port) (h : Header) (kind : RequestKind) (status : Status) (result : Result) : State :=
  s.respond p h.tag kind.code status result

/-- The state when a request has been refused: nothing else has changed (R197). -/
def State.refused (s : State) (p : Port) (h : Header) (kind : RequestKind) (status : Status) : State :=
  s.answered p h kind status .none

/-- The state when a request has been taken and waits: it keeps its slot, and no response leaves (R196). -/
def State.waiting (s : State) (p : Port) (h : Header) (kind : RequestKind) (progress : Progress) : State :=
  { s.mapPort p (fun q =>
      { q with linkUp := true, slots := q.slots ++ [{ tag := h.tag, kind := kind, progress := progress }] }) with
    sent := [] }

/-- The responses of the act include this answer to a request, with the Top Notice that stands at the end of the act (R197). -/
def State.answers (t : State) (p : Port) (h : Header) (kind : RequestKind) (status : Status) (result : Result) : Prop :=
  { port := p, tag := h.tag, kind := kind.code, status := status, top := (t.port p).notices.top, result := result,
    data := [] } ∈ t.sent

/-! ## Events (R184, R188, R191) -/

/-- A flag after it has been set: a Clear flag serves its parked waits, a Set flag stays as it is (R184, R188). -/
def SyncFlag.afterSet (f : SyncFlag) : SyncFlag :=
  if f.value then f else { f with value := (serveWaits f.waits).value, waits := (serveWaits f.waits).kept }

/-- A flag after an event: it is set when its Source names the event (R184). -/
def SyncFlag.afterEvent (f : SyncFlag) (e : Event) : SyncFlag :=
  if f.source = e.source then f.afterSet else f

/-- The state without the parts that events and answers reach: the flags, the two ports and the responses. -/
def State.unsignalled (s : State) : State :=
  { s with
    flags := Vector.replicate 8 { value := false, source := .none, waits := [] }
    viewerPort := resetPortState false
    archivePort := resetPortState false
    sent := [] }

/-- The slots of requests that are neither parked waits nor parked takes are kept, and no slot appears. -/
def SlotsKept (s t : State) : Prop :=
  ∀ p : Port, ∀ x : Slot,
    (x ∈ (t.port p).slots → x ∈ (s.port p).slots)
      ∧ (x ∈ (s.port p).slots → (∀ i : Fin 8, ∀ w ∈ s.flags[i].waits, w.port = p → w.tag ≠ x.tag)
          → (∀ k ∈ s.drain.parkedTakes, p = .archive → k.tag ≠ x.tag) → x ∈ (t.port p).slots)

/-- From `s` to `t` these events were raised, in this order, and besides them these notice kinds: every flag is as the events leave it, the
kinds have joined both Pending sets, and the masks, the links and the slots of requests that wait on no event are as they were. -/
structure Signalled (s t : State) (es : List Event) (ks : List NoticeKind) : Prop where
  flags : t.flags = es.foldl (fun fs e => fs.map fun f => f.afterEvent e) s.flags
  pending : ∀ p : Port,
    (t.port p).notices.pending
      = (es.map Event.notice ++ ks).foldl (fun set k => set ||| k.single) (s.port p).notices.pending
  mask : ∀ p : Port, (t.port p).notices.mask = (s.port p).notices.mask
  links : ∀ p : Port, (t.port p).linkUp = (s.port p).linkUp
  slots : SlotsKept s t

/-- The waits that an event completes, each with its flag and the flag's Value after it (R184, R188). -/
def State.waitsServed (s : State) (e : Event) : List (Fin 8 × ParkedWait × Bool) :=
  (List.finRange 8).flatMap fun i =>
    if s.flags[i].source = e.source ∧ s.flags[i].value = false then
      (serveWaits s.flags[i].waits).served.map fun done => (i, done)
    else []

/-- From `s` to `t` a port was reached by these events alone, which completed these waits: their kinds have joined its Pending set, Mask and link are as they
were, the slots of the completed waits are free and all others kept, and the waits' OK answers are the port's only responses (R188, R191, R193, R196). -/
structure ReachedByEvents (p : Port) (s t : State) (es : List Event) (served : List (Fin 8 × ParkedWait × Bool)) : Prop where
  pending : (t.port p).notices.pending = es.foldl (fun set e => set ||| e.notice.single) (s.port p).notices.pending
  mask : (t.port p).notices.mask = (s.port p).notices.mask
  line : (t.port p).notices.line =
    if es = [] then (s.port p).notices.line else decide ((t.port p).notices.pending &&& (t.port p).notices.mask ≠ 0)
  link : (t.port p).linkUp = (s.port p).linkUp
  slots : (t.port p).slots =
    (s.port p).slots.filter fun x => served.all fun d => !(decide (d.2.1.port = p) && decide (d.2.1.tag = x.tag))
  responses : (t.sent.filter fun r => decide (r.port = p)).Perm
    ((served.filter fun d => decide (d.2.1.port = p)).map fun d =>
      { port := p, tag := d.2.1.tag, kind := RequestKind.code .wait, status := .ok, top := (t.port p).notices.top,
        result := .waited d.1 d.2.1.mode d.2.2, data := [] })

/-- The event of a change of band; none when the band stays as it is (R27). -/
def bandEvents (before after : Band) : List Event :=
  if after = before then [] else [after.event]

/-! ## Sealing, closing and stopping (R9, R51, R59, R95, R118) -/

/-- Capture is Running or Stopping. -/
def State.capturing (s : State) : Prop :=
  s.control.capture = .running ∨ s.control.capture = .stopping

/-- The Block Table once the Filling block has been sealed: it is Sealed, or Claimed for the oldest parked take whose window covers it when its
Archive Required is set (R9, R118). -/
def State.sealedBlocks (s : State) : List Block :=
  match s.fillingBlock with
  | none => s.ring.blocks
  | some f =>
    let after : BlockState :=
      if f.archiveRequired then ((s.takerOf f.lbn).map fun k => BlockState.claimed k.ctx).getD .sealed else .sealed
    s.ring.blocks.map fun b => if b.lbn = f.lbn then { b with state := after } else b

/-- A parked take has completed OK with the Claim record of a block of a segment, as the entry of the segment stands (R84, R116, R118). -/
def ClaimAnswered (t : State) (k : ParkedTake) (b : Block) (e : Entry) : Prop :=
  { port := .archive, tag := k.tag, kind := RequestKind.code .take, status := .ok, top := t.archivePort.notices.top
    result :=
      .claim
        { lbn := b.lbn, segment := b.segment, fillBytes := b.fillBytes, firstOfSegment := decide (b.lbn = e.firstLbn)
          lastOfSegment := e.closeReason.isSome && decide (b.lbn + 1 = e.firstLbn + e.blockCount), damaged := b.damaged }
    data := [] } ∈ t.sent

/-- From `s` to `t` the Filling block was sealed, and the parked take that receives it, if one does, has been answered with its Claim record (R9, R118). -/
def SealAnswered (s t : State) : Prop :=
  ∀ (b : Block) (k : ParkedTake) (e : Entry), s.fillingBlock = some b → b.archiveRequired = true →
    s.takerOf b.lbn = some k → s.findEntry b.segment = some e → ClaimAnswered t k b e

/-- Blocks that join the drain order one after another, each offered to the parked takes that remain, oldest first: which take received each, and the takes
left (R118). -/
def offerInTurn (windows : Vector (Option Window) 4) : List ParkedTake → List Block → List (Block × Option ParkedTake) × List ParkedTake
  | takes, [] => ([], takes)
  | takes, b :: rest =>
    let taker := takes.find? fun k => (windows[k.ctx].map fun w => w.covers b.lbn).getD false
    let later := offerInTurn windows (takes.filter fun k => decide (taker ≠ some k)) rest
    ((b, taker) :: later.1, later.2)

/-- The Segment Index once the open segment has closed with a reason: its entry is Closed, and retired if none of its blocks is held (R80,
R83). -/
def State.closedIndex (s : State) (reason : CloseReason) : List Entry :=
  (s.index.map fun e => if e.isOpen then { e with closeReason := some reason } else e).filter fun e =>
    e.isOpen || !e.emptied

/-- The events of a close, when a segment is open: the seal of its Filling block, if there is one, then SegmentClosed (R59). -/
def State.closeEvents (s : State) : List Event :=
  if s.openEntry.isSome then (if s.fillingBlock.isSome then [.blockSealed] else []) ++ [.segmentClosed] else []

/-- The effective values of a profile in a ring of C blocks: P clamped to C, and where it was, K to C − 1; L raised to one full frame's points
(R104). -/
def Profile.clampedTo (q : Profile) (c : Nat) : Profile :=
  { q with
    pressed := if c < q.pressed then c else q.pressed
    critical := if c < q.pressed ∧ c ≤ q.critical then c - 1 else q.critical
    sliceLength :=
      if q.sliceLength < 8192 / (q.sampleWidth * q.channelCount) then 8192 / (q.sampleWidth * q.channelCount)
      else q.sliceLength }

/-- Capture Control and the blocks it tells once capture has entered Stopped with a reason, from a state `s` of the same act (R39, R95). -/
structure EnteredStopped (s t : State) (reason : StopReason) : Prop where
  control : t.control =
    { s.control with
      capture := .stopped
      stopReason := reason
      stoppingReason := none
      orderlyHalt := false
      swapPending := false
      requested := if s.control.swapPending then s.control.staged else s.control.requested
      active := if s.control.swapPending then s.control.staged.clampedTo s.capacity else s.control.active }
  link : t.link =
    { s.link with
      intake := []
      pendingLoss := none
      captureEnable := false
      pause := decide (t.ring.band = .critical ∧ t.control.active.pauseOnCritical = true)
      counts := t.link.counts }
  discarded : t.link.counts.framesDiscarded = s.link.counts.framesDiscarded + BitVec.ofNat 64 s.occupancy
  band : t.ring.band =
    if s.control.swapPending then
      bandFresh s.headroom t.control.active.pressed t.control.active.critical
    else s.ring.band
  continuation : t.assembler.continuation = none
  stage : t.assembler.stage = none
  number : t.assembler.nextSegment = s.assembler.nextSegment
  store : t.store = { s.store with admission := false }
  drain : t.drain = { s.drain with parkedTakes := [] }

/-- The Pause line after occupancy has fallen, the band has changed or a profile has been taken (R40). -/
def pauseLevel (band : Band) (pauseOnCritical : Bool) (occupancy : Nat) (before : Bool) : Bool :=
  if band = .critical ∧ pauseOnCritical = true then true else if occupancy ≤ 16 then false else before

/-- From `s` to `t` the band was re-evaluated with hysteresis on the Headroom that `t` shows, and the Pause line has followed a change of it (R25,
R40). -/
structure Rebanded (s t : State) : Prop where
  band : t.ring.band =
    bandMove s.ring.band t.headroom s.control.active.pressed s.control.active.critical s.control.active.hysteresis
  link : t.link =
    { s.link with
      pause :=
        if t.ring.band = s.ring.band then s.link.pause
        else pauseLevel t.ring.band s.control.active.pauseOnCritical s.occupancy s.link.pause }

/-- From `s` to `t` the band was evaluated afresh against the profile that `t` holds, and the Pause line was brought up to date (R26, R40). -/
structure BandedAfresh (s t : State) : Prop where
  band : t.ring.band = bandFresh t.headroom t.control.active.pressed t.control.active.critical
  link : t.link =
    { s.link with pause := pauseLevel t.ring.band t.control.active.pauseOnCritical s.occupancy s.link.pause }

/-- The whole of a stop at once, from `s` to `t`: intake is discarded, the open segment, if any, closes with a reason, and capture enters Stopped
(R93, R97). -/
structure StoppedAtOnce (s t : State) (close : CloseReason) (reason : StopReason) : Prop where
  entered : EnteredStopped s t reason
  ring : t.ring =
    { s.ring with
      blocks := if s.openEntry.isSome = true then s.sealedBlocks else s.ring.blocks
      band := t.ring.band }
  index : t.index = if s.openEntry.isSome = true then s.closedIndex close else s.index
  counts : t.link.counts =
    { s.link.counts with
      framesDiscarded := s.link.counts.framesDiscarded + BitVec.ofNat 64 s.occupancy
      blocksSealed :=
        if s.openEntry.isSome = true ∧ s.fillingBlock.isSome = true then s.link.counts.blocksSealed + 1
        else s.link.counts.blocksSealed }
  timers : s.openEntry.isSome = true → t.assembler.idleFlush = none ∧ t.assembler.sliceCounter = none
  takes : ∀ k ∈ s.drain.parkedTakes, ∃ r ∈ t.sent, r.port = .archive ∧ r.tag = k.tag ∧ (r.status = .ok ∨ r.status = .empty)
  pins : t.pins = s.pins
  power : t.power = s.power
  pending : t.pending = s.pending

/-- The events of a stop at once: those of the close, the change of band that a pending swap brings, and CaptureStopped (R59, R95). -/
def State.stopEvents (s t : State) : List Event :=
  s.closeEvents ++ bandEvents s.ring.band t.ring.band ++ [.captureStopped]

/-- The frames missing before a frame that passed its check: 0 for one in order, `none` for a stale one (R32, R33). -/
def State.gapBefore (s : State) (f : Frame) : Option Nat :=
  match s.link.expected with
  | none => some 0
  | some e => if (f.sequence - e).toNat ≤ 32767 then some (f.sequence - e).toNat else none

/-- The Sample Link Receiver once a frame has passed its check and the sequence test with `d` frames missing before it (R31, R32, R33). -/
def State.afterSequence (s : State) (f : Frame) (d : Nat) : Link :=
  { s.link with
    locked := true
    expected := some (f.sequence + 1)
    counts :=
      { s.link.counts with
        framesReceived := s.link.counts.framesReceived + 1
        sequenceGaps := if d = 0 then s.link.counts.sequenceGaps else s.link.counts.sequenceGaps + 1
        framesMissing := s.link.counts.framesMissing + BitVec.ofNat 64 d } }

/-- A frame stands at the front of an intake order. -/
def frameInFront (intake : List IntakeItem) : Bool :=
  (intake.head?.map IntakeItem.isFrame).getD false

/-- The number of frames of an intake order. -/
def framesIn (intake : List IntakeItem) : Nat :=
  intake.countP IntakeItem.isFrame

/-- The state when a request that held a slot has been answered in a later act: its slot is free, and its response is the only one of the act. -/
def State.completed (s : State) (p : Port) (tag : Byte) (kind : RequestKind) (status : Status) (result : Result)
    (data : List Byte) : State :=
  { s.freeSlot p tag with
    sent :=
      [{ port := p, tag := tag, kind := kind.code, status := status, top := (s.port p).notices.top, result := result,
         data := data }] }

/-- No response leaves in the act. -/
def State.silent (s : State) : State :=
  { s with sent := [] }

/-- The request an operation in flight belongs to no longer holds its slot (R196); a write and a discarded read belong to none. -/
def State.withoutSlotOf (s : State) (e : InFlight) : State :=
  match e.requester with
  | .request p tag => s.freeSlot p tag
  | .absent => s
  | .discarded => s

/-- A group waits in Draining (R171). -/
def State.drains (s : State) (g : Fin 16) : Prop :=
  ∃ start target, s.power.groups[g].state = .changing start target .draining

/-- The group is Changing (R166). -/
def State.changing (s : State) (g : Fin 16) : Prop :=
  ∃ start target phase, s.power.groups[g].state = .changing start target phase

/-- The groups that are Changing, lowest first. -/
def State.changingGroups (s : State) : List (Fin 16) :=
  (List.finRange 16).filter fun g => s.power.groups[g].isChanging

/-! ## The working of a frame (R48 to R50, R54 to R59)

Each relation below is one step of the working, from a state `s` to a state `t` of the same act. The data of `t` are written out as an update of
`s`; the events and notice kinds of the step stand beside them. -/

/-- From `s` to `t` the data have become those of `u`, while these events were raised, in this order, and besides them these notice kinds. -/
def Becomes (s t u : State) (es : List Event) (ks : List NoticeKind) : Prop :=
  Signalled s t es ks ∧ t.unsignalled = u.unsignalled

/-- The grant has been made: the admission request has left its queue, and the frame at the front is under working (R48, R153). -/
def State.granted (s : State) : State :=
  { s with assembler := { s.assembler with stage := none }, store := { s.store with admission := false } }

/-- The state once the Filling block, if there is one, has been sealed: Blocks Sealed has increased, and the parked take that receives the block has
left the arrival order (R9, R51, R118). -/
def State.afterSeal (s : State) : State :=
  match s.fillingBlock with
  | none => s
  | some b =>
    { s with
      ring := { s.ring with blocks := s.sealedBlocks }
      drain :=
        { s.drain with
          parkedTakes := s.drain.parkedTakes.filter fun k => !(b.archiveRequired && decide (s.takerOf b.lbn = some k)) }
      link := { s.link with counts := { s.link.counts with blocksSealed := s.link.counts.blocksSealed + 1 } } }

/-- The events of a seal: BlockSealed, when a block is Filling (R9, R51). -/
def State.sealEvents (s : State) : List Event :=
  if s.fillingBlock.isSome then [.blockSealed] else []

/-- The state once the open segment has closed and capture goes on: its block is sealed, its entry Closed, the idle-flush timer and the slice counter
are gone, and after a Slice close Continuation holds the Next Tick, the carried value, bpp and D (R59, R63, R71). -/
def State.afterClose (s : State) (reason : CloseReason) : State :=
  { s.afterSeal with
    index := s.closedIndex reason
    assembler :=
      { s.assembler with
        idleFlush := none
        sliceCounter := none
        continuation :=
          if reason = .slice then
            s.openEntry.map fun e =>
              { nextTick := e.firstTick + BitVec.ofNat 64 ((e.byteLength / e.bpp + e.totalLost.toNat) * e.tickStep)
                carried := s.assembler.sliceCounter.map fun c => carriedValue c s.control.active.sliceLength
                bpp := e.bpp
                tickStep := e.tickStep }
          else s.assembler.continuation } }

/-- The stop reason of a close that ends Stopping: Halt while an Orderly halt is in progress, else the Stopping reason (R94). -/
def State.reasonOfClose (s : State) : StopReason :=
  if s.control.orderlyHalt = true then .halt else if s.control.stoppingReason = some .headMark then .headMark else .stop

/-- The open segment closes in the course of capture: in Stopping the close ends Stopping, otherwise capture goes on (R59, R94). -/
def ClosedInCourse (s t : State) (reason : CloseReason) : Prop :=
  (s.control.capture = .stopping →
      StoppedAtOnce s t reason s.reasonOfClose ∧ Signalled s t (s.stopEvents t) [])
    ∧ (s.control.capture ≠ .stopping → Becomes s t (s.afterClose reason) s.closeEvents [])

/-- The frame at the front has left intake, and the Pause line has followed the occupancy (R38, R40). -/
def State.frameGone (s : State) (counts : StreamCounts) : State :=
  { s with
    link :=
      { s.link with
        intake := s.link.intake.tail
        pause :=
          pauseLevel s.ring.band s.control.active.pauseOnCritical (framesIn s.link.intake.tail) s.link.pause
        counts := counts } }

/-- The frame at the front has been dropped and counted in Frames Dropped Overrun (R38). -/
def State.frameDropped (s : State) : State :=
  s.frameGone { s.link.counts with framesDroppedOverrun := s.link.counts.framesDroppedOverrun + 1 }

/-- The payload just placed has been counted in the open segment, and its frame in Frames Admitted; the frame has left intake (R38, R49 step 4). -/
def State.framePlaced (s : State) (f : Frame) : State :=
  { s.frameGone { s.link.counts with framesAdmitted := s.link.counts.framesAdmitted + 1 } with
    index := s.index.map fun e => if e.isOpen then { e with byteLength := e.byteLength + f.payload.length } else e }

/-- The admission write of a frame's payload at an offset of a block (R5, R153, R159). -/
def State.writeOf (s : State) (f : Frame) (lbn offset : Nat) : InFlight where
  op := .admissionWrite f.payload
  lbn := lbn
  group := s.groupOf lbn
  address := s.storeAddress lbn offset
  length := f.payload.length
  requester := .absent

/-- Where a grant places the payload of a frame, if it places it: at Fill Bytes of the Filling block when the frame has no Start flag and its payload fits
there, else at byte 0 of the block that takes LBN Head (R8, R49 step 4, R50). -/
def State.placeOf (s : State) (f : Frame) : Nat × Nat :=
  match s.fillingBlock with
  | some b =>
    if f.startFlag = false ∧ b.fillBytes + f.payload.length ≤ blockBytes then (b.lbn, b.fillBytes) else (s.ring.head, 0)
  | none => (s.ring.head, 0)

/-- The payload has been appended to the Filling block, with its write issued (R9, R50). -/
def State.payloadAppended (s : State) (b : Block) (f : Frame) : State :=
  State.framePlaced
    { s with
      ring :=
        { s.ring with
          blocks := s.ring.blocks.map fun x =>
            if x.lbn = b.lbn then { x with fillBytes := x.fillBytes + f.payload.length } else x }
      store := { s.store with inFlight := s.store.inFlight ++ [s.writeOf f b.lbn b.fillBytes] } }
    f

/-- A block of a segment has opened on LBN Head and taken the payload, with its write issued (R8). -/
def State.blockOpened (s : State) (segment : Nat) (archiveRequired : Bool) (f : Frame) : State :=
  { s with
    ring :=
      { s.ring with
        head := s.ring.head + 1
        blocks :=
          s.ring.blocks
            ++ [{ lbn := s.ring.head, state := .filling, fillBytes := f.payload.length, segment := segment,
                  archiveRequired := archiveRequired, pinCount := 0, readsInFlight := 0, damaged := false }] }
    store := { s.store with inFlight := s.store.inFlight ++ [s.writeOf f s.ring.head 0] } }

/-- A new block of the open segment has opened and taken the payload (R50). -/
def State.nextBlockOpened (s : State) (f : Frame) : State :=
  match s.openEntry with
  | none => s
  | some open_ =>
    State.framePlaced
      { s.blockOpened open_.number open_.archiveRequired f with
        index := s.index.map fun e => if e.isOpen then { e with blockCount := e.blockCount + 1 } else e }
      f

/-- The Continuation a frame's segment continues: the one present, when the frame has no Start flag (R54). -/
def State.continuing (s : State) (f : Frame) : Option Continuation :=
  if f.startFlag = true then none else s.assembler.continuation

/-- The entry of the segment that a frame opens, before its payload is counted (R54, R56, R57, R69). -/
def State.entryAtOpen (s : State) (f : Frame) (loss : Option LossRecord) : Entry where
  number := s.assembler.nextSegment
  closeReason := none
  firstLbn := s.ring.head
  blockCount := 1
  presentFrom := s.ring.head
  byteLength := 0
  bpp := s.control.active.sampleWidth * s.control.active.channelCount
  tickStep := s.control.active.tickStep
  archiveRequired := s.control.active.archiveRequired
  firstTick :=
    match f.stamp, s.continuing f, loss with
    | some stamp, _, _ => stamp
    | none, some c, none => c.nextTick
    | none, some c, some r =>
      c.nextTick
        + BitVec.ofNat 64 ((r.missingFrames * (8192 / c.bpp) + r.droppedBytes / c.bpp) * c.tickStep)
    | none, none, _ => 0
  trigger := none
  triggerCount := 0
  triggerIgnored := 0
  gaps := []
  gapOverflow := false
  totalLost := 0
  evictedUnarchived := 0
  startLost := !f.startFlag && s.assembler.continuation.isNone
  noStamp := f.stamp.isNone && (s.continuing f).isNone
  stampConflict := false
  frontEvicted := false
  archivedWithLoss := false
  damaged := false

/-- The segment has opened with its first block, which has taken the payload; the slice counter loads the carried value of the Continuation it
continues, else the effective L (R54, R55 step 5, R70 to R72). -/
def State.segmentOpened (s : State) (f : Frame) (loss : Option LossRecord) : State :=
  State.framePlaced
    { s.blockOpened s.assembler.nextSegment s.control.active.archiveRequired f with
      index := s.index ++ [s.entryAtOpen f loss]
      assembler :=
        { s.assembler with
          continuation := none
          nextSegment := s.assembler.nextSegment + 1
          sliceCounter :=
            match s.control.active.sliceMode, s.continuing f with
            | .off, _ => none
            | .points, none => some (s.control.active.sliceLength : Int)
            | .points, some c => some ((c.carried.getD s.control.active.sliceLength : Nat) : Int) } }
    f

/-- The Trigger flag has been acted on, the slice counter has decreased by the frame's points, and the idle-flush timer has restarted (R49 steps 5 and
6, R52, R64, R70). -/
def State.frameActedOn (s : State) (f : Frame) : State :=
  { s with
    index :=
      s.index.map fun e =>
        if e.isOpen = true ∧ f.triggerFlag = true then e.recordTrigger f ((e.byteLength - f.payload.length) / e.bpp) else e
    assembler :=
      { s.assembler with
        sliceCounter :=
          s.assembler.sliceCounter.map fun c => c - ((s.openEntry.map fun e => f.payload.length / e.bpp).getD 0 : Nat)
        idleFlush := if s.control.active.idleFlushTime = 0 then none else some s.control.active.idleFlushTime } }

/-- The slice counter is present and at 0 or below (R71). -/
def State.sliceReached (s : State) : Prop :=
  ∃ c ∈ s.assembler.sliceCounter, c ≤ 0

/-- The Filling block has reached its 4,194,304 bytes (R49 step 7). -/
def State.blockFull (s : State) : Prop :=
  ∃ b ∈ s.fillingBlock, blockBytes ≤ b.fillBytes

/-- Steps 5 to 8 of the working of a frame whose payload has been placed: the trigger, the counter and the timer; then a close for the End flag or for
the slice counter, which seals the block too, or else the seal of a full block (R49). -/
def Finished (s t : State) (f : Frame) : Prop :=
  (f.endFlag = true → ClosedInCourse (s.frameActedOn f) t .endFrame)
    ∧ (f.endFlag = false → (s.frameActedOn f).sliceReached → ClosedInCourse (s.frameActedOn f) t .slice)
    ∧ (f.endFlag = false → ¬ (s.frameActedOn f).sliceReached → (s.frameActedOn f).blockFull →
        Becomes (s.frameActedOn f) t (s.frameActedOn f).afterSeal [.blockSealed] [])
    ∧ (f.endFlag = false → ¬ (s.frameActedOn f).sliceReached → ¬ (s.frameActedOn f).blockFull →
        Becomes (s.frameActedOn f) t (s.frameActedOn f) [] [])

/-- The armed Archive Mark fires where ArchiveFront has moved to it or past it (R109). -/
def State.archiveMarkFires (s : State) (before : Nat) : Bool :=
  (s.control.archiveMark.map fun m => decide (s.archiveFront ≠ before ∧ m ≤ s.archiveFront)).getD false

/-- The parked take ends WINDOW_DONE where ArchiveFront has moved to the end of its window or past it (R113, R119). -/
def State.takeEnds (s : State) (before : Nat) (k : ParkedTake) : Bool :=
  (s.drain.contexts[k.ctx].map fun w =>
    decide (s.archiveFront ≠ before ∧ w.length ≠ 0 ∧ w.first + w.length ≤ s.archiveFront)).getD false

/-- The ring is brought up to date at the end of an act that found ArchiveFront at `before`: the band, the Archive Mark, the parked takes with bounded
windows (R8, R12, R25, R109, R119). -/
def RingSettled (before : Nat) (s t : State) : Prop :=
  Rebanded s t
    ∧ Becomes s t
        { s with
          ring := { s.ring with band := t.ring.band }
          link := t.link
          control :=
            { s.control with
              archiveMark := if s.archiveMarkFires before = true then none else s.control.archiveMark }
          drain :=
            { s.drain with parkedTakes := s.drain.parkedTakes.filter fun k => !s.takeEnds before k } }
        (bandEvents s.ring.band t.ring.band ++ if s.archiveMarkFires before = true then [.archiveMark] else []) []

/-- The Head Mark is tested against Head, with a segment open: it fires at or below it, and for Action Stop takes Running to Stopping (R108). -/
def HeadMarkTested (s t : State) : Prop :=
  (∀ m : HeadMark, s.control.headMark = some m → m.lbn ≤ s.ring.head →
      Becomes s t
        { s with
          control :=
            { s.control with
              headMark := none
              capture := if m.action = .stop ∧ s.control.capture = .running then .stopping else s.control.capture
              stoppingReason :=
                if m.action = .stop ∧ s.control.capture = .running then some .headMark else s.control.stoppingReason } }
        [.headMark] [])
    ∧ ((∀ m : HeadMark, s.control.headMark = some m → s.ring.head < m.lbn) → Becomes s t s [] [])

/-- The rest of a working whose payload has just opened a block: the ring is brought up to date, the Head Mark is tested, and steps 5 to 8 follow. That
they come in this order is the MODEL's reading (assumption log 8). -/
def OpenedAndFinished (before : Nat) (s t : State) (f : Frame) : Prop :=
  ∃ u v : State, RingSettled before s u ∧ HeadMarkTested u v ∧ Finished v t f

/-- The class of the Tail block, if a block is held (R16). -/
def State.tailClass (s : State) : Option TailClass :=
  s.ring.blocks.head?.map fun b => b.classify s.control.active.overrunPolicy

/-- The Tail block has left the ring: a Recyclable one silently, an Evictable one counted, with OverrunLoss (R12, R17, R22). -/
def TailLeft (s t : State) : Prop :=
  ∃ b : Block, s.ring.blocks.head? = some b
    ∧ (s.tailClass = some .recyclable ∧ Becomes s t (s.recycleTail b) [] []
      ∨ s.tailClass = some .evictable ∧ Becomes s t (s.evictTail b) [] [.overrunLoss])

/-- The ring has no Empty position for LBN Head (R15). -/
def State.ringFull (s : State) : Prop :=
  s.capacity ≤ s.ring.head - s.ring.tail

/-- The position of LBN Head has been granted: at once where it is Empty, else by the Tail block leaving (R4, R15, R16). -/
def BlockGranted (s t : State) : Prop :=
  s.ring.head < lastLbn ∧ (¬ s.ringFull ∧ Becomes s t s [] [] ∨ s.ringFull ∧ TailLeft s t)

/-- The ring is full, and its Tail block is of a class that does not leave (R16). -/
def State.blockedBy (s : State) (c : TailClass) : Prop :=
  s.ring.head < lastLbn ∧ s.ringFull ∧ s.tailClass = some c

/-- The frame waits at the front, at a step of its working, and its admission request is withdrawn (R18, R48, R87). -/
def Waits (s t : State) (stage : Stage) : Prop :=
  Becomes s t { s with assembler := { s.assembler with stage := some stage } } [] []

/-- A capture ends at a frame that has been dropped: the open segment, if any, closes, and capture enters Stopped (R4, R23, R55, R86). -/
def EndsAtDrop (s u t : State) (close : CloseReason) (reason : StopReason) (kind : NoticeKind) : Prop :=
  StoppedAtOnce u t close reason ∧ Signalled s t (u.stopEvents t) [kind]

/-- The state once a frame that no open segment takes has been dropped: Continuation is none (R55). -/
def State.openingDropped (s : State) : State :=
  { s.frameDropped with assembler := { s.assembler with continuation := none } }

/-- The state once an overrun has dropped a frame: its payload is an Overrun gap of the open segment, and without one Continuation is none (R19, R20,
R55, R65, R68). -/
def State.overrunDropped (s : State) (f : Frame) : State :=
  match s.openEntry with
  | none => s.openingDropped
  | some open_ =>
    { s.frameDropped with
      index :=
        s.index.map fun e =>
          if e.isOpen then e.addGap (BitVec.ofNat 64 (f.payload.length / open_.bpp)) .overrun false else e
      assembler :=
        { s.assembler with
          sliceCounter := s.assembler.sliceCounter.map fun c => c - ((f.payload.length / open_.bpp : Nat) : Int) } }

/-- An overrun: the frame is dropped with OverrunLoss, and under Stop the segment closes with reason Overrun and capture enters Stopped (R19 to
R23). -/
def Overrun (s t : State) (f : Frame) : Prop :=
  (s.control.active.overrunPolicy ≠ .stop → Becomes s t (s.overrunDropped f) [] [.overrunLoss])
    ∧ (s.control.active.overrunPolicy = .stop → EndsAtDrop s (s.overrunDropped f) t .overrun .overrun .overrunLoss)

/-- A new block for the open segment, whose Filling block has been sealed: no LBN is left, or the block opens and takes the payload, or the frame waits,
or it is dropped (R4, R15 to R23, R50). -/
def NextBlock (before : Nat) (s t : State) (f : Frame) : Prop :=
  lastLbn ≤ s.ring.head ∧ EndsAtDrop s s.frameDropped t .numberExhausted .lbnExhausted .overrunLoss
    ∨ (∃ u : State, BlockGranted s u ∧ OpenedAndFinished before (u.nextBlockOpened f) t f)
    ∨ s.blockedBy .readBound ∧ Waits s t .nextBlock
    ∨ s.blockedBy .held ∧ Overrun s t f

/-- The first block of a segment that is to open: no LBN is left, or the segment opens, or the frame waits, or it is dropped (R4, R15 to R23, R55 steps 4
and 5). That the ring is brought up to date before the wait or the drop is the MODEL's choice (assumption log 25). -/
def OpensWithBlock (before : Nat) (s t : State) (f : Frame) (loss : Option LossRecord) : Prop :=
  lastLbn ≤ s.ring.head
      ∧ (∃ u : State, RingSettled before s u
          ∧ EndsAtDrop u u.openingDropped t .numberExhausted .lbnExhausted .overrunLoss)
    ∨ (∃ u : State, BlockGranted s u ∧ OpenedAndFinished before (u.segmentOpened f loss) t f)
    ∨ s.blockedBy .readBound ∧ (∃ u : State, RingSettled before s u ∧ Waits u t .openBlock)
    ∨ s.blockedBy .held ∧ ∃ u : State, RingSettled before s u ∧ Overrun u t f

/-- Tail blocks have left the ring, one after another, while the index held 4,096 entries (R85). -/
inductive RoomSought : State → State → Prop where
  | ended {s t : State} : Becomes s t s [] [] → RoomSought s t
  | left {s u t : State} : indexCapacity ≤ s.index.length → TailLeft s u → RoomSought u t → RoomSought s t

/-- A full index could make no room: the frame is dropped with IndexFull, and under Stop capture enters Stopped with reason Overrun (R86). -/
def IndexFull (s t : State) : Prop :=
  (s.control.active.overrunPolicy ≠ .stop → Becomes s t s.openingDropped [] [.indexFull])
    ∧ (s.control.active.overrunPolicy = .stop → EndsAtDrop s s.openingDropped t .overrun .overrun .indexFull)

/-- Room in the Segment Index for a segment that is to open: it has some or makes it, or the frame waits on a Read-bound Tail block, or a Held one has it
dropped (R55 step 3, R85, R86, R87). That the ring is brought up to date before the wait or the drop is the MODEL's choice (assumption log 25). An index without
room always has held blocks (R75); a ring with none is read as Held (assumption log 17). -/
def OpensWithRoom (before : Nat) (s t : State) (f : Frame) (loss : Option LossRecord) : Prop :=
  ∃ u : State, RoomSought s u
    ∧ (u.index.length < indexCapacity ∧ OpensWithBlock before u t f loss
      ∨ indexCapacity ≤ u.index.length ∧ u.tailClass = some .readBound
          ∧ (∃ v : State, RingSettled before u v ∧ Waits v t .makeRoom)
      ∨ indexCapacity ≤ u.index.length ∧ (u.tailClass = some .held ∨ u.tailClass = none)
          ∧ ∃ v : State, RingSettled before u v ∧ IndexFull v t)

/-- A pending swap is taken at the open of a segment: the Staged copy becomes active with its clamps, the band is evaluated afresh, and a carried value
is discarded (R55 step 1, R72, R104). -/
def SwapTaken (s t : State) : Prop :=
  (s.control.swapPending = false → Becomes s t s [] [])
    ∧ (s.control.swapPending = true →
        BandedAfresh s t
          ∧ Becomes s t
              { s with
                control :=
                  { s.control with
                    requested := s.control.staged
                    active := s.control.staged.clampedTo s.capacity
                    swapPending := false }
                assembler :=
                  { s.assembler with
                    continuation := s.assembler.continuation.map fun c => { c with carried := none } }
                ring := { s.ring with band := t.ring.band }
                link := t.link }
              (bandEvents s.ring.band t.ring.band) [])

/-- The frame under working opens a segment: the swap, the segment number, the room in the index and the block, in this order (R55). -/
def Opens (before : Nat) (s t : State) (f : Frame) (loss : Option LossRecord) : Prop :=
  ∃ u : State, SwapTaken s u
    ∧ (lastSegment ≤ u.assembler.nextSegment
          ∧ EndsAtDrop u u.openingDropped t .numberExhausted .segmentNumberExhausted .overrunLoss
      ∨ u.assembler.nextSegment < lastSegment ∧ OpensWithRoom before u t f loss)

/-- The next item of intake is presented: a frame that stands at the front and does not wait places its admission request (R48, R153). -/
def Presented (s t : State) : Prop :=
  Becomes s t
    { s with
      store := { s.store with admission := frameInFront s.link.intake && s.assembler.stage.isNone } }
    [] []

/-! ## Completions (R159 to R162) -/

/-- The state once a read has completed with its units checked: its entry has left the in-flight list, Corrected Errors has counted the corrected units,
its block's Reads In Flight has fallen by one, and the admission request stands again where a frame waits on that block and no other read of it is in
flight (R160, R161). -/
def State.readEnded (s : State) (e : InFlight) (checked : List UnitResult) : State :=
  { s with
    ring :=
      { s.ring with
        blocks := s.ring.blocks.map fun b =>
          if b.lbn = e.lbn then { b with readsInFlight := b.readsInFlight - 1 } else b }
    link :=
      { s.link with
        counts :=
          { s.link.counts with
            correctedErrors :=
              s.link.counts.correctedErrors + BitVec.ofNat 64 (checked.countP fun u => decide (u = .corrected)) } }
    store :=
      { s.store with
        inFlight := s.store.inFlight.tail
        readsDone := s.store.readsDone + 1
        admission :=
          s.store.admission
            || (s.assembler.stage.isSome && decide (e.lbn = s.ring.tail)
              && ((s.findBlock e.lbn).map fun b => decide (b.readsInFlight ≤ 1)).getD false) } }

/-- The state once a read of a block has failed: the block and its segment's entry are Damaged, and Uncorrectable Errors has increased (R162). -/
def State.markedDamaged (s : State) (b : Block) : State :=
  { s with
    ring := { s.ring with blocks := s.ring.blocks.map fun x => if x.lbn = b.lbn then { x with damaged := true } else x }
    index := s.index.map fun x => if x.number = b.segment then { x with damaged := true } else x
    link :=
      { s.link with
        counts := { s.link.counts with uncorrectableErrors := s.link.counts.uncorrectableErrors + 1 } } }

/-! ## The forms every step keeps -/

/-- Frames Received is the sum of the five disposals and of the frames held, modulo 2^64, and the FIFO holds at most 64 (R46). -/
def FramesBalance (s : State) : Prop :=
  s.link.counts.framesReceived
      = s.link.counts.framesAdmitted + s.link.counts.framesDroppedIntake + s.link.counts.framesDroppedOverrun
        + s.link.counts.framesDiscarded + s.link.counts.framesBad + BitVec.ofNat 64 s.occupancy
    ∧ s.occupancy ≤ 64

/-- Capture Control is consistent: Capture Enable follows the capture state (R41), a stop reason stands in Stopped alone (R96), a Stopping reason
in Stopping alone, and an Orderly halt and a pending swap in Running and Stopping alone (R90, R95). -/
def ControlForm (s : State) : Prop :=
  (s.link.captureEnable = true ↔ s.capturing)
    ∧ (s.control.stopReason ≠ .none ↔ s.control.capture = .stopped)
    ∧ (s.control.stoppingReason.isSome = true ↔ s.control.capture = .stopping)
    ∧ (s.control.orderlyHalt = true → s.capturing)
    ∧ (s.control.swapPending = true → s.capturing)

/-- A frame's payload is a whole number of 64-byte units, 1 to 128 of them (R30). -/
def Frame.wellSized (f : Frame) : Prop :=
  64 ≤ f.payload.length ∧ f.payload.length ≤ 8192 ∧ f.payload.length % 64 = 0

/-- Every frame of the intake order is well sized. -/
def IntakeItem.wellSized : IntakeItem → Prop
  | .frame f _ => f.wellSized
  | .resyncMarker _ => True
  | .haltMarker _ => True

/-- The item is a halt marker. -/
def IntakeItem.isHaltMarker : IntakeItem → Bool
  | .haltMarker _ => true
  | .resyncMarker _ => false
  | .frame _ _ => false

/-- The ring: the span and the map are legal (R2), the held blocks are those with LBN in [Tail, Head) (R6), at most C of them, no LBN past
2^40 − 2 has been given (R3, R4), a Filling block is Head − 1 (R7), every fill is 64 to 4,194,304 bytes in 64-byte units (R6), and the ring is
empty in Unformed and Idle (R90). -/
def RingForm (s : State) : Prop :=
  s.power.groupMap.length ∈ [1, 2, 4, 8, 16] ∧ s.power.groupMap.Nodup
    ∧ s.ring.tail ≤ s.ring.head ∧ s.ring.head - s.ring.tail ≤ s.capacity ∧ s.ring.head ≤ lastLbn
    ∧ s.ring.blocks.map Block.lbn = List.range' s.ring.tail (s.ring.head - s.ring.tail)
    ∧ (∀ b ∈ s.ring.blocks, b.state = .filling → b.lbn + 1 = s.ring.head)
    ∧ (∀ b ∈ s.ring.blocks, 64 ≤ b.fillBytes ∧ b.fillBytes ≤ blockBytes ∧ b.fillBytes % 64 = 0)
    ∧ (s.control.capture = .unformed ∨ s.control.capture = .idle → s.ring.tail = s.ring.head)

/-- The Block Assembler: outside Running and Stopping intake is empty and no segment is open (R39, R178); in Stopping one is (R90); a block fills
and the idle-flush timer runs only while a segment is open (R59), and a Continuation is kept only while none is (R54); a frame that waits stands at
the front, at a step its segment allows (R48, R55); a halt marker is in intake exactly while an Orderly halt is in progress (R98). -/
def AssemblyForm (s : State) : Prop :=
  (¬ s.capturing → s.link.intake = [] ∧ s.openEntry = none)
    ∧ (s.control.capture = .stopping → s.openEntry.isSome = true)
    ∧ (s.fillingBlock.isSome = true → s.openEntry.isSome = true)
    ∧ (s.assembler.idleFlush.isSome = true → s.openEntry.isSome = true)
    ∧ (s.assembler.continuation.isSome = true → s.openEntry = none)
    ∧ (∀ x ∈ s.link.intake, x.wellSized)
    ∧ (s.assembler.stage.isSome = true → (s.link.intake.head?.map IntakeItem.isFrame) = some true)
    ∧ (s.assembler.stage = some .nextBlock → s.openEntry.isSome = true ∧ s.fillingBlock = none)
    ∧ (s.assembler.stage = some .makeRoom ∨ s.assembler.stage = some .openBlock → s.openEntry = none)
    ∧ (s.control.orderlyHalt = s.link.intake.any IntakeItem.isHaltMarker)

/-- The band against Headroom and the thresholds: Critical wherever Headroom is at or below K and nowhere above K + H, never Relaxed at or below P,
Pressed in K + 1..P + H alone (R25). -/
def Band.agrees (band : Band) (headroom p k h : Nat) : Prop :=
  (headroom ≤ k → band = .critical) ∧ (headroom ≤ p → band ≠ .relaxed)
    ∧ (band = .pressed → k < headroom ∧ headroom ≤ p + h) ∧ (band = .critical → headroom ≤ k + h)

/-- The band: every profile has K below P, the active P is at most C, and the band agrees with Headroom and the active thresholds (R24, R25). -/
def BandForm (s : State) : Prop :=
  s.control.active.critical < s.control.active.pressed ∧ s.control.requested.critical < s.control.requested.pressed
    ∧ s.control.staged.critical < s.control.staged.pressed ∧ s.control.active.pressed ≤ s.capacity
    ∧ s.ring.band.agrees s.headroom s.control.active.pressed s.control.active.critical s.control.active.hysteresis

/-- The entries cover [lo, hi) in order, without overlap, each with at least one held block and none but the oldest truncated at its front
(R75). -/
def tiles : Nat → Nat → List Entry → Bool
  | lo, hi, [] => decide (lo = hi)
  | lo, hi, e :: rest =>
    decide (e.presentFrom = lo ∧ e.firstLbn ≤ lo ∧ lo < e.firstLbn + e.blockCount)
      && rest.all (fun x => decide (x.firstLbn = x.presentFrom)) && tiles (e.firstLbn + e.blockCount) hi rest

/-- The Segment Index: the live entries carry consecutive numbers up to the next segment number, at most 4,096 of them, only the newest can be
Open, together they cover the held blocks, and every held block belongs to one of them (R61, R75). -/
def IndexForm (s : State) : Prop :=
  s.index.length ≤ indexCapacity ∧ s.index.length ≤ s.assembler.nextSegment ∧ s.assembler.nextSegment ≤ s.ring.head
    ∧ s.index.map Entry.number = List.range' (s.assembler.nextSegment - s.index.length) s.index.length
    ∧ (∀ e ∈ s.index.dropLast, e.isOpen = false)
    ∧ tiles s.ring.tail s.ring.head s.index = true
    ∧ (∀ b ∈ s.ring.blocks, ∃ e ∈ s.index, e.number = b.segment ∧ e.archiveRequired = b.archiveRequired
        ∧ e.firstLbn ≤ b.lbn ∧ b.lbn < e.firstLbn + e.blockCount)

/-- Every entry's Total Points Lost is the sum of its Gap List, modulo 2^64, and the list holds at most four gaps (R74, R79). -/
def GapForm (s : State) : Prop :=
  ∀ e ∈ s.index, e.totalLost = (e.gaps.map Gap.pointsLost).sum ∧ e.gaps.length ≤ 4

/-- The number of Live pins whose range covers an LBN (R136). -/
def State.pinsOver (s : State) (lbn : Nat) : Nat :=
  s.pins.toList.countP fun r => (r.map fun r => r.covers lbn).getD false

/-- The pins: a Live pin's range is not empty and its blocks are held, and every block's Pin Count is the number of Live pins over it (R136,
R139). -/
def PinForm (s : State) : Prop :=
  (∀ r ∈ s.pins.toList.filterMap id, s.ring.tail ≤ r.first ∧ r.first < r.rangeEnd ∧ r.rangeEnd ≤ s.ring.head)
    ∧ ∀ b ∈ s.ring.blocks, b.pinCount = s.pinsOver b.lbn

/-- The operation is a read of a block. -/
def InFlight.isRead (e : InFlight) : Bool :=
  match e.op with
  | .admissionWrite _ => false
  | .archiveRead _ => true
  | .viewerRead _ _ _ => true

/-- The Store Channel: at most three operations are in flight (R152), the blocks under a read are held, every block's Reads In Flight is the number
of reads of it in flight (R6, R11), the store's contents are in canonical form, an admission request stands for the frame at the front (R153),
and a frame that waits without one waits on a read in flight at the Tail (R18, R160). -/
def StoreForm (s : State) : Prop :=
  s.store.inFlight.length ≤ 3
    ∧ (∀ b ∈ s.ring.blocks, b.readsInFlight = s.store.inFlight.countP fun e => e.isRead && decide (e.lbn = b.lbn))
    ∧ (∀ e ∈ s.store.inFlight, e.isRead = true → ∃ b ∈ s.ring.blocks, b.lbn = e.lbn)
    ∧ Memory.wf s.store.memory = true
    ∧ (s.store.admission = true → (s.link.intake.head?.map IntakeItem.isFrame) = some true)
    ∧ ((s.link.intake.head?.map IntakeItem.isFrame) = some true → s.store.admission = false →
        s.assembler.stage.isSome = true ∧ ∃ b ∈ s.ring.blocks, b.lbn = s.ring.tail ∧ 0 < b.readsInFlight)

/-- The Drain Engine: a context holds at most 8 claims, and none while Closed; a parked take belongs to an Open context with fewer than 8 claims,
its window is not done and covers no block of the drain order; a context has at most one; and none is parked in Stopped (R111, R113, R117,
R120). -/
def DrainForm (s : State) : Prop :=
  (∀ c : Fin 4, (s.claims c).length ≤ 8 ∧ (s.drain.contexts[c] = none → s.claims c = []))
    ∧ (∀ k ∈ s.drain.parkedTakes, (s.claims k.ctx).length < 8 ∧ s.drain.contexts[k.ctx].isSome = true
        ∧ ∀ w ∈ s.drain.contexts[k.ctx], w.done s.archiveFront = false
          ∧ ∀ b ∈ s.ring.blocks, b.drainable = true → w.covers b.lbn = false)
    ∧ (s.drain.parkedTakes.map ParkedTake.ctx).Nodup
    ∧ (s.control.capture = .stopped → s.drain.parkedTakes = [])

/-- A change of power state is one that R170 names, in a phase it passes through. -/
def GroupState.legal : GroupState → Bool
  | .settled _ => true
  | .changing .off .active (.timing r) => decide (r = 2000)
  | .changing .off .retain (.timing r) => decide (r = 2000)
  | .changing .retain .active (.timing r) => decide (r = 200)
  | .changing .active .retain .draining => true
  | .changing .active .retain (.timing r) => decide (r = 200)
  | .changing .active .off .draining => true
  | .changing _ _ _ => false

/-- Operations may be in flight on a group in this state: it is Active, or its change from Active still drains (R158, R171). -/
def GroupState.mayHoldOperations : GroupState → Bool
  | .settled .active => true
  | .changing .active _ .draining => true
  | .settled _ => false
  | .changing _ _ _ => false

/-- The group holds defined contents in no state that follows Off without a settle (R166, R170). -/
def GroupState.empty : GroupState → Bool
  | .settled .off => true
  | .changing .off _ _ => true
  | .settled _ => false
  | .changing _ _ _ => false

/-- The bank groups: while capture is Running or Stopping every mapped group is Active (R91); every change is a legal one, and one that drains has
operations in flight to wait for (R170, R171); no operation is in flight on any other group that is not Active (R158); an admission write in flight
lies within its group; and a group that is Off holds no defined contents (R166). -/
def PowerForm (s : State) : Prop :=
  (s.capturing → ∀ g ∈ s.power.groupMap, s.power.groups[g].state = .settled .active)
    ∧ (∀ g : Fin 16, s.power.groups[g].state.legal = true)
    ∧ (∀ g : Fin 16, (match s.power.groups[g].state with | .changing _ _ .draining => true | _ => false) = true →
        s.groupIdle g = false)
    ∧ (∀ e ∈ s.store.inFlight, s.power.groups[e.group].state.mayHoldOperations = true)
    ∧ (∀ e ∈ s.store.inFlight, ∀ d : List Byte, e.op = .admissionWrite d →
        e.group.val * groupBytes ≤ e.address ∧ e.address + d.length ≤ (e.group.val + 1) * groupBytes)
    ∧ (∀ g : Fin 16, s.power.groups[g].state.empty = true →
        ∀ c ∈ s.store.memory, c.1 < g.val * groupBytes ∨ (g.val + 1) * groupBytes ≤ c.1)

/-- The slot of a request that waits at its block: a parked Wait, a parked Take, a queued Fetch or Read, or one in flight whose requester is not
discarded (R163, R196). -/
def slotOf (tag : Byte) (kind : RequestKind) (progress : Progress) : Slot where
  tag := tag
  kind := kind
  progress := progress

/-- The slots of a port's parked waits (R187, R196). -/
def State.waitSlots (s : State) (p : Port) : List Slot :=
  s.flags.toList.flatMap fun f => (f.waits.filter fun w => w.port = p).map fun w => slotOf w.tag .wait .parked

/-- The slots of the requests at the Drain Engine, the Viewer Engine and in the Store Channel's queues of reads (R117, R122, R142, R196). -/
def State.queueSlots (s : State) : Port → List Slot
  | .viewer => s.store.viewerQueue.map fun r => slotOf r.tag .read .queued
  | .archive =>
    (s.drain.parkedTakes.map fun k => slotOf k.tag .take .parked)
      ++ s.store.archiveQueue.map fun r => slotOf r.tag .fetch .queued

/-- The slot of a read in flight at a port (R159, R196). -/
def InFlight.slotAt (e : InFlight) (p : Port) : Option Slot :=
  match e.op, e.requester with
  | .archiveRead _, .request q tag => if q = p then some (slotOf tag .fetch .issued) else none
  | .viewerRead _ _ _, .request q tag => if q = p then some (slotOf tag .read .issued) else none
  | _, _ => none

/-- The request slots between acts: a slot is occupied exactly by a request that parks, is queued or is in flight, with its tag, its Kind and its
progress; so a request that has ended has its slot free (R196). -/
def SlotForm (s : State) : Prop :=
  ∀ p : Port, (s.port p).slots.Perm
    (s.waitSlots p ++ s.queueSlots p ++ s.store.inFlight.filterMap fun e => e.slotAt p)

/-- The ports, notices and flags: at most 16 slots are occupied, each with a tag of its own (R196); a notice line is asserted exactly while a kind
is pending and enabled (R193); a Set flag holds no parked wait, and no flag more than four (R182). -/
def SignalForm (s : State) : Prop :=
  (∀ q ∈ [s.viewerPort, s.archivePort], q.slots.length ≤ 16 ∧ (q.slots.map Slot.tag).Nodup
      ∧ (q.notices.line = true ↔ q.notices.pending &&& q.notices.mask ≠ 0))
    ∧ ∀ i : Fin 8, s.flags[i].waits.length ≤ 4 ∧ (s.flags[i].value = true → s.flags[i].waits = [])

end Sys2Proof.Machine
end

