-- ==== Sys2Proof/Certificates/Slice0/Obligations.lean ====
section
/-!
DEFINITION. The statements about the ES1620, family by family: the block and its ports, what reads answer, capture, the Sample Link, the Block
Assembler, the Segment Index, the bank groups, draining, viewing, the Store Channel, flags and notices, and the forms every step keeps.
-/
open Sys2Proof Sys2Proof.Machine

/-! ## The block and its ports -/

/-- One step takes the command at the front of the queue and executes it with the queue's rest. That an empty queue lets the block idle is the
MODEL's choice (assumption log 1), no rule of the spec. -/
def Obligations.StepRunsTheFrontCommand : Prop :=
  (∀ (c : Instr) (rest : List Instr) (s : State), s.pending = c :: rest → step s = exec c { s with pending := rest })
    ∧ ∀ s : State, s.pending = [] → step s = .next s

/-- Every command, in every state, answers a next state and leaves the waiting commands as they are. The spec gives every command that is due an
effect or an answer in every state; that a command which is not due answers a next state too (assumption log 5), that an ill-formed UNSUPPORTED_KIND does
(log 19), and that a device reset keeps the queue (log 20) are the MODEL's choices. -/
def Obligations.EveryCommandAnswersANextState : Prop :=
  ∀ (c : Instr) (s : State), ∃ t, exec c s = .next t ∧ t.pending = s.pending

/-- Every response of every act carries the Top Notice of its port as it stands at the end of the act, and the Top Notice is the lowest-numbered
kind both pending and enabled (R193). -/
def Obligations.ResponsesCarryTheTopNotice : Prop :=
  (∀ (c : Instr) (s t : State), exec c s = .next t → ∀ r ∈ t.sent, r.top = (t.port r.port).notices.top)
    ∧ (∀ (u : NoticeUnit) (k : NoticeKind), u.top = some k ↔
        (u.pending &&& u.mask).getLsbD k.number = true
          ∧ ∀ j : NoticeKind, j.number < k.number → (u.pending &&& u.mask).getLsbD j.number = false)
    ∧ ∀ u : NoticeUnit, u.top = none ↔ ∀ k : NoticeKind, (u.pending &&& u.mask).getLsbD k.number = false

/-- The tests a message meets at its port, and the length test of the owning block: the first that fails is answered at once and nothing else
changes. An unsupported Kind is answered UNSUPPORTED, and a ResetPort with a body BAD_PARAM (R195). -/
def Obligations.PortTestsRefuse : Prop :=
  (∀ (i : Instr) (p : Port) (h : Header) (kind : BitVec 8) (body : List Byte) (s : State),
      i.inRow = true → i.header = some h → i.message = some (p, kind, body) → p.supportsCode kind = true →
      kind ≠ RequestKind.code .resetPort →
        (h.bodyLength.toNat ≠ h.received → exec i s = .next (s.respond p h.tag kind .badParam .none))
          ∧ (h.bodyLength.toNat = h.received → 16 ≤ (s.port p).slots.length →
              exec i s = .next (s.respond p h.tag kind .busy .none))
          ∧ (h.bodyLength.toNat = h.received → (s.port p).slots.length < 16 → (∃ x ∈ (s.port p).slots, x.tag = h.tag) →
              exec i s = .next (s.respond p h.tag kind .duplicateTag .none))
          ∧ (h.bodyLength.toNat = h.received → (s.port p).slots.length < 16 → (∀ x ∈ (s.port p).slots, x.tag ≠ h.tag) →
              h.received ≠ i.bodyBytes → exec i s = .next (s.respond p h.tag kind .badParam .none)))
    ∧ (∀ (p : Port) (kind : BitVec 8) (h : Header) (s : State), p.supportsCode kind = false →
        exec (.unsupportedKind p kind h) s
          = .next (s.respond p h.tag kind (if h.bodyLength.toNat = h.received then .unsupported else .badParam) .none))
    ∧ ∀ (p : Port) (h : Header) (s : State), h.bodyLength.toNat ≠ h.received ∨ h.received ≠ 0 →
        exec (.resetPort p h) s = .next (s.respond p h.tag (RequestKind.code .resetPort) .badParam .none)

/-- A ResetPort of the Archive Port is taken whatever the slots and tags in use: its slots, waits, parked takes, claims, contexts, queued Fetches and
notices go, its reads in flight stay with their requester discarded, and nothing else changes (R132, R163, R190, R194, R199). -/
def Obligations.ArchivePortReset : Prop :=
  ∀ (h : Header) (s : State), h.bodyLength.toNat = h.received → h.received = 0 →
    exec (.resetPort .archive h) s
      = .next
          (State.respond
            { s with
              archivePort := { s.archivePort with slots := [], notices := resetNotices }
              flags := s.flags.map fun f => { f with waits := f.waits.filter fun w => w.port ≠ .archive }
              drain := { contexts := Vector.replicate 4 none, parkedTakes := [] }
              ring := { s.ring with blocks := s.ring.blocks.map fun b => match b.state with
                | .claimed _ => { b with state := .sealed }
                | _ => b }
              store :=
                { s.store with
                  archiveQueue := []
                  inFlight := s.store.inFlight.map fun e => match e.requester with
                    | .request .archive _ => { e with requester := .discarded }
                    | _ => e } }
            .archive h.tag (RequestKind.code .resetPort) .ok .none)

/-- A ResetPort of the Viewer Port: its slots, waits, pins, queued Reads and notices go, its reads in flight stay with their requester discarded,
the band is re-evaluated once, and nothing else changes but what the band's event sets: the Archive Port keeps its Mask, link and slots but for those of the
waits the event completes, which are its only responses, and its Pending set gains the event's kind (R149, R163, R188, R190, R191, R194, R199). The order of these effects in the
one act, by which the band's event reaches no wait of the port and leaves nothing pending in its unit, is the MODEL's reading (assumption log 10). -/
def Obligations.ViewerPortReset : Prop :=
  ∀ (h : Header) (s : State), h.bodyLength.toNat = h.received → h.received = 0 → RingForm s → PinForm s →
    ∃ t, exec (.resetPort .viewer h) s = .next t
      ∧ t.viewerPort = { linkUp := true, slots := [], notices := resetNotices }
      ∧ t.sent.filter (fun r => r.port = .viewer)
          = [{ port := .viewer, tag := h.tag, kind := RequestKind.code .resetPort, status := .ok, top := none, result := .none,
               data := [] }]
      ∧ t.flags
          = (bandEvents s.ring.band t.ring.band).foldl (fun fs e => fs.map fun f => f.afterEvent e)
              (s.flags.map fun f => { f with waits := f.waits.filter fun w => w.port ≠ .viewer })
      ∧ ReachedByEvents .archive s t (bandEvents s.ring.band t.ring.band)
          ((bandEvents s.ring.band t.ring.band).flatMap
            (State.waitsServed { s with flags := s.flags.map fun f => { f with waits := f.waits.filter fun w => w.port ≠ .viewer } }))
      ∧ Rebanded s t
      ∧ t.unsignalled
          = State.unsignalled
              { s with
                pins := Vector.replicate 8 none
                ring :=
                  { s.ring with blocks := s.ring.blocks.map fun b => { b with pinCount := 0 }, band := t.ring.band }
                link := t.link
                store :=
                  { s.store with
                    viewerQueue := []
                    inFlight := s.store.inFlight.map fun e => match e.requester with
                      | .request .viewer _ => { e with requester := .discarded }
                      | _ => e } }

/-- Loss of a port's link is a port reset with the effects of ResetPort, but no response is sent and the link is down; a second loss before the link
has come up again is no event (R200). That the command says whether the link had come up, and has no effect where it had not, is the MODEL's choice
(assumption logs 5 and 7). -/
def Obligations.LinkLossIsAPortReset : Prop :=
  ∀ (p : Port) (cameUp : Bool) (s : State),
    ((s.port p).linkUp = true ∨ cameUp = true →
        ∀ (h : Header), h.bodyLength.toNat = h.received → h.received = 0 →
          ∃ t, exec (.resetPort p h) s = .next t
            ∧ exec (.portLinkDown p cameUp) s
                = .next { t.mapPort p (fun q => { q with linkUp := false }) with sent := t.sent.dropLast })
      ∧ ((s.port p).linkUp = false → cameUp = false → exec (.portLinkDown p cameUp) s = .next s.silent)

/-- Device reset, from any state, leaves every chapter's state as its table gives it, with the levels the outside presents (R29, R47, R73, R89, R101, R110,
R135, R150, R152, R156, R166, R181, R190, R194, R196, R200). That the queue of waiting commands stays and that no response leaves is the MODEL's choice
(assumption log 20). `State.reset` is that state with the levels of assumption log 2. -/
def Obligations.DeviceResetLeavesTheSpecValues : Prop :=
  (∀ (l : ResetLevels) (s : State), ∃ t, exec (.deviceReset l) s = .next t
    ∧ t.ring = { head := 0, tail := 0, blocks := [], band := .relaxed } ∧ t.capacity = 1024 ∧ t.archiveFront = 0
    ∧ t.holdFloor = 0 ∧ t.headroom = 1024 ∧ t.power.groupMap = [0]
    ∧ (∀ g : Fin 16, t.power.groups[g] = { state := .settled .off, next := .off })
    ∧ t.link.expected = none ∧ t.link.intake = [] ∧ t.link.pendingLoss = none ∧ t.link.pause = false
    ∧ t.link.captureEnable = false ∧ t.link.haltLine = l.haltAsserted ∧ t.link.locked = l.sampleLinkLocked
    ∧ t.link.counts = resetCounts
    ∧ t.assembler = { continuation := none, sliceCounter := none, idleFlush := none, nextSegment := 0, stage := none }
    ∧ t.openEntry = none ∧ t.fillingBlock = none ∧ t.index = []
    ∧ t.control =
        { capture := .unformed, stopReason := .none, stoppingReason := none, orderlyHalt := false, active := resetProfile,
          requested := resetProfile, staged := resetProfile, swapPending := false, headMark := none, archiveMark := none }
    ∧ (∀ c : Fin 4, t.drain.contexts[c] = none) ∧ t.drain.parkedTakes = [] ∧ (∀ i : Fin 8, t.pins[i] = none)
    ∧ t.store.admission = false ∧ t.store.archiveQueue = [] ∧ t.store.viewerQueue = [] ∧ t.store.turn = .archive
    ∧ t.store.inFlight = [] ∧ t.store.memory = []
    ∧ (∀ i : Fin 8, t.flags[i] = { value := false, source := .none, waits := [] })
    ∧ (∀ p : Port, (t.port p).slots = [] ∧ (t.port p).notices = { pending := 0, mask := 0, line := false })
    ∧ t.viewerPort.linkUp = l.viewerLinkUp ∧ t.archivePort.linkUp = l.archiveLinkUp ∧ t.sent = [] ∧ t.pending = s.pending)
  ∧ resetProfile =
      { sampleWidth := 2, channelCount := 1, tickStep := 1, archiveRequired := true, overrunPolicy := .drop, pressed := 256,
        critical := 64, hysteresis := 16, pauseOnCritical := false, sliceMode := .off, sliceLength := 1048576,
        idleFlushTime := 10, haltMode := .orderly }
  ∧ exec (.deviceReset quietLevels) State.reset = .next State.reset

/-- Decoding the bytes of a well-formed request gives the request back, every field at every value its width admits (R198, R203). -/
def Obligations.MessagesDecodeToTheirRequests : Prop :=
  ∀ (i : Instr) (p : Port) (bytes : List Byte), i.wellFormed = true → encodeMessage i = some (p, bytes) →
    decodeMessage p bytes = some i

/-- A frame's bytes give back its fields, whatever the ignored bits hold, and the same bytes with another Link Check fail the check. The Claim record of 21 bytes,
the status record of 136 bytes, and an index entry of 108 bytes and 18 for each gap have every field where the tables put it (R30, R31, R204 to R207). -/
def Obligations.FramesAndRecordsHaveTheirLayout : Prop :=
  (∀ (sequence : BitVec 16) (flags units kind ignored : Byte) (offset : BitVec 16) (stamp : BitVec 64) (payload : List Byte),
     1 ≤ units.toNat → units.toNat ≤ 128 → payload.length = 64 * units.toNat →
     ∀ covered : List Byte,
       covered = leBytes 2 sequence.toNat ++ [flags, units] ++ leBytes 2 offset.toNat ++ [kind, ignored]
         ++ (if flags.getLsbD 3 then leBytes 8 stamp.toNat else []) ++ payload →
       parseFrame (covered ++ leBytes 4 (linkCheck covered).toNat)
           = some
               { sequence := sequence, startFlag := flags.getLsbD 0, triggerFlag := flags.getLsbD 1,
                 endFlag := flags.getLsbD 2, triggerOffset := offset.setWidth 13, triggerKind := kind.setWidth 4,
                 stamp := if flags.getLsbD 3 then some stamp else none, payload := payload }
         ∧ ∀ check : BitVec 32, check ≠ linkCheck covered → parseFrame (covered ++ leBytes 4 check.toNat) = none)
    ∧ ((∀ c : ClaimRecord, c.bytes.length = 21 ∧ fieldAt c.bytes 0 8 = c.lbn % 2 ^ 64 ∧ fieldAt c.bytes 8 8 = c.segment % 2 ^ 64
           ∧ fieldAt c.bytes 16 4 = c.fillBytes % 2 ^ 32
           ∧ byteAt c.bytes 20
               = BitVec.ofNat 8 (c.firstOfSegment.toNat + 2 * c.lastOfSegment.toNat + 4 * c.damaged.toNat))
         ∧ (∀ (s : State) (p : Port) (r : StatusRecord) (bytes : List Byte), r = s.statusRecord p → bytes = r.bytes →
             bytes.length = 136
               ∧ (byteAt bytes 0).toNat = r.capture.code ∧ (byteAt bytes 1).toNat = r.stopReason.code
               ∧ (byteAt bytes 2).toNat = r.band.code ∧ byteAt bytes 3 = BitVec.ofNat 8 r.span
               ∧ fieldAt bytes 4 2
                   = r.pause.toNat + 2 * r.captureEnable.toNat + 4 * r.orderlyHalt.toNat + 8 * r.swapPending.toNat
                     + 16 * r.headMark.isSome.toNat
                     + 32 * (decide (∃ m ∈ r.headMark, m.action = .stop)).toNat + 64 * r.archiveMark.isSome.toNat
                     + 128 * r.openSegment.isSome.toNat + 256 * r.openFill.isSome.toNat
               ∧ byteAt bytes 6 = BitVec.ofNat 8 r.occupancy
               ∧ (byteAt bytes 7).toNat = (r.top.map NoticeKind.number).getD 255
               ∧ fieldAt bytes 8 8 = r.head % 2 ^ 64 ∧ fieldAt bytes 16 8 = r.tail % 2 ^ 64
               ∧ fieldAt bytes 24 8 = r.archiveFront % 2 ^ 64 ∧ fieldAt bytes 32 8 = r.holdFloor % 2 ^ 64
               ∧ fieldAt bytes 40 2 = r.headroom % 2 ^ 16 ∧ fieldAt bytes 42 2 = r.capacity % 2 ^ 16
               ∧ fieldAt bytes 44 4 = r.openFill.getD 0 % 2 ^ 32 ∧ fieldAt bytes 48 8 = r.openSegment.getD 0 % 2 ^ 64
               ∧ fieldAt bytes 56 8 = (r.headMark.map HeadMark.lbn).getD 0 % 2 ^ 64
               ∧ fieldAt bytes 64 8 = r.archiveMark.getD 0 % 2 ^ 64
               ∧ ∀ g : Fin 16,
                   (byteAt bytes (72 + 4 * g.val)).toNat = s.power.groups[g].state.code
                     ∧ (byteAt bytes (73 + 4 * g.val)).toNat = s.power.groups[g].next.code
                     ∧ (byteAt bytes (74 + 4 * g.val)).toNat
                         = (match s.power.groups[g].state with
                            | .settled _ => 255
                            | .changing _ target _ => target.code)
                     ∧ byteAt bytes (75 + 4 * g.val) = BitVec.ofNat 8 ((s.ringSlot g).getD 255))
         ∧ ∀ (e : Entry) (bytes : List Byte), bytes = e.bytes →
             bytes.length = 108 + 18 * e.gaps.length ∧ fieldAt bytes 0 8 = e.number % 2 ^ 64
               ∧ (byteAt bytes 8).toNat = e.closeReason.isSome.toNat ∧ (byteAt bytes 9).toNat = closeReasonCode e.closeReason
               ∧ byteAt bytes 10 = BitVec.ofNat 8 e.bpp ∧ byteAt bytes 11 = BitVec.ofNat 8 e.gaps.length
               ∧ fieldAt bytes 12 2
                   = e.startLost.toNat + 2 * e.noStamp.toNat + 4 * e.stampConflict.toNat + 8 * e.frontEvicted.toNat
                     + 16 * e.archivedWithLoss.toNat + 32 * e.damaged.toNat + 64 * e.archiveRequired.toNat
                     + 128 * e.gapOverflow.toNat + 256 * e.trigger.isSome.toNat
               ∧ (byteAt bytes 14).toNat = (e.trigger.map fun x => x.kind.toNat).getD 0 ∧ byteAt bytes 15 = 0
               ∧ fieldAt bytes 16 4 = e.tickStep % 2 ^ 32 ∧ fieldAt bytes 20 4 = e.triggerCount % 2 ^ 32
               ∧ fieldAt bytes 24 4 = e.triggerIgnored % 2 ^ 32 ∧ fieldAt bytes 28 8 = e.firstLbn % 2 ^ 64
               ∧ fieldAt bytes 36 8 = e.blockCount % 2 ^ 64 ∧ fieldAt bytes 44 8 = e.presentFrom % 2 ^ 64
               ∧ fieldAt bytes 52 8 = e.byteLength % 2 ^ 64 ∧ fieldAt bytes 60 8 = e.byteLength / e.bpp % 2 ^ 64
               ∧ fieldAt bytes 68 8 = e.firstTick.toNat ∧ fieldAt bytes 76 8 = e.totalLost.toNat
               ∧ fieldAt bytes 84 8 = e.evictedUnarchived.toNat
               ∧ fieldAt bytes 92 8 = (e.trigger.map Trigger.position).getD 0 % 2 ^ 64
               ∧ fieldAt bytes 100 8 = (e.trigger.map fun x => x.tick.toNat).getD 0
               ∧ ∀ (i : Nat) (g : Gap), e.gaps[i]? = some g →
                   fieldAt bytes (108 + 18 * i) 8 = g.position % 2 ^ 64
                     ∧ fieldAt bytes (116 + 18 * i) 8 = g.pointsLost.toNat
                     ∧ (byteAt bytes (124 + 18 * i)).toNat = g.cause.code
                     ∧ (byteAt bytes (125 + 18 * i)).toNat = g.mixed.toNat)

/-! ## What reads answer -/

/-- ReadIndex answers by the first row that matches, with the live entries from the starting one; ReadStatus with the status record of the moment, which satisfies the
laws of the ring and of the band that it can show; ReadCounts with the counters and the occupancy; ReadProfile with the effective values and the requested value of each clamped
field, ADJUSTED when there is one, or with the Staged copy and Swap Pending. None of them changes anything (R88, R106, R201, R202). -/
def Obligations.ReadsAnswerAndChangeNothing : Prop :=
  (∀ (p : Port) (h : Header) (first : BitVec 64) (count : BitVec 8) (s : State), Taken s p h 9 →
     (count.toNat = 0 ∨ 16 < count.toNat →
         exec (.readIndex p h first count) s = .next (s.refused p h .readIndex .badParam))
       ∧ (1 ≤ count.toNat → count.toNat ≤ 16 →
           ∃ (status : Status) (entries : List Entry),
             exec (.readIndex p h first count) s
                 = .next (s.answered p h .readIndex status
                     (.index s.index.length (s.index.head?.map Entry.number) s.assembler.nextSegment entries))
               ∧ (s.index = [] → status = .empty ∧ entries = [])
               ∧ ∀ oldest newest : Entry, s.index.head? = some oldest → s.index.getLast? = some newest →
                   (newest.number < first.toNat → status = .empty ∧ entries = [])
                     ∧ (first.toNat ≤ newest.number → first.toNat < oldest.number →
                         status = .adjusted ∧ entries = s.index.take count.toNat)
                     ∧ (first.toNat ≤ newest.number → oldest.number ≤ first.toNat →
                         status = .ok ∧ entries = (s.index.filter fun e => first.toNat ≤ e.number).take count.toNat)))
    ∧ ((∀ (p : Port) (h : Header) (s : State), Taken s p h 0 →
           exec (.readStatus p h) s = .next (s.answered p h .readStatus .ok (.status (s.statusRecord p)))
             ∧ exec (.readCounts p h) s = .next (s.answered p h .readCounts .ok (.counts s.link.counts s.occupancy)))
         ∧ ∀ (p : Port) (s : State), RingForm s → PinForm s → ∀ r : StatusRecord, r = s.statusRecord p →
             r.tail ≤ r.archiveFront ∧ r.archiveFront ≤ r.head ∧ r.head - r.tail ≤ r.capacity ∧ r.tail ≤ r.holdFloor
               ∧ r.holdFloor ≤ r.head ∧ r.headroom + (r.head - r.holdFloor) = r.capacity
               ∧ (BandForm s → ∀ k p h : Nat, k = s.control.active.critical → p = s.control.active.pressed →
                   h = s.control.active.hysteresis →
                   (r.headroom ≤ k → r.band = .critical) ∧ (r.headroom ≤ p → r.band ≠ .relaxed)
                     ∧ (r.band = .pressed → k < r.headroom ∧ r.headroom ≤ p + h)
                     ∧ (r.band = .critical → r.headroom ≤ k + h)))
    ∧ (∀ (h : Header) (which : BitVec 8) (s : State), Taken s .viewer h 1 →
         (which = 0 →
             ∃ clamped : List ClampedField,
               exec (.readProfile h which) s
                   = .next (s.answered .viewer h .readProfile (if clamped = [] then .ok else .adjusted)
                       (.activeProfile s.control.active clamped))
                 ∧ ∀ c : ClampedField, c ∈ clamped ↔
                     (c = .pressed s.control.requested.pressed ∧ s.control.active.pressed ≠ s.control.requested.pressed)
                       ∨ (c = .critical s.control.requested.critical
                           ∧ s.control.active.critical ≠ s.control.requested.critical)
                       ∨ (c = .sliceLength s.control.requested.sliceLength
                           ∧ s.control.active.sliceLength ≠ s.control.requested.sliceLength))
           ∧ (which = 1 →
               exec (.readProfile h which) s
                 = .next (s.answered .viewer h .readProfile .ok (.stagedProfile s.control.staged s.control.swapPending)))
           ∧ (which ≠ 0 → which ≠ 1 → exec (.readProfile h which) s = .next (s.refused .viewer h .readProfile .badParam)))

/-! ## Capture -/

/-- Start: WRONG_STATE in Unformed, Running and Stopping, ASLEEP when a mapped group is not Active, otherwise OK with capture Running, stop reason
None, Capture Enable asserted and the sequence state Unsynced, and nothing else changed (R91). -/
def Obligations.StartAnswers : Prop :=
  ∀ (h : Header) (s : State), Taken s .viewer h 0 →
    (s.control.capture = .unformed ∨ s.capturing → exec (.start h) s = .next (s.refused .viewer h .start .wrongState))
      ∧ (s.control.capture = .idle ∨ s.control.capture = .stopped →
          (∃ g ∈ s.power.groupMap, s.power.groups[g].state ≠ .settled .active) →
          exec (.start h) s = .next (s.refused .viewer h .start .asleep))
      ∧ (s.control.capture = .idle ∨ s.control.capture = .stopped →
          (∀ g ∈ s.power.groupMap, s.power.groups[g].state = .settled .active) →
          exec (.start h) s
            = .next
                (State.answered
                  { s with
                    control := { s.control with capture := .running, stopReason := .none }
                    link := { s.link with captureEnable := true, expected := none } }
                  .viewer h .start .ok (.capture .running)))

/-- A Stop whose Mode is neither value is BAD_PARAM, and in Unformed, Idle and Stopped WRONG_STATE. Stop(AtSegmentEnd) in Running goes to Stopping with a segment open
and to Stopped with none, and in Stopping changes nothing. Stop(Now) discards intake, closes the open segment with reason Stop and enters Stopped with stop reason
Stop, in one act (R92, R93). Mode 0 is AtSegmentEnd and 1 is Now (R203). That either of the two rows of a Stop acts by the Mode byte it carries is the MODEL's
reading (assumption log 18). -/
def Obligations.StopEndsCapture : Prop :=
  (∀ (h : Header) (mode : BitVec 8) (s : State), Taken s .viewer h 1 →
     (mode ≠ 0 → mode ≠ 1 →
         exec (.stopAtSegmentEnd h mode) s = .next (s.refused .viewer h .stop .badParam)
           ∧ exec (.stopNow h mode) s = .next (s.refused .viewer h .stop .badParam))
       ∧ (mode = 0 ∨ mode = 1 → ¬ s.capturing →
           exec (.stopAtSegmentEnd h mode) s = .next (s.refused .viewer h .stop .wrongState)
             ∧ exec (.stopNow h mode) s = .next (s.refused .viewer h .stop .wrongState))
       ∧ (mode = 0 → s.control.capture = .running → s.openEntry.isSome = true →
           exec (.stopAtSegmentEnd h mode) s
             = .next
                 (State.answered
                   { s with control := { s.control with capture := .stopping, stoppingReason := some .stop } }
                   .viewer h .stop .ok (.capture .stopping)))
       ∧ (mode = 0 → s.control.capture = .stopping →
           exec (.stopAtSegmentEnd h mode) s = .next (s.answered .viewer h .stop .ok (.capture .stopping)))
       ∧ (mode = 0 → s.control.capture = .running → s.openEntry = none →
           ∃ t, exec (.stopAtSegmentEnd h mode) s = .next t
             ∧ StoppedAtOnce s t .stop .stop ∧ t.answers .viewer h .stop .ok (.capture .stopped)
             ∧ Signalled (s.reached .viewer) t (s.stopEvents t) []))
    ∧ (∀ (h : Header) (s : State), Taken s .viewer h 1 → s.capturing → RingForm s →
         ∃ t, exec (.stopNow h 1) s = .next t
           ∧ StoppedAtOnce s t .stop .stop ∧ t.answers .viewer h .stop .ok (.capture .stopped)
           ∧ Signalled (s.reached .viewer) t (s.stopEvents t) [])

/-- The fields of a StageProfile lie in their structural ranges, or the request is refused BAD_PARAM and changes nothing (R101, R102). -/
def Obligations.StageProfileValidates : Prop :=
  (∀ p : ProfileFields, validateProfile p = none ↔
      ¬ ((p.sampleWidth.toNat = 1 ∨ p.sampleWidth.toNat = 2)
          ∧ (p.channelCount.toNat = 1 ∨ p.channelCount.toNat = 2 ∨ p.channelCount.toNat = 4 ∨ p.channelCount.toNat = 8)
          ∧ 1 ≤ p.tickStep.toNat ∧ p.tickStep.toNat ≤ 65536
          ∧ p.overrunPolicy.toNat ≤ 2 ∧ p.sliceMode.toNat ≤ 1 ∧ p.haltMode.toNat ≤ 1
          ∧ p.archiveRequired.toNat ≤ 1 ∧ p.pauseOnCritical.toNat ≤ 1
          ∧ 1 ≤ p.pressedThreshold.toNat ∧ p.pressedThreshold.toNat ≤ 16384
          ∧ p.criticalThreshold.toNat < p.pressedThreshold.toNat
          ∧ 1 ≤ p.sliceLength.toNat ∧ p.sliceLength.toNat ≤ 2 ^ 40 - 1
          ∧ p.idleFlushTime.toNat ≤ 10000))
    ∧ ∀ (h : Header) (p : ProfileFields) (s : State), Taken s .viewer h 32 → validateProfile p = none →
        exec (.stageProfile h p) s = .next (s.refused .viewer h .stageProfile .badParam)

/-- A StageProfile that passes validation replaces the Staged copy; in Running and Stopping the swap is left pending, and in the other states the copy
becomes active at once, P clamped to C, K to C − 1 where P was clamped, L raised to one full frame's points, the band evaluated without hysteresis.
The profile carries the thirteen fields as given, and an ADJUSTED answer names the clamped fields with their effective values (R101, R103, R104). -/
def Obligations.StageProfileIsTaken : Prop :=
  ∀ (h : Header) (p : ProfileFields) (q : Profile) (s : State), Taken s .viewer h 32 → validateProfile p = some q →
    (q.sampleWidth = p.sampleWidth.toNat ∧ q.channelCount = p.channelCount.toNat ∧ q.tickStep = p.tickStep.toNat
        ∧ q.archiveRequired.toNat = p.archiveRequired.toNat ∧ q.overrunPolicy.code = p.overrunPolicy.toNat
        ∧ q.pressed = p.pressedThreshold.toNat ∧ q.critical = p.criticalThreshold.toNat ∧ q.hysteresis = p.hysteresis.toNat
        ∧ q.pauseOnCritical.toNat = p.pauseOnCritical.toNat ∧ q.sliceMode.code = p.sliceMode.toNat
        ∧ q.sliceLength = p.sliceLength.toNat ∧ q.idleFlushTime = p.idleFlushTime.toNat ∧ q.haltMode.code = p.haltMode.toNat)
      ∧ (s.capturing →
        exec (.stageProfile h p) s
          = .next
              (State.answered { s with control := { s.control with staged := q, swapPending := true } } .viewer h .stageProfile
                .ok (.staged false [])))
      ∧ (¬ s.capturing →
          ∃ (t : State) (clamped : List ClampedField), exec (.stageProfile h p) s = .next t
            ∧ t.answers .viewer h .stageProfile (if clamped = [] then .ok else .adjusted) (.staged true clamped)
            ∧ (clamped = [] ↔ t.control.active = t.control.requested)
            ∧ (∀ x : ClampedField, x ∈ clamped ↔
                (x = .pressed t.control.active.pressed ∧ t.control.active.pressed ≠ q.pressed)
                  ∨ (x = .critical t.control.active.critical ∧ t.control.active.critical ≠ q.critical)
                  ∨ (x = .sliceLength t.control.active.sliceLength ∧ t.control.active.sliceLength ≠ q.sliceLength))
            ∧ t.control =
                { s.control with
                  staged := q
                  requested := q
                  swapPending := false
                  active := q.clampedTo s.capacity }
            ∧ BandedAfresh s t
            ∧ Signalled (s.reached .viewer) t (bandEvents s.ring.band t.ring.band) []
            ∧ t.unsignalled
                = State.unsignalled
                    { s with control := t.control, ring := { s.ring with band := t.ring.band }, link := t.link })

/-- SetHeadMark above Head arms the mark; at or below Head it fires in the same act, and Action Stop then acts by the capture state; SetArchiveMark does the
same against ArchiveFront; a value outside its range is BAD_PARAM; ClearHeadMark and ClearArchiveMark disarm (R107, R108, R109). -/
def Obligations.MarkRequests : Prop :=
  ((∀ (h : Header) (lbn : BitVec 64) (action : BitVec 8) (s : State), Taken s .viewer h 9 →
       (2 ^ 40 - 1 < lbn.toNat ∨ 1 < action.toNat →
           exec (.setHeadMark h lbn action) s = .next (s.refused .viewer h .setHeadMark .badParam))
         ∧ (lbn.toNat ≤ 2 ^ 40 - 1 → action.toNat ≤ 1 → s.ring.head < lbn.toNat →
             exec (.setHeadMark h lbn action) s
               = .next
                   (State.answered
                     { s with
                       control :=
                         { s.control with
                           headMark := some { lbn := lbn.toNat, action := if action = 1 then .stop else .notify } } }
                     .viewer h .setHeadMark .ok (.fired false)))
         ∧ (lbn.toNat ≤ 2 ^ 40 - 1 → action.toNat ≤ 1 → lbn.toNat ≤ s.ring.head →
             ∃ t, exec (.setHeadMark h lbn action) s = .next t
               ∧ t.answers .viewer h .setHeadMark .ok (.fired true) ∧ t.control.headMark = none
               ∧ (action = 0 ∨ s.control.capture ≠ .running →
                   Signalled (s.reached .viewer) t [.headMark] []
                     ∧ t.unsignalled = State.unsignalled { s with control := { s.control with headMark := none } })
               ∧ (action = 1 → s.control.capture = .running → s.openEntry.isSome = true →
                   Signalled (s.reached .viewer) t [.headMark] []
                     ∧ t.unsignalled
                         = State.unsignalled
                             { s with
                               control :=
                                 { s.control with
                                   headMark := none
                                   capture := .stopping
                                   stoppingReason := some .headMark } })
               ∧ (action = 1 → s.control.capture = .running → s.openEntry = none →
                   Signalled (s.reached .viewer) t (Event.headMark :: s.stopEvents t) []
                     ∧ StoppedAtOnce { s with control := { s.control with headMark := none } } t .stop .headMark)))
     ∧ ∀ (h : Header) (s : State), Taken s .viewer h 0 →
         exec (.clearHeadMark h) s
           = .next
               (State.answered { s with control := { s.control with headMark := none } } .viewer h .clearHeadMark .ok
                 (.wasArmed s.control.headMark.isSome)))
    ∧ ((∀ (h : Header) (lbn : BitVec 64) (s : State), Taken s .archive h 8 →
           (2 ^ 40 - 1 < lbn.toNat →
               exec (.setArchiveMark h lbn) s = .next (s.refused .archive h .setArchiveMark .badParam))
             ∧ (lbn.toNat ≤ 2 ^ 40 - 1 → s.archiveFront < lbn.toNat →
                 exec (.setArchiveMark h lbn) s
                   = .next
                       (State.answered { s with control := { s.control with archiveMark := some lbn.toNat } } .archive h
                         .setArchiveMark .ok (.fired false)))
             ∧ (lbn.toNat ≤ 2 ^ 40 - 1 → lbn.toNat ≤ s.archiveFront →
                 ∃ t, exec (.setArchiveMark h lbn) s = .next t
                   ∧ t.answers .archive h .setArchiveMark .ok (.fired true)
                   ∧ Signalled (s.reached .archive) t [.archiveMark] []
                   ∧ t.unsignalled = State.unsignalled { s with control := { s.control with archiveMark := none } }))
         ∧ ∀ (h : Header) (s : State), Taken s .archive h 0 →
             exec (.clearArchiveMark h) s
               = .next
                   (State.answered { s with control := { s.control with archiveMark := none } } .archive h .clearArchiveMark .ok
                     (.wasArmed s.control.archiveMark.isSome)))

/-! ## The Sample Link -/

/-- A frame that fails its check, or is stale, is counted in Frames Received and Frames Bad and raises LinkFault; the sequence state, intake and the
rest of the part are as they were (R31, R33). That bytes too few for a frame's fields fail the check like any others is the MODEL's reading (assumption
log 21), and that an arrival shows the link in lock too (log 7). -/
def Obligations.BadAndStaleFramesAreDiscarded : Prop :=
  ∀ (bytes : List Byte) (s : State),
    parseFrame bytes = none ∨ (∃ f, parseFrame bytes = some f ∧ s.gapBefore f = none) →
    ∃ t, exec (.frameArrival bytes) s = .next t ∧ t.sent = [] ∧ Signalled s t [] [.linkFault]
      ∧ t.unsignalled
          = State.unsignalled
              { s with
                link :=
                  { s.link with
                    locked := true
                    counts :=
                      { s.link.counts with
                        framesReceived := s.link.counts.framesReceived + 1
                        framesBad := s.link.counts.framesBad + 1 } } }

/-- A good frame advances the sequence state, counting the frames missing before it; it is then discarded where capture is not taking frames, joins the
tail of intake with its loss record where there is a place, raising Pause at an occupancy of 48, and is dropped into the pending loss record where there is
none (R32 to R37, R40). That an arrival shows the link in lock is the MODEL's reading (assumption log 7). -/
def Obligations.GoodFramesAreOfferedToIntake : Prop :=
  ∀ (bytes : List Byte) (f : Frame) (d : Nat) (s : State), parseFrame bytes = some f → s.gapBefore f = some d →
    ∃ t, exec (.frameArrival bytes) s = .next t ∧ t.sent = []
      ∧ Signalled s t [] (if d = 0 then [] else [.linkFault])
      ∧ (¬ s.capturing ∨ s.control.orderlyHalt = true →
          t.unsignalled
            = State.unsignalled
                { s with
                  link :=
                    { s.afterSequence f d with
                      counts :=
                        { (s.afterSequence f d).counts with framesDiscarded := s.link.counts.framesDiscarded + 1 } } })
      ∧ (s.capturing → s.control.orderlyHalt = false → s.occupancy < 64 →
          t.unsignalled
            = State.unsignalled
                { s with
                  link :=
                    { s.afterSequence f d with
                      intake := s.link.intake ++ [.frame f (addGapLoss s.link.pendingLoss d)]
                      pendingLoss := none
                      pause := s.link.pause || decide (s.occupancy + 1 = 48) }
                  store :=
                    { s.store with
                      admission :=
                        frameInFront (s.link.intake ++ [.frame f (addGapLoss s.link.pendingLoss d)])
                          && (s.assembler.stage.isNone || s.store.admission) } })
      ∧ (s.capturing → s.control.orderlyHalt = false → 64 ≤ s.occupancy →
          t.unsignalled
            = State.unsignalled
                { s with
                  link :=
                    { s.afterSequence f d with
                      pendingLoss := some (addLoss (addGapLoss s.link.pendingLoss d) .intake 0 f.payload.length)
                      counts :=
                        { (s.afterSequence f d).counts with
                          framesDroppedIntake := s.link.counts.framesDroppedIntake + 1 } } })

/-- The first loss creates a loss record with its cause, and each later one adds to the totals and to Parts and leaves the First Cause. Its Points Lost against an
open segment are the exact part where no frame is missing, the stamp's count where it allows at least that part, else the estimate, with StampConflict where a
stamp was not accepted. A gap joins the Gap List by the first row that matches: merged into the newest record at its Position, appended while there are fewer
than four, or folded into the fourth; its Points Lost join Total Points Lost; and nothing else of the entry changes. A loss record acted on with a segment open
becomes one gap of it, lowers the slice counter by its Points Lost and may set StampConflict; with none open nothing is recorded (R36, R65 to R67, R69, R70,
R78). That a loss of 2^64 points or more is recorded modulo 2^64 is the MODEL's reading (assumption log 15). -/
def Obligations.LossesBecomeGaps : Prop :=
  ((∀ (c : LossCause) (frames bytes : Nat),
       addLoss none c frames bytes = { firstCause := c, missingFrames := frames, droppedBytes := bytes, parts := 1 })
     ∧ (∀ (r : LossRecord) (c : LossCause) (frames bytes : Nat), r.missingFrames + frames < 2 ^ 64 →
         r.droppedBytes + bytes < 2 ^ 64 → r.parts + 1 < 2 ^ 64 →
         addLoss (some r) c frames bytes
           = { firstCause := r.firstCause, missingFrames := r.missingFrames + frames, droppedBytes := r.droppedBytes + bytes,
               parts := r.parts + 1 })
     ∧ ∀ (r : Option LossRecord) (d : Nat), addGapLoss r d = if d = 0 then r else some (addLoss r .sequence d 0))
    ∧ (∀ (e : Entry) (r : LossRecord) (stamp : Option Tick) (exact estimate : Nat), exact = r.droppedBytes / e.bpp →
         estimate = r.missingFrames * (8192 / e.bpp) + exact →
         (r.missingFrames = 0 → e.lossOf r stamp = (exact, false))
           ∧ (0 < r.missingFrames → stamp = none → e.lossOf r stamp = (estimate, false))
           ∧ ∀ tick : Tick, 0 < r.missingFrames → stamp = some tick →
               (e.nextTick ≤ tick → exact ≤ (tick.toNat - e.nextTick.toNat) / e.tickStep →
                   e.lossOf r stamp = ((tick.toNat - e.nextTick.toNat) / e.tickStep, false))
                 ∧ (e.nextTick ≤ tick → (tick.toNat - e.nextTick.toNat) / e.tickStep < exact →
                     e.lossOf r stamp = (estimate, true))
                 ∧ (tick < e.nextTick → e.lossOf r stamp = (estimate, true)))
    ∧ (∀ (e : Entry) (lost : BitVec 64) (cause : GapCause) (mixed : Bool),
         (e.addGap lost cause mixed).totalLost = e.totalLost + lost
           ∧ e.addGap lost cause mixed
               = { e with
                   totalLost := e.totalLost + lost
                   gaps := (e.addGap lost cause mixed).gaps
                   gapOverflow := (e.addGap lost cause mixed).gapOverflow }
           ∧ (e.gaps = [] →
               (e.addGap lost cause mixed).gaps
                   = [{ position := e.byteLength / e.bpp, pointsLost := lost, cause := cause, mixed := mixed }]
                 ∧ (e.addGap lost cause mixed).gapOverflow = e.gapOverflow)
           ∧ ∀ (older : List Gap) (g : Gap), e.gaps = older ++ [g] →
               (g.position = e.byteLength / e.bpp →
                   (e.addGap lost cause mixed).gaps
                       = older ++ [{ g with pointsLost := g.pointsLost + lost, mixed := true }]
                     ∧ (e.addGap lost cause mixed).gapOverflow = e.gapOverflow)
                 ∧ (g.position ≠ e.byteLength / e.bpp → older.length < 3 →
                     (e.addGap lost cause mixed).gaps
                         = older
                             ++ [g, { position := e.byteLength / e.bpp, pointsLost := lost, cause := cause, mixed := mixed }]
                       ∧ (e.addGap lost cause mixed).gapOverflow = e.gapOverflow)
                 ∧ (g.position ≠ e.byteLength / e.bpp → 3 ≤ older.length →
                     (e.addGap lost cause mixed).gaps = older ++ [{ g with pointsLost := g.pointsLost + lost }]
                       ∧ (e.addGap lost cause mixed).gapOverflow = true))
    ∧ ∀ (s : State) (r : LossRecord) (stamp : Option Tick),
        s.recordLoss none stamp = s ∧ (s.openEntry = none → s.recordLoss (some r) stamp = s)
          ∧ ∀ (e : Entry) (lost : Nat) (conflict : Bool) (cause : GapCause), s.openEntry = some e →
              (lost, conflict) = e.lossOf r stamp →
              (r.firstCause = .sequence ∧ cause = .sequence) ∨ (r.firstCause = .intake ∧ cause = .intake) →
              s.recordLoss (some r) stamp
                = { s with
                    index :=
                      s.index.map fun x =>
                        if x.isOpen then
                          Entry.addGap { x with stampConflict := x.stampConflict || conflict } (BitVec.ofNat 64 lost) cause
                            (decide (1 < r.parts))
                        else x
                    assembler :=
                      { s.assembler with
                        sliceCounter := s.assembler.sliceCounter.map fun c => c - ((lost : Nat) : Int) } }

/-- A link resync, at the front end's marker or at a loss of lock the link had: Link Resyncs increases, LinkFault is raised, the sequence state becomes
Unsynced, and while capture is taking frames a resync marker joins the tail of intake with the pending loss record, or only discards that record behind
another resync marker (R43, R44). That a marker shows the link in lock (assumption log 7), and that a loss command with no lock to lose has no effect
(logs 5 and 7), are the MODEL's choices. -/
def Obligations.LinkResyncIsTaken : Prop :=
  (∀ (s : State) (c : Instr) (lock : Bool),
    (c = .resyncMarker ∧ lock = true)
        ∨ (∃ relocked, c = .linkLockLoss relocked ∧ (s.link.locked = true ∨ relocked = true) ∧ lock = false) →
    (∃ t, exec c s = .next t ∧ t.sent = [] ∧ Signalled s t [] [.linkFault]
      ∧ t.unsignalled = State.unsignalled { s with link := t.link }
      ∧ (s.capturing → s.control.orderlyHalt = false → (∃ l, s.link.intake.getLast? = some (.resyncMarker l)) →
          t.link =
            { s.link with
              locked := lock, expected := none, pendingLoss := none
              counts := { s.link.counts with linkResyncs := s.link.counts.linkResyncs + 1 } })
      ∧ (s.capturing → s.control.orderlyHalt = false → (∀ l, s.link.intake.getLast? ≠ some (.resyncMarker l)) →
          t.link =
            { s.link with
              locked := lock, expected := none, pendingLoss := none
              intake := s.link.intake ++ [.resyncMarker s.link.pendingLoss]
              counts := { s.link.counts with linkResyncs := s.link.counts.linkResyncs + 1 } })
      ∧ (¬ s.capturing ∨ s.control.orderlyHalt = true →
          t.link =
            { s.link with
              locked := lock, expected := none
              counts := { s.link.counts with linkResyncs := s.link.counts.linkResyncs + 1 } })))
    ∧ ∀ s : State, s.link.locked = false → exec (.linkLockLoss false) s = .next s.silent

/-- The Halt line: a release only lowers it; an assertion of a line held asserted gives no event; outside Running and Stopping, and in Orderly mode with an
Orderly halt in progress, an assertion has no further effect; in Orderly mode it starts one, with a halt marker at the tail of intake that carries the
pending loss record; in Immediate mode it stops capture at once with reason Halt (R42, R97, R98, R99). -/
def Obligations.HaltLineActs : Prop :=
  (∀ s : State, exec .haltRelease s = .next { s with link := { s.link with haltLine := false } }.silent)
    ∧ (∀ s : State, s.link.haltLine = true → exec .haltAssertion s = .next s.silent)
    ∧ ∀ s : State, s.link.haltLine = false →
        (¬ s.capturing → exec .haltAssertion s = .next { s with link := { s.link with haltLine := true } }.silent)
          ∧ (s.capturing → s.control.active.haltMode = .orderly → s.control.orderlyHalt = true →
              exec .haltAssertion s = .next { s with link := { s.link with haltLine := true } }.silent)
          ∧ (s.capturing → s.control.active.haltMode = .orderly → s.control.orderlyHalt = false →
              exec .haltAssertion s
                = .next
                    (State.silent
                      { s with
                        link :=
                          { s.link with
                            haltLine := true
                            intake := s.link.intake ++ [.haltMarker s.link.pendingLoss]
                            pendingLoss := none }
                        control := { s.control with orderlyHalt := true } }))
          ∧ (s.capturing → s.control.active.haltMode = .immediate → RingForm s →
              ∃ t, exec .haltAssertion s = .next t
                ∧ StoppedAtOnce { s with link := { s.link with haltLine := true } } t .halt .halt
                ∧ Signalled s t (s.stopEvents t) [])

/-! ## The Block Assembler -/

/-- An admission grant whose frame fits in the Filling block of the open segment: the payload is appended at offset Fill Bytes with one admission write,
the frame leaves intake, the segment grows, the trigger, the slice counter and the idle-flush timer are acted on, and nothing else changes. Where the frame carries
a loss record it is acted on first; where it carries the End flag, brings the slice counter to 0, or fills the block, the segment closes, or the block is sealed,
in the same act (R9, R48 to R51, R58 to R60, R66, R71). That the store's contents do not change before the write's completion is the MODEL's choice (assumption
log 14). -/
def Obligations.GrantAppendsToTheFillingBlock : Prop :=
  (∀ (s : State) (f : Frame) (rest : List IntakeItem) (e : Entry) (b : Block),
    s.store.admission = true → s.store.inFlight.length < 3 → s.assembler.stage = none →
    s.link.intake = .frame f none :: rest → s.openEntry = some e → s.fillingBlock = some b →
    f.startFlag = false → f.endFlag = false → b.fillBytes + f.payload.length < blockBytes →
    (∀ c ∈ s.assembler.sliceCounter, ((f.payload.length / e.bpp : Nat) : Int) < c) → RingForm s →
    exec .admissionGrant s
      = .next
          (State.silent
            { s with
              ring :=
                { s.ring with
                  blocks := s.ring.blocks.map fun x =>
                    if x.lbn = b.lbn then { x with fillBytes := x.fillBytes + f.payload.length } else x }
              index := s.index.map fun x =>
                if x.isOpen then
                  if f.triggerFlag then
                    Entry.recordTrigger { x with byteLength := x.byteLength + f.payload.length } f (x.byteLength / x.bpp)
                  else { x with byteLength := x.byteLength + f.payload.length }
                else x
              link :=
                { s.link with
                  intake := rest
                  pause := pauseLevel s.ring.band s.control.active.pauseOnCritical (framesIn rest) s.link.pause
                  counts := { s.link.counts with framesAdmitted := s.link.counts.framesAdmitted + 1 } }
              assembler :=
                { s.assembler with
                  sliceCounter := s.assembler.sliceCounter.map fun c => c - ((f.payload.length / e.bpp : Nat) : Int)
                  idleFlush :=
                    if s.control.active.idleFlushTime = 0 then none else some s.control.active.idleFlushTime }
              store :=
                { s.store with
                  admission := frameInFront rest
                  inFlight :=
                    s.store.inFlight
                      ++ [{ op := .admissionWrite f.payload, lbn := b.lbn, group := s.groupOf b.lbn,
                            address := s.storeAddress b.lbn b.fillBytes, length := f.payload.length,
                            requester := .absent }] } }))
    ∧ ∀ (s : State) (f : Frame) (loss : Option LossRecord) (rest : List IntakeItem) (b : Block),
        s.store.admission = true → s.store.inFlight.length < 3 → s.assembler.stage = none →
        s.link.intake = .frame f loss :: rest → s.openEntry.isSome = true → s.fillingBlock = some b → f.startFlag = false →
        b.fillBytes + f.payload.length ≤ blockBytes → RingForm s →
        ∃ t u : State, exec .admissionGrant s = .next t
          ∧ Finished ((s.granted.recordLoss loss f.stamp).payloadAppended b f) u f ∧ Presented u t

/-- An admission grant whose frame opens a segment in a ring and an index with room: the block takes LBN Head, the entry is created with the fields of
R56 and the payload counted, the next segment number and Head increase, and the write is issued; a slice continuation takes its First Tick from the
Continuation when it has no Stamp. A frame that must open a segment goes through the steps of R55 in every other case too: a pending swap is taken, the last
segment number and the last LBN stop capture, a full index makes room or has the frame dropped, a full ring examines its Tail block, a loss record advances the
First Tick, the slice counter loads the carried value or L, the marks are tested, and the frame may close the segment again (R4, R8, R15 to R23, R49, R54 to R57,
R69 to R72, R76, R85 to R87, R108, R109). The order in which an opening brings ring, marks and
parked takes up to date (assumption log 8), their update before a wait or a drop (log 25), and store contents that stay until the write's completion (log 14) are the
MODEL's own. -/
def Obligations.GrantOpensASegment : Prop :=
  (∀ (s : State) (f : Frame) (rest : List IntakeItem),
    s.store.admission = true → s.store.inFlight.length < 3 → s.assembler.stage = none →
    s.link.intake = .frame f none :: rest → s.openEntry = none → s.fillingBlock = none → s.control.swapPending = false →
    s.assembler.nextSegment < 2 ^ 48 - 1 → s.index.length < 4096 → s.ring.head < 2 ^ 40 - 1 →
    s.ring.head - s.ring.tail < s.capacity → f.wellSized → f.endFlag = false → s.control.active.sliceMode = .off →
    s.control.headMark = none → s.control.archiveMark = none → s.drain.parkedTakes = [] →
    ∃ (t : State) (entry : Entry), exec .admissionGrant s = .next t ∧ (t.ring.band = s.ring.band → t.sent = [])
      ∧ Signalled s t (bandEvents s.ring.band t.ring.band) []
      ∧ entry =
          { number := s.assembler.nextSegment, closeReason := none, firstLbn := s.ring.head, blockCount := 1,
            presentFrom := s.ring.head, byteLength := f.payload.length,
            bpp := s.control.active.sampleWidth * s.control.active.channelCount, tickStep := s.control.active.tickStep,
            archiveRequired := s.control.active.archiveRequired,
            firstTick :=
              match f.stamp with
              | some tick => tick
              | none =>
                if f.startFlag then 0 else (s.assembler.continuation.map Continuation.nextTick).getD 0
            trigger := none, triggerCount := 0, triggerIgnored := 0, gaps := [], gapOverflow := false, totalLost := 0,
            evictedUnarchived := 0, startLost := !f.startFlag && s.assembler.continuation.isNone,
            noStamp := f.stamp.isNone && (f.startFlag || s.assembler.continuation.isNone), stampConflict := false,
            frontEvicted := false, archivedWithLoss := false, damaged := false }
      ∧ t.index = s.index ++ [if f.triggerFlag then entry.recordTrigger f 0 else entry]
      ∧ t.ring =
          { head := s.ring.head + 1, tail := s.ring.tail
            blocks :=
              s.ring.blocks
                ++ [{ lbn := s.ring.head, state := .filling, fillBytes := f.payload.length, segment := s.assembler.nextSegment,
                      archiveRequired := s.control.active.archiveRequired, pinCount := 0, readsInFlight := 0,
                      damaged := false }]
            band :=
              bandMove s.ring.band t.headroom s.control.active.pressed s.control.active.critical
                s.control.active.hysteresis }
      ∧ t.assembler =
          { s.assembler with
            continuation := none, sliceCounter := none, nextSegment := s.assembler.nextSegment + 1
            idleFlush := if s.control.active.idleFlushTime = 0 then none else some s.control.active.idleFlushTime }
      ∧ t.link =
          { s.link with
            intake := rest, pause := t.link.pause
            counts := { s.link.counts with framesAdmitted := s.link.counts.framesAdmitted + 1 } }
      ∧ t.store =
          { s.store with
            admission := frameInFront rest
            inFlight :=
              s.store.inFlight
                ++ [{ op := .admissionWrite f.payload, lbn := s.ring.head, group := s.groupOf s.ring.head,
                      address := s.storeAddress s.ring.head 0, length := f.payload.length, requester := .absent }] }
      ∧ t.control = s.control ∧ t.drain = s.drain ∧ t.pins = s.pins ∧ t.power = s.power ∧ t.pending = s.pending)
    ∧ ∀ (s : State) (f : Frame) (loss : Option LossRecord) (rest : List IntakeItem), s.store.admission = true →
        s.store.inFlight.length < 3 → s.assembler.stage = none → s.link.intake = .frame f loss :: rest → s.openEntry = none →
        RingForm s → AssemblyForm s →
        ∃ t u : State, exec .admissionGrant s = .next t ∧ Opens s.archiveFront s.granted u f loss ∧ Presented u t

/-- An admission grant whose frame needs a new block of the open segment in a full ring, by the class of the Tail block: Read-bound, the frame waits at
the front and its request is withdrawn; Held, the frame is dropped, counted, and recorded as an Overrun gap with OverrunLoss raised, and under Stop the segment
closes and capture enters Stopped; Recyclable or Evictable, the Tail block leaves, an Evictable one counted and with OverrunLoss raised, and the new block opens
and takes the payload. In any ring the Filling block that the payload does not fit in is sealed before the new one is asked for, and the last LBN stops capture
(R4, R15 to R23, R49 to R51, R68). The order in which an
opening brings ring, marks and parked takes up to date (assumption log 8), and store contents that stay until the write's completion (log 14), are the MODEL's own. -/
def Obligations.FullRingExaminesTheTail : Prop :=
  (∀ (s : State) (f : Frame) (rest : List IntakeItem) (e : Entry) (b : Block),
    s.store.admission = true → s.store.inFlight.length < 3 → s.assembler.stage = none →
    s.link.intake = .frame f none :: rest → s.openEntry = some e → s.fillingBlock = none → f.startFlag = false →
    s.ring.head < 2 ^ 40 - 1 → s.ring.head - s.ring.tail = s.capacity → s.ring.blocks.head? = some b →
    ∀ dropped : State,
      dropped =
        { s with
          index := s.index.map fun x =>
            if x.isOpen then
              x.addGap (BitVec.ofNat 64 (f.payload.length / e.bpp)) .overrun false
            else x
          assembler :=
            { s.assembler with
              sliceCounter :=
                s.assembler.sliceCounter.map fun c => c - ((f.payload.length / e.bpp : Nat) : Int) }
          link :=
            { s.link with
              intake := rest
              pause := pauseLevel s.ring.band s.control.active.pauseOnCritical (framesIn rest) s.link.pause
              counts :=
                { s.link.counts with framesDroppedOverrun := s.link.counts.framesDroppedOverrun + 1 } }
          store := { s.store with admission := frameInFront rest } } →
      (b.classify s.control.active.overrunPolicy = .readBound →
        exec .admissionGrant s
          = .next
              (State.silent
                { s with
                  assembler := { s.assembler with stage := some .nextBlock }
                  store := { s.store with admission := false } }))
      ∧ (b.classify s.control.active.overrunPolicy = .held → s.control.active.overrunPolicy ≠ .stop →
          ∃ t, exec .admissionGrant s = .next t ∧ t.sent = [] ∧ Signalled s t [] [.overrunLoss]
            ∧ t.unsignalled = dropped.unsignalled)
      ∧ (b.classify s.control.active.overrunPolicy = .held → s.control.active.overrunPolicy = .stop →
          ∃ t, exec .admissionGrant s = .next t ∧ StoppedAtOnce dropped t .overrun .overrun
            ∧ Signalled s t (dropped.stopEvents t) [.overrunLoss])
      ∧ ∀ evicted : Bool,
          b.classify s.control.active.overrunPolicy = (if evicted = true then .evictable else .recyclable) → f.wellSized →
          f.endFlag = false → s.assembler.sliceCounter = none → s.control.headMark = none →
          s.control.archiveMark = none → s.drain.parkedTakes = [] →
          ∃ t, exec .admissionGrant s = .next t ∧ (t.ring.band = s.ring.band → t.sent = [])
            ∧ Signalled s t (bandEvents s.ring.band t.ring.band) (if evicted = true then [.overrunLoss] else [])
            ∧ t.ring =
                { head := s.ring.head + 1, tail := s.ring.tail + 1
                  blocks :=
                    s.ring.blocks.tail
                      ++ [{ lbn := s.ring.head, state := .filling, fillBytes := f.payload.length, segment := e.number,
                            archiveRequired := e.archiveRequired, pinCount := 0, readsInFlight := 0, damaged := false }]
                  band :=
                    bandMove s.ring.band t.headroom s.control.active.pressed s.control.active.critical
                      s.control.active.hysteresis }
            ∧ t.index =
                ((s.index.map fun x =>
                  if x.number = b.segment then
                    { x with
                      presentFrom := x.presentFrom + 1
                      evictedUnarchived :=
                        x.evictedUnarchived + (if evicted = true then BitVec.ofNat 64 (b.fillBytes / x.bpp) else 0)
                      frontEvicted := x.frontEvicted || evicted }
                  else x).filter
                  fun x => decide (x.closeReason = none ∨ x.presentFrom ≠ x.firstLbn + x.blockCount)).map
                  (fun x =>
                    if x.isOpen then
                      if f.triggerFlag then
                        Entry.recordTrigger
                          { x with blockCount := x.blockCount + 1, byteLength := x.byteLength + f.payload.length } f
                          (x.byteLength / x.bpp)
                      else { x with blockCount := x.blockCount + 1, byteLength := x.byteLength + f.payload.length }
                    else x)
            ∧ t.assembler =
                { s.assembler with
                  idleFlush := if s.control.active.idleFlushTime = 0 then none else some s.control.active.idleFlushTime }
            ∧ t.link =
                { s.link with
                  intake := rest, pause := t.link.pause
                  counts :=
                    { s.link.counts with
                      framesAdmitted := s.link.counts.framesAdmitted + 1
                      blocksEvictedUnarchived := s.link.counts.blocksEvictedUnarchived + (if evicted = true then 1 else 0) } }
            ∧ t.store =
                { s.store with
                  admission := frameInFront rest
                  inFlight :=
                    s.store.inFlight
                      ++ [{ op := .admissionWrite f.payload, lbn := s.ring.head, group := s.groupOf s.ring.head,
                            address := s.storeAddress s.ring.head 0, length := f.payload.length, requester := .absent }] }
            ∧ t.control = s.control ∧ t.pins = s.pins ∧ t.power = s.power ∧ t.drain = s.drain ∧ t.pending = s.pending)
    ∧ ∀ (s : State) (f : Frame) (loss : Option LossRecord) (rest : List IntakeItem) (r : State), s.store.admission = true →
        s.store.inFlight.length < 3 → s.assembler.stage = none → s.link.intake = .frame f loss :: rest →
        s.openEntry.isSome = true → f.startFlag = false →
        (∀ b ∈ s.fillingBlock, blockBytes < b.fillBytes + f.payload.length) → RingForm s → AssemblyForm s →
        r = s.granted.recordLoss loss f.stamp →
        ∃ t u v : State, exec .admissionGrant s = .next t ∧ Becomes r u r.afterSeal r.sealEvents []
          ∧ NextBlock s.archiveFront u v f ∧ Presented v t

/-- A grant of the admission request disposes of the frame at the front of intake, or leaves it waiting: its payload is placed with one admission write under the
grant, at Fill Bytes of the Filling block or at byte 0 of the block that takes LBN Head; or it is dropped and the grant issues nothing; or its MissingEnd close
ends Stopping and it is discarded with the rest of intake; or it waits at the front on a read at the Tail with the request withdrawn. Every parked take that the
grant ends is answered. A frame with the Start flag closes the open segment with reason MissingEnd and in Running opens its own; a working that waited resumes at
the step where it stopped (R38, R48, R49, R54, R55, R59, R60, R87, R118 to R120, R153). The MODEL's own: the order in which the ring, the marks and the parked
takes are brought up to date around an opening, in the second and third clause (assumption log 8), or before a wait or a drop (log 25); and that the store's
contents do not change before the write's completion (log 14). -/
def Obligations.GrantPlacesDropsDiscardsOrWaits : Prop :=
  (∀ (s : State) (f : Frame) (loss : Option LossRecord) (rest : List IntakeItem), s.store.admission = true →
    s.store.inFlight.length < 3 → s.link.intake = .frame f loss :: rest → RingForm s → AssemblyForm s →
    ∃ t, exec .admissionGrant s = .next t
      ∧ t.store.memory = s.store.memory ∧ t.pins = s.pins ∧ t.power = s.power ∧ t.drain.contexts = s.drain.contexts
      ∧ (∀ k ∈ s.drain.parkedTakes, k ∉ t.drain.parkedTakes →
          ∃ r ∈ t.sent, r.port = .archive ∧ r.tag = k.tag
            ∧ (r.status = .ok ∨ r.status = .windowDone ∨ r.status = .empty ∧ t.control.capture = .stopped))
      ∧ ((t.link.counts.framesAdmitted = s.link.counts.framesAdmitted + 1
            ∧ t.link.counts.framesDroppedOverrun = s.link.counts.framesDroppedOverrun
            ∧ t.link.intake = (if t.control.capture = .stopped then [] else rest)
            ∧ ∀ lbn offset : Nat, (lbn, offset) = s.placeOf f →
                t.store.inFlight
                  = s.store.inFlight
                      ++ [{ op := .admissionWrite f.payload, lbn := lbn, group := s.groupOf lbn,
                            address := s.storeAddress lbn offset, length := f.payload.length, requester := .absent }]
                  ∧ offset + f.payload.length ≤ blockBytes)
          ∨ (t.link.counts.framesAdmitted = s.link.counts.framesAdmitted
            ∧ t.link.counts.framesDroppedOverrun = s.link.counts.framesDroppedOverrun + 1
            ∧ t.link.intake = (if t.control.capture = .stopped then [] else rest) ∧ t.store.inFlight = s.store.inFlight)
          ∨ (s.control.capture = .stopping ∧ f.startFlag = true ∧ t.control.capture = .stopped
            ∧ t.link.counts.framesAdmitted = s.link.counts.framesAdmitted
            ∧ t.link.counts.framesDroppedOverrun = s.link.counts.framesDroppedOverrun
            ∧ t.link.counts.framesDiscarded = s.link.counts.framesDiscarded + BitVec.ofNat 64 s.occupancy
            ∧ t.link.intake = [] ∧ t.store.inFlight = s.store.inFlight)
          ∨ (t.link = { s.link with pause := t.link.pause
                                    counts := { s.link.counts with
                                                blocksSealed := t.link.counts.blocksSealed
                                                blocksEvictedUnarchived := t.link.counts.blocksEvictedUnarchived } }
            ∧ t.assembler.stage.isSome = true ∧ t.store = { s.store with admission := false })))
    ∧ (∀ (s : State) (f : Frame) (loss : Option LossRecord) (rest : List IntakeItem) (r : State), s.store.admission = true →
        s.store.inFlight.length < 3 → s.assembler.stage = none → s.link.intake = .frame f loss :: rest → f.startFlag = true →
        s.openEntry.isSome = true → RingForm s → AssemblyForm s → r = s.granted.recordLoss loss f.stamp →
        ∃ t u : State, exec .admissionGrant s = .next t ∧ Presented u t
          ∧ (s.control.capture = .stopping →
              StoppedAtOnce r u .missingEnd r.reasonOfClose ∧ Signalled r u (r.stopEvents u) [])
          ∧ (s.control.capture ≠ .stopping →
              ∃ m : State, Becomes r m (r.afterClose .missingEnd) r.closeEvents [] ∧ Opens s.archiveFront m u f loss))
    ∧ ∀ (s : State) (f : Frame) (loss : Option LossRecord) (rest : List IntakeItem) (stage : Stage), s.store.admission = true →
        s.store.inFlight.length < 3 → s.assembler.stage = some stage → s.link.intake = .frame f loss :: rest → RingForm s →
        AssemblyForm s →
        ∃ t u : State, exec .admissionGrant s = .next t ∧ Presented u t
          ∧ match stage with
            | .makeRoom => OpensWithRoom s.archiveFront s.granted u f loss
            | .openBlock => OpensWithBlock s.archiveFront s.granted u f loss
            | .nextBlock => NextBlock s.archiveFront s.granted u f

/-- The Ring Manager's examination of the Tail block gives the class of the first row that matches, for any block that is not Filling (R16). -/
def Obligations.TailBlockIsClassified : Prop :=
  ∀ (b : Block) (policy : OverrunPolicy), b.state ≠ .filling →
    (b.classify policy = .recyclable ↔
        (∀ c, b.state ≠ .claimed c) ∧ b.pinCount = 0 ∧ b.readsInFlight = 0
          ∧ (b.state = .archived ∨ b.archiveRequired = false))
      ∧ (b.classify policy = .readBound ↔
          0 < b.readsInFlight ∧ b.pinCount = 0
            ∧ (((∀ c, b.state ≠ .claimed c) ∧ (b.state = .archived ∨ b.archiveRequired = false))
              ∨ (b.state = .sealed ∧ b.archiveRequired = true ∧ policy = .overwrite)))
      ∧ (b.classify policy = .evictable ↔
          b.state = .sealed ∧ b.archiveRequired = true ∧ b.pinCount = 0 ∧ b.readsInFlight = 0 ∧ policy = .overwrite)
      ∧ (b.classify policy = .held ↔
          (∃ c, b.state = .claimed c) ∨ 0 < b.pinCount
            ∨ (b.state = .sealed ∧ b.archiveRequired = true ∧ (policy = .drop ∨ policy = .stop)))

/-- A Flush, or the expiry of a Running idle-flush timer, seals the Filling block, if there is one: it becomes Sealed, or Claimed for the oldest parked
take whose window covers it, which is answered OK with its Claim record; Blocks Sealed increases and BlockSealed is raised; the segment stays open. Without a
Filling block nothing is sealed (R9, R52, R53, R116, R118). That an expiry commanded of a Stopped timer has no effect is the MODEL's choice (assumption log 5). -/
def Obligations.FlushAndIdleFlushSeal : Prop :=
  (∀ (h : Header) (s : State), Taken s .viewer h 0 → s.fillingBlock = none →
      exec (.flush h) s = .next (s.answered .viewer h .flush .ok (.sealedLbn none)))
    ∧ (∀ (h : Header) (b : Block) (s : State), Taken s .viewer h 0 → s.fillingBlock = some b →
        ∃ t, exec (.flush h) s = .next t ∧ t.answers .viewer h .flush .ok (.sealedLbn (some b.lbn))
          ∧ (RingForm s → SealAnswered s t)
          ∧ Signalled (s.reached .viewer) t [.blockSealed] []
          ∧ t.unsignalled
              = State.unsignalled
                  { s with
                    ring := { s.ring with blocks := s.sealedBlocks }
                    drain :=
                      { s.drain with
                        parkedTakes := s.drain.parkedTakes.filter fun k =>
                          !(b.archiveRequired && decide (s.takerOf b.lbn = some k)) }
                    link :=
                      { s.link with
                        counts := { s.link.counts with blocksSealed := s.link.counts.blocksSealed + 1 } } })
    ∧ (∀ s : State, s.assembler.idleFlush = none → exec .idleFlushExpiry s = .next s.silent)
    ∧ (∀ s : State, s.assembler.idleFlush.isSome = true → s.fillingBlock = none →
        exec .idleFlushExpiry s = .next { s with assembler := { s.assembler with idleFlush := none } }.silent)
    ∧ ∀ (b : Block) (s : State), s.assembler.idleFlush.isSome = true → s.fillingBlock = some b →
        ∃ t, exec .idleFlushExpiry s = .next t ∧ Signalled s t [.blockSealed] [] ∧ (RingForm s → SealAnswered s t)
          ∧ t.unsignalled
              = State.unsignalled
                  { s with
                    assembler := { s.assembler with idleFlush := none }
                    ring := { s.ring with blocks := s.sealedBlocks }
                    drain :=
                      { s.drain with
                        parkedTakes := s.drain.parkedTakes.filter fun k =>
                          !(b.archiveRequired && decide (s.takerOf b.lbn = some k)) }
                    link :=
                      { s.link with
                        counts := { s.link.counts with blocksSealed := s.link.counts.blocksSealed + 1 } } }

/-- A halt marker at the front is worked: its loss record is recorded as a gap of the open segment, the segment, if open, closes with reason Halt, and capture
enters Stopped with stop reason Halt. A resync marker records its loss record and closes the segment with reason LinkReset, which in Stopping ends Stopping with
the Stopping reason, or Halt where an Orderly halt is in progress; with no segment open it has no further effect (R43, R60, R94, R98). That the command has no
effect where its marker is not at the front is the MODEL's choice (assumption log 5). -/
def Obligations.MarkersAreWorked : Prop :=
  ((∀ (s : State) (loss : Option LossRecord) (rest : List IntakeItem), s.link.intake = .haltMarker loss :: rest → RingForm s →
       ∃ t, exec .haltMarkerWorked s = .next t
         ∧ StoppedAtOnce (s.recordLoss loss none) t .halt .halt ∧ Signalled s t (s.stopEvents t) [])
     ∧ ∀ s : State, (∀ loss, s.link.intake.head? ≠ some (IntakeItem.haltMarker loss)) →
         exec .haltMarkerWorked s = .next s.silent)
    ∧ ((∀ (s : State) (loss : Option LossRecord) (rest : List IntakeItem), s.link.intake = .resyncMarker loss :: rest →
           (s.openEntry = none →
               exec .resyncMarkerWorked s
                 = .next
                     (State.silent
                       { s with
                         link := { s.link with intake := rest }
                         store :=
                           { s.store with
                             admission := frameInFront rest && (s.assembler.stage.isNone || s.store.admission) } }))
             ∧ (s.openEntry.isSome = true → s.control.capture = .stopping → RingForm s →
                 ∃ t, exec .resyncMarkerWorked s = .next t
                   ∧ StoppedAtOnce (s.recordLoss loss none) t .linkReset
                       (if s.control.orderlyHalt = true then .halt
                         else if s.control.stoppingReason = some .headMark then .headMark else .stop)
                   ∧ Signalled s t (s.stopEvents t) [])
             ∧ (s.openEntry.isSome = true → s.control.capture ≠ .stopping →
                 ∃ t, exec .resyncMarkerWorked s = .next t ∧ Signalled s t s.closeEvents [] ∧ (RingForm s → SealAnswered s t)
                   ∧ t.unsignalled
                       = State.unsignalled
                           { s with
                             ring := { s.ring with blocks := s.sealedBlocks }
                             index := (s.recordLoss loss none).closedIndex .linkReset
                             assembler := { s.assembler with idleFlush := none, sliceCounter := none }
                             drain :=
                               { s.drain with
                                 parkedTakes := s.drain.parkedTakes.filter fun k =>
                                   (s.fillingBlock.map fun b =>
                                     !(b.archiveRequired && decide (s.takerOf b.lbn = some k))).getD true }
                             link :=
                               { s.link with
                                 intake := rest
                                 counts :=
                                   { s.link.counts with
                                     blocksSealed := s.link.counts.blocksSealed + if s.fillingBlock.isSome then 1 else 0 } }
                             store :=
                               { s.store with
                                 admission := frameInFront rest && (s.assembler.stage.isNone || s.store.admission) } }))
         ∧ ∀ s : State, (∀ loss, s.link.intake.head? ≠ some (IntakeItem.resyncMarker loss)) →
             exec .resyncMarkerWorked s = .next s.silent)

/-- The carried value of a Slice close lies in 1..L and brings the counter to the next multiple of L. A trigger whose rounded offset lies outside the payload is
ignored and counted; a valid one is counted, and the first creates the Trigger record with the point that contains its offset, the tick of that point and the
frame's kind (R64, R71). -/
def Obligations.SlicesCarryAndTriggersAreRecorded : Prop :=
  (∀ (counter : Int) (l : Nat), counter ≤ 0 → 1 ≤ l →
     1 ≤ carriedValue counter l ∧ carriedValue counter l ≤ l ∧ (l : Int) ∣ counter - (carriedValue counter l : Int))
    ∧ (∀ (e : Entry) (f : Frame) (p0 rounded : Nat), rounded = f.triggerOffset.toNat / e.bpp * e.bpp →
         (f.payload.length ≤ rounded →
             e.recordTrigger f p0 = { e with triggerIgnored := min (e.triggerIgnored + 1) 4294967295 })
           ∧ (rounded < f.payload.length → 0 < e.bpp →
               e.recordTrigger f p0
                 = { e with
                     triggerCount := min (e.triggerCount + 1) 4294967295
                     trigger :=
                       match e.trigger with
                       | some found => some found
                       | none =>
                         some
                           { position := p0 + f.triggerOffset.toNat / e.bpp
                             tick :=
                               e.firstTick
                                 + BitVec.ofNat 64
                                     ((p0 + f.triggerOffset.toNat / e.bpp + e.totalLost.toNat) * e.tickStep)
                             kind := f.triggerKind } }))

/-- A Tail block that leaves: its record becomes Empty, Tail increases by one, its entry's Present From LBN advances, and a Closed entry none of whose
blocks is held retires; an eviction also adds the block's points, sets FrontEvictedUnarchived, counts the block and raises OverrunLoss; nothing else changes
(R12, R17, R22, R82, R83). -/
def Obligations.TailBlockLeavesTheRing : Prop :=
  ∀ (s : State) (b : Block),
    s.recycleTail b
        = { s with
            ring := { s.ring with blocks := s.ring.blocks.tail, tail := s.ring.tail + 1 }
            index :=
              (s.index.map fun e => if e.number = b.segment then { e with presentFrom := e.presentFrom + 1 } else e).filter
                fun e => decide (e.closeReason = none ∨ e.presentFrom ≠ e.firstLbn + e.blockCount) }
      ∧ Signalled s (s.evictTail b) [] [.overrunLoss]
      ∧ (s.evictTail b).unsignalled
          = State.unsignalled
              { s with
                ring := { s.ring with blocks := s.ring.blocks.tail, tail := s.ring.tail + 1 }
                link :=
                  { s.link with
                    counts :=
                      { s.link.counts with blocksEvictedUnarchived := s.link.counts.blocksEvictedUnarchived + 1 } }
                index :=
                  (s.index.map fun e =>
                    if e.number = b.segment then
                      { e with
                        presentFrom := e.presentFrom + 1
                        evictedUnarchived := e.evictedUnarchived + BitVec.ofNat 64 (b.fillBytes / e.bpp)
                        frontEvicted := true }
                    else e).filter
                    fun e => decide (e.closeReason = none ∨ e.presentFrom ≠ e.firstLbn + e.blockCount) }

/-- The band moves by the first row that matches the present band and the Headroom, and stays where none does; after a move the band is Critical
wherever Headroom is at or below K, and is never Relaxed at or below P; the evaluation afresh has no present band. Every step keeps the band in agreement with
Headroom and the active thresholds, and K below P and P at most C (R24, R25, R26, R104, R105). -/
def Obligations.BandFollowsHeadroom : Prop :=
  (∀ (band : Band) (headroom p k h : Nat), k < p →
    (bandMove band headroom p k h =
        match band with
        | .relaxed => if headroom ≤ k then .critical else if headroom ≤ p then .pressed else .relaxed
        | .pressed => if headroom ≤ k then .critical else if p + h < headroom then .relaxed else .pressed
        | .critical =>
          if p + h < headroom then .relaxed
          else if k + h < headroom ∧ headroom ≤ p + h then .pressed
          else .critical)
      ∧ (headroom ≤ k → bandMove band headroom p k h = .critical ∧ bandFresh headroom p k = .critical)
      ∧ (headroom ≤ p → bandMove band headroom p k h ≠ .relaxed ∧ bandFresh headroom p k ≠ .relaxed)
      ∧ (p + h < headroom → bandMove band headroom p k h = .relaxed)
      ∧ (k < headroom → headroom ≤ p → bandFresh headroom p k = .pressed)
      ∧ (p < headroom → bandFresh headroom p k = .relaxed))
    ∧ ∀ s t : State, RingForm s → AssemblyForm s → BandForm s → step s = .next t → BandForm t

/-! ## Bank groups and ring formation -/

/-- SetGroupNext records a Next, in every state of the group, and changes nothing else; a number outside its range is BAD_PARAM. ApplyGroups is refused
IN_TRANSITION while a group is Changing, and WRONG_STATE, with the lowest-numbered group, while a change of a mapped group is not legal in the capture
state; a refusal changes nothing (R167, R168). -/
def Obligations.GroupChangesAreRecordedAndTested : Prop :=
  (∀ (h : Header) (next : BitVec 8) (s : State), Taken s .viewer h 1 →
      (15 < h.target.toNat ∨ 2 < next.toNat →
          exec (.setGroupNext h next) s = .next (s.refused .viewer h .setGroupNext .badParam))
        ∧ ∀ (g : Fin 16) (n : GroupPower), h.target.toNat = g.val →
            (next = 0 ∧ n = .off) ∨ (next = 1 ∧ n = .retain) ∨ (next = 2 ∧ n = .active) →
            exec (.setGroupNext h next) s
              = .next
                  (State.answered
                    { s with power := { s.power with groups := s.power.groups.set g { s.power.groups[g] with next := n } } }
                    .viewer h .setGroupNext .ok (.groupNext s.power.groups[g].state n)))
    ∧ ∀ (h : Header) (s : State), Taken s .viewer h 0 →
        ((∃ g : Fin 16, s.changing g) →
            exec (.applyGroups h) s = .next (s.answered .viewer h .applyGroups .inTransition (.refusedGroup none)))
          ∧ ∀ (illegal : Fin 16 → Prop),
              (∀ g, illegal g ↔
                g ∈ s.power.groupMap ∧ s.power.groups[g].state ≠ .settled s.power.groups[g].next
                  ∧ (s.capturing ∨ (s.control.capture = .stopped ∧ s.power.groups[g].next = .off))) →
              ∀ g : Fin 16, (∀ j : Fin 16, ¬ s.changing j) → illegal g → (∀ j : Fin 16, j < g → ¬ illegal j) →
                exec (.applyGroups h) s
                  = .next (s.answered .viewer h .applyGroups .wrongState (.refusedGroup (some g)))

/-- An ApplyGroups that is not refused starts every recorded change and no other: each group passes into the first phase of its change, or settles at once
where that phase ends in the same act; the contents of a group that settles in Off are lost; GroupsSettled is raised when the changes all settle in the act;
nothing else changes (R169 to R172). -/
def Obligations.ApplyGroupsStartsTheChanges : Prop :=
  ∀ (h : Header) (s : State), Taken s .viewer h 0 → (∀ g : Fin 16, ¬ s.changing g) →
    (∀ g ∈ s.power.groupMap, s.power.groups[g].state ≠ .settled s.power.groups[g].next →
      ¬ s.capturing ∧ (s.control.capture = .stopped → s.power.groups[g].next ≠ .off)) →
    ∃ t, exec (.applyGroups h) s = .next t
      ∧ t.answers .viewer h .applyGroups .ok
          (.changingCount
            ((List.finRange 16).countP fun g => decide (s.power.groups[g].state ≠ .settled s.power.groups[g].next)))
      ∧ (∀ g : Fin 16, t.power.groups[g] =
          { next := s.power.groups[g].next
            state :=
              match s.power.groups[g].state, s.power.groups[g].next with
              | .settled .off, .off => .settled .off
              | .settled .off, .retain => .changing .off .retain (.timing 2000)
              | .settled .off, .active => .changing .off .active (.timing 2000)
              | .settled .retain, .off => .settled .off
              | .settled .retain, .retain => .settled .retain
              | .settled .retain, .active => .changing .retain .active (.timing 200)
              | .settled .active, .off =>
                if ∃ e ∈ s.store.inFlight, e.group = g then .changing .active .off .draining else .settled .off
              | .settled .active, .retain =>
                if ∃ e ∈ s.store.inFlight, e.group = g then .changing .active .retain .draining
                else .changing .active .retain (.timing 200)
              | .settled .active, .active => .settled .active
              | .changing start target phase, _ => .changing start target phase })
      ∧ (∀ a : Nat, Memory.read t.store.memory a =
          if ∃ g : Fin 16, g.val * groupBytes ≤ a ∧ a < (g.val + 1) * groupBytes ∧ s.power.groups[g].state ≠ .settled .off
              ∧ t.power.groups[g].state = .settled .off then none
          else Memory.read s.store.memory a)
      ∧ Signalled (s.reached .viewer) t
          (if (∃ g : Fin 16, s.power.groups[g].state ≠ .settled s.power.groups[g].next) ∧ t.changingGroups = [] then
            [.groupsSettled]
          else []) []
      ∧ t.unsignalled
          = State.unsignalled
              { s with
                power := { s.power with groups := t.power.groups }
                store := { s.store with memory := t.store.memory } }

/-- When the time of a Timing phase runs out the group settles in its Target and leaves its Next; its contents are lost or undefined where the change was to
or from Off; GroupsSettled is raised when no group is Changing any more (R170, R172). That a settle commanded of a group in no Timing phase has no effect is the
MODEL's choice (assumption log 5). -/
def Obligations.GroupsSettleWhenTheirTimeRunsOut : Prop :=
  ∀ (g : Fin 16) (s : State),
    (∀ (start target : GroupPower) (left : Nat), s.power.groups[g].state = .changing start target (.timing left) →
        ∃ t, exec (.groupSettle g) s = .next t
          ∧ Signalled s t (if s.changingGroups = [g] then [.groupsSettled] else []) []
          ∧ t.unsignalled
              = State.unsignalled
                  { s with
                    power :=
                      { s.power with
                        groups := s.power.groups.set g { s.power.groups[g] with state := .settled target } }
                    store :=
                      { s.store with
                        memory :=
                          if start = .off ∨ target = .off then
                            s.store.memory.filter fun c =>
                              decide (c.1 < g.val * groupBytes) || decide ((g.val + 1) * groupBytes ≤ c.1)
                          else s.store.memory } })
      ∧ ((∀ (start target : GroupPower) (left : Nat), s.power.groups[g].state ≠ .changing start target (.timing left)) →
          exec (.groupSettle g) s = .next s.silent)

/-- SetGroupMap: a Span that is not one of its values, a list that does not hold exactly Span groups, and a group named twice are BAD_PARAM; outside Unformed
and Idle it is WRONG_STATE; otherwise the map is taken, the Block Table is emptied, capture is Unformed, the active profile is re-clamped against the new C
and the band evaluated afresh, and nothing else changes (R105, R176, R177). -/
def Obligations.SetGroupMapTakesTheMap : Prop :=
  ∀ (h : Header) (span : BitVec 8) (groups : List (BitVec 8)) (legal : Prop) (s : State),
    Taken s .viewer h (1 + groups.length) →
    (legal ↔
      (span.toNat = 1 ∨ span.toNat = 2 ∨ span.toNat = 4 ∨ span.toNat = 8 ∨ span.toNat = 16)
        ∧ groups.length = span.toNat ∧ (∀ g ∈ groups, g.toNat ≤ 15) ∧ groups.Nodup) →
    (¬ legal → exec (.setGroupMap h span groups) s = .next (s.refused .viewer h .setGroupMap .badParam))
      ∧ (legal → s.capturing ∨ s.control.capture = .stopped →
          exec (.setGroupMap h span groups) s = .next (s.refused .viewer h .setGroupMap .wrongState))
      ∧ (legal → s.control.capture = .unformed ∨ s.control.capture = .idle →
          ∃ (t : State) (map : List (Fin 16)), map.map Fin.val = groups.map BitVec.toNat
            ∧ exec (.setGroupMap h span groups) s = .next t
            ∧ t.answers .viewer h .setGroupMap .ok (.groupMap span.toNat (1024 * span.toNat) map)
            ∧ t.capacity = 1024 * span.toNat
            ∧ t.control =
                { s.control with
                  capture := .unformed
                  active := s.control.requested.clampedTo (1024 * span.toNat) }
            ∧ BandedAfresh s t
            ∧ Signalled (s.reached .viewer) t (bandEvents s.ring.band t.ring.band) []
            ∧ t.unsignalled
                = State.unsignalled
                    { s with
                      power := { s.power with groupMap := map }
                      ring := { s.ring with blocks := [], band := t.ring.band }
                      control := t.control
                      link := t.link })

/-- Reform: WRONG_STATE in Running and Stopping and while a claim, a Live pin or a read in flight on a held block stands in its way, ASLEEP when a mapped
group is not Active; otherwise the ring and the index are emptied, Tail is set to Head, capture is Idle with stop reason None, the active profile is
re-clamped, the band evaluated afresh and the Archive Mark tested, and nothing else changes (R178, R179). -/
def Obligations.ReformFormsTheRing : Prop :=
  ∀ (h : Header) (blocked : Prop) (s : State), Taken s .viewer h 0 →
    (blocked ↔
      s.capturing ∨ (∃ b ∈ s.ring.blocks, ∃ c, b.state = .claimed c) ∨ (∃ i : Fin 8, s.pins[i].isSome = true)
        ∨ ∃ b ∈ s.ring.blocks, 0 < b.readsInFlight) →
    (blocked → exec (.reform h) s = .next (s.refused .viewer h .reform .wrongState))
      ∧ (¬ blocked → (∃ g ∈ s.power.groupMap, s.power.groups[g].state ≠ .settled .active) →
          exec (.reform h) s = .next (s.refused .viewer h .reform .asleep))
      ∧ (¬ blocked → (∀ g ∈ s.power.groupMap, s.power.groups[g].state = .settled .active) →
          ∃ (t : State) (fires : Bool), exec (.reform h) s = .next t
            ∧ fires = (s.control.archiveMark.map fun lbn => decide (lbn ≤ s.ring.head)).getD false
            ∧ t.answers .viewer h .reform .ok (.reformed s.ring.head s.capacity t.ring.band)
            ∧ t.control =
                { s.control with
                  capture := .idle
                  stopReason := .none
                  active := s.control.requested.clampedTo s.capacity
                  archiveMark := if fires = true then none else s.control.archiveMark }
            ∧ BandedAfresh s t
            ∧ Signalled (s.reached .viewer) t
                (bandEvents s.ring.band t.ring.band ++ if fires = true then [.archiveMark] else []) []
            ∧ t.unsignalled
                = State.unsignalled
                    { s with
                      ring := { head := s.ring.head, tail := s.ring.head, blocks := [], band := t.ring.band }
                      index := []
                      control := t.control
                      link := t.link })

/-! ## Draining -/

/-- OpenContext opens a Closed context with a window that ends at or below 2^40; CloseContext cancels the context's parked take, returns its claims in LBN
order, each offered to the parked takes of the other contexts that remain, oldest first, and closes it; a take that receives a block is answered OK with its Claim
record and every other stays parked; ArchiveFront does not move (R112, R118, R129, R130). -/
def Obligations.ContextsOpenAndClose : Prop :=
  (∀ (h : Header) (first length : BitVec 64) (s : State), Taken s .archive h 16 →
      (3 < h.target.toNat ∨ 2 ^ 40 - 1 < first.toNat ∨ 2 ^ 40 - 1 < length.toNat
          ∨ (0 < length.toNat ∧ 2 ^ 40 < first.toNat + length.toNat) →
          exec (.openContext h first length) s = .next (s.refused .archive h .openContext .badParam))
        ∧ ∀ c : Fin 4, h.target.toNat = c.val → first.toNat ≤ 2 ^ 40 - 1 → length.toNat ≤ 2 ^ 40 - 1 →
            length.toNat = 0 ∨ first.toNat + length.toNat ≤ 2 ^ 40 →
            (s.drain.contexts[c].isSome = true →
                exec (.openContext h first length) s = .next (s.refused .archive h .openContext .wrongState))
              ∧ (s.drain.contexts[c] = none →
                  exec (.openContext h first length) s
                    = .next
                        (State.answered
                          { s with
                            drain :=
                              { s.drain with
                                contexts :=
                                  s.drain.contexts.set c (some { first := first.toNat, length := length.toNat }) } }
                          .archive h .openContext .ok .none)))
    ∧ ∀ (h : Header) (s : State), Taken s .archive h 0 →
        (3 < h.target.toNat → exec (.closeContext h) s = .next (s.refused .archive h .closeContext .badParam))
          ∧ ∀ c : Fin 4, h.target.toNat = c.val →
              (s.drain.contexts[c] = none →
                  exec (.closeContext h) s = .next (s.refused .archive h .closeContext .wrongState))
                ∧ ∀ offered : List (Block × Option ParkedTake) × List ParkedTake,
                    s.drain.contexts[c].isSome = true → RingForm s → DrainForm s →
                    offered
                      = offerInTurn s.drain.contexts (s.drain.parkedTakes.filter fun k => decide (k.ctx ≠ c))
                          (s.ring.blocks.filter fun b => decide (b.state = .claimed c)) →
                    ∃ t, exec (.closeContext h) s = .next t
                      ∧ t.answers .archive h .closeContext .ok
                          (.returnedCount (s.ring.blocks.countP fun b => decide (b.state = .claimed c)))
                      ∧ (∀ k ∈ s.drain.parkedTakes, k.ctx = c →
                          ∃ r ∈ t.sent, r.port = .archive ∧ r.tag = k.tag ∧ r.status = .cancelled)
                      ∧ (∀ (b : Block) (k : ParkedTake) (e : Entry), (b, some k) ∈ offered.1 →
                          s.findEntry b.segment = some e → ClaimAnswered t k b e)
                      ∧ t.archiveFront = s.archiveFront
                      ∧ Signalled (s.reached .archive) t [] []
                      ∧ t.unsignalled
                          = State.unsignalled
                              { s with
                                ring :=
                                  { s.ring with
                                    blocks := s.ring.blocks.map fun b =>
                                      match offered.1.find? fun x => decide (x.1 = b) with
                                      | none => b
                                      | some (_, none) => { b with state := .sealed }
                                      | some (_, some k) => { b with state := .claimed k.ctx } }
                                drain := { contexts := s.drain.contexts.set c none, parkedTakes := offered.2 } }

/-- Take answers by the first row that matches: BAD_PARAM, WRONG_STATE, LIMIT at 8 claims, ASLEEP or OK with the Claim record of the oldest block of the drain
order the window covers, WINDOW_DONE, EMPTY, LIMIT for a second parked take; else it parks. Only an OK claims a block, and only a parking adds a parked take
(R115, R116, R117). -/
def Obligations.TakeAnswers : Prop :=
  ∀ (h : Header) (wait : BitVec 8) (s : State), Taken s .archive h 1 →
    (3 < h.target.toNat ∨ 1 < wait.toNat → exec (.take h wait) s = .next (s.refused .archive h .take .badParam))
      ∧ ∀ c : Fin 4, h.target.toNat = c.val → wait.toNat ≤ 1 →
          (s.drain.contexts[c] = none → exec (.take h wait) s = .next (s.refused .archive h .take .wrongState))
            ∧ ∀ w : Window, s.drain.contexts[c] = some w →
                (8 ≤ (s.ring.blocks.filter fun b => b.state = .claimed c).length →
                    exec (.take h wait) s = .next (s.refused .archive h .take .limit))
                  ∧ ((s.ring.blocks.filter fun b => b.state = .claimed c).length < 8 →
                      (∀ b : Block,
                          s.ring.blocks.find? (fun b =>
                              decide (b.state = .sealed ∧ b.archiveRequired = true ∧ w.covers b.lbn = true)) = some b →
                          (s.power.groups[s.groupOf b.lbn].state ≠ .settled .active →
                              exec (.take h wait) s = .next (s.refused .archive h .take .asleep))
                            ∧ ∀ e : Entry, s.index.find? (fun e => e.number = b.segment) = some e →
                                s.power.groups[s.groupOf b.lbn].state = .settled .active →
                                exec (.take h wait) s
                                  = .next
                                      (State.answered
                                        { s with
                                          ring :=
                                            { s.ring with
                                              blocks := s.ring.blocks.map fun x =>
                                                if x.lbn = b.lbn then { x with state := .claimed c } else x } }
                                        .archive h .take .ok
                                        (.claim
                                          { lbn := b.lbn, segment := b.segment, fillBytes := b.fillBytes
                                            firstOfSegment := decide (b.lbn = e.firstLbn)
                                            lastOfSegment :=
                                              e.closeReason.isSome && decide (b.lbn + 1 = e.firstLbn + e.blockCount)
                                            damaged := b.damaged })))
                        ∧ ((∀ b ∈ s.ring.blocks, b.state = .sealed → b.archiveRequired = true → w.covers b.lbn = false) →
                            (w.length ≠ 0 ∧ w.first + w.length ≤ s.archiveFront →
                                exec (.take h wait) s = .next (s.refused .archive h .take .windowDone))
                              ∧ (w.length = 0 ∨ s.archiveFront < w.first + w.length →
                                  (wait = 0 ∨ s.control.capture = .stopped →
                                      exec (.take h wait) s = .next (s.refused .archive h .take .empty))
                                    ∧ (wait = 1 → s.control.capture ≠ .stopped →
                                        (∃ k ∈ s.drain.parkedTakes, k.ctx = c) →
                                        exec (.take h wait) s = .next (s.refused .archive h .take .limit))
                                    ∧ (wait = 1 → s.control.capture ≠ .stopped →
                                        (∀ k ∈ s.drain.parkedTakes, k.ctx ≠ c) →
                                        exec (.take h wait) s
                                          = .next
                                              (State.waiting
                                                { s with
                                                  drain :=
                                                    { s.drain with
                                                      parkedTakes :=
                                                        s.drain.parkedTakes ++ [{ ctx := c, tag := h.tag }] } }
                                                .archive h .take .parked)))))

/-- A Fetch of a block its context claims, and a Read of a block a Live pin covers, are checked against the block's fill and group when they are taken, and
join their queue with the slot kept; the first row that fails is answered and changes nothing (R122, R142). -/
def Obligations.FetchesAndReadsAreQueued : Prop :=
  (∀ (h : Header) (lbn : BitVec 64) (offset length : BitVec 32) (legal : Prop) (s : State), Taken s .archive h 16 →
      (legal ↔ h.target.toNat ≤ 3 ∧ lbn.toNat ≤ 2 ^ 40 - 1 ∧ offset.toNat % 64 = 0 ∧ length.toNat % 64 = 0
        ∧ 64 ≤ length.toNat ∧ length.toNat ≤ 65536) →
      (¬ legal → exec (.fetch h lbn offset length) s = .next (s.refused .archive h .fetch .badParam))
        ∧ ∀ c : Fin 4, legal → h.target.toNat = c.val →
            (s.drain.contexts[c] = none ∨ (∀ b ∈ s.ring.blocks, b.lbn = lbn.toNat → b.state ≠ .claimed c) →
                exec (.fetch h lbn offset length) s = .next (s.refused .archive h .fetch .notClaimed))
              ∧ ∀ b : Block, s.drain.contexts[c].isSome = true → s.findBlock lbn.toNat = some b → b.state = .claimed c →
                  (b.fillBytes ≤ offset.toNat →
                      exec (.fetch h lbn offset length) s = .next (s.refused .archive h .fetch .badParam))
                    ∧ (offset.toNat < b.fillBytes → s.power.groups[s.groupOf b.lbn].state ≠ .settled .active →
                        exec (.fetch h lbn offset length) s = .next (s.refused .archive h .fetch .asleep))
                    ∧ (offset.toNat < b.fillBytes → s.power.groups[s.groupOf b.lbn].state = .settled .active →
                        exec (.fetch h lbn offset length) s
                          = .next
                              (State.waiting
                                { s with
                                  store :=
                                    { s.store with
                                      archiveQueue :=
                                        s.store.archiveQueue
                                          ++ [{ tag := h.tag, lbn := b.lbn, offset := offset.toNat
                                                length :=
                                                  if length.toNat ≤ b.fillBytes - offset.toNat then length.toNat
                                                  else b.fillBytes - offset.toNat
                                                clamped := decide (b.fillBytes - offset.toNat < length.toNat) }] } }
                                .archive h .fetch .queued)))
    ∧ ∀ (h : Header) (lbn : BitVec 64) (offset length : BitVec 32) (legal : Prop) (s : State), Taken s .viewer h 16 →
        (legal ↔ h.target.toNat ≤ 7 ∧ lbn.toNat ≤ 2 ^ 40 - 1 ∧ offset.toNat % 64 = 0 ∧ length.toNat % 64 = 0
          ∧ 64 ≤ length.toNat ∧ length.toNat ≤ 65536) →
        (¬ legal → exec (.read h lbn offset length) s = .next (s.refused .viewer h .read .badParam))
          ∧ ∀ i : Fin 8, legal → h.target.toNat = i.val →
              (s.pins[i] = none → exec (.read h lbn offset length) s = .next (s.refused .viewer h .read .badParam))
                ∧ ∀ r : PinRange, s.pins[i] = some r →
                    (lbn.toNat < r.first ∨ r.rangeEnd ≤ lbn.toNat →
                        exec (.read h lbn offset length) s = .next (s.refused .viewer h .read .outOfWindow))
                      ∧ ∀ b : Block, r.first ≤ lbn.toNat → lbn.toNat < r.rangeEnd → s.findBlock lbn.toNat = some b →
                          (b.fillBytes ≤ offset.toNat →
                              exec (.read h lbn offset length) s = .next (s.refused .viewer h .read .badParam))
                            ∧ (offset.toNat < b.fillBytes → s.power.groups[s.groupOf b.lbn].state ≠ .settled .active →
                                exec (.read h lbn offset length) s = .next (s.refused .viewer h .read .asleep))
                            ∧ (offset.toNat < b.fillBytes → s.power.groups[s.groupOf b.lbn].state = .settled .active →
                                exec (.read h lbn offset length) s
                                  = .next
                                      (State.waiting
                                        { s with
                                          store :=
                                            { s.store with
                                              viewerQueue :=
                                                s.store.viewerQueue
                                                  ++ [{ tag := h.tag, pin := i, lbn := b.lbn, offset := offset.toNat
                                                        length := length.toNat }] } }
                                        .viewer h .read .queued))

/-- Confirm of a block its context claims makes it Archived, marks the segment when With Loss is yes, re-evaluates the band, and where ArchiveFront has moved
tests the Archive Mark and ends the parked takes whose windows are done with WINDOW_DONE; the response carries ArchiveFront after it. A Confirm that is
refused changes nothing (R109, R119, R126, R127). -/
def Obligations.ConfirmArchives : Prop :=
  ∀ (h : Header) (lbn : BitVec 64) (withLoss : BitVec 8) (s : State), Taken s .archive h 9 →
    (3 < h.target.toNat ∨ 2 ^ 40 - 1 < lbn.toNat ∨ 1 < withLoss.toNat →
        exec (.confirm h lbn withLoss) s = .next (s.refused .archive h .confirm .badParam))
      ∧ ∀ c : Fin 4, h.target.toNat = c.val → lbn.toNat ≤ 2 ^ 40 - 1 → withLoss.toNat ≤ 1 →
          (s.drain.contexts[c] = none ∨ (∀ b ∈ s.ring.blocks, b.lbn = lbn.toNat → b.state ≠ .claimed c) →
              exec (.confirm h lbn withLoss) s = .next (s.refused .archive h .confirm .notClaimed))
            ∧ ∀ b : Block, s.drain.contexts[c].isSome = true → s.findBlock lbn.toNat = some b → b.state = .claimed c →
                ∃ (t : State) (fires : Bool) (ended : ParkedTake → Bool), exec (.confirm h lbn withLoss) s = .next t
                  ∧ t.answers .archive h .confirm .ok (.archiveFront t.archiveFront)
                  ∧ t.ring =
                      { s.ring with
                        blocks := s.ring.blocks.map fun x =>
                          if x.lbn = lbn.toNat then { x with state := .archived } else x
                        band := t.ring.band }
                  ∧ Rebanded s t
                  ∧ t.index =
                      (if withLoss = 1 then
                        s.index.map fun e => if e.number = b.segment then { e with archivedWithLoss := true } else e
                      else s.index)
                  ∧ fires
                      = (s.control.archiveMark.map fun m =>
                          decide (t.archiveFront ≠ s.archiveFront ∧ m ≤ t.archiveFront)).getD false
                  ∧ t.control =
                      { s.control with archiveMark := if fires = true then none else s.control.archiveMark }
                  ∧ (∀ k, ended k
                      = (s.drain.contexts[k.ctx].map fun w =>
                          decide (t.archiveFront ≠ s.archiveFront ∧ w.length ≠ 0 ∧ w.first + w.length ≤ t.archiveFront)).getD
                        false)
                  ∧ t.drain = { s.drain with parkedTakes := s.drain.parkedTakes.filter fun k => !ended k }
                  ∧ (∀ k ∈ s.drain.parkedTakes, ended k = true →
                      ∃ r ∈ t.sent, r.port = .archive ∧ r.tag = k.tag ∧ r.status = .windowDone)
                  ∧ Signalled (s.reached .archive) t
                      (bandEvents s.ring.band t.ring.band ++ if fires = true then [.archiveMark] else []) []
                  ∧ t.unsignalled
                      = State.unsignalled
                          { s with ring := t.ring, index := t.index, control := t.control, drain := t.drain, link := t.link }

/-- Return of a block its context claims makes it Sealed again, or Claimed for the oldest parked take whose window covers it, which completes OK with the Claim
record; ArchiveFront, HoldFloor and Headroom do not change; a Return that is refused changes nothing (R118, R129). -/
def Obligations.ReturnRejoins : Prop :=
  ∀ (h : Header) (lbn : BitVec 64) (s : State), Taken s .archive h 8 →
    (3 < h.target.toNat ∨ 2 ^ 40 - 1 < lbn.toNat →
        exec (.returnBlock h lbn) s = .next (s.refused .archive h .returnBlock .badParam))
      ∧ ∀ c : Fin 4, h.target.toNat = c.val → lbn.toNat ≤ 2 ^ 40 - 1 →
          (s.drain.contexts[c] = none ∨ (∀ b ∈ s.ring.blocks, b.lbn = lbn.toNat → b.state ≠ .claimed c) →
              exec (.returnBlock h lbn) s = .next (s.refused .archive h .returnBlock .notClaimed))
            ∧ ∀ b : Block, RingForm s → s.drain.contexts[c].isSome = true → s.findBlock lbn.toNat = some b →
                b.state = .claimed c →
                ((∀ k ∈ s.drain.parkedTakes, ∀ w ∈ s.drain.contexts[k.ctx], w.covers lbn.toNat = false) →
                    exec (.returnBlock h lbn) s
                      = .next
                          (State.answered
                            { s with
                              ring :=
                                { s.ring with
                                  blocks := s.ring.blocks.map fun x =>
                                    if x.lbn = lbn.toNat then { x with state := .sealed } else x } }
                            .archive h .returnBlock .ok (.served none)))
                  ∧ ∀ (older younger : List ParkedTake) (k : ParkedTake), s.drain.parkedTakes = older ++ k :: younger →
                      (∀ j ∈ older, ∀ w ∈ s.drain.contexts[j.ctx], w.covers lbn.toNat = false) →
                      (∃ w ∈ s.drain.contexts[k.ctx], w.covers lbn.toNat = true) → k ∉ younger →
                      ∃ t, exec (.returnBlock h lbn) s = .next t
                        ∧ t.answers .archive h .returnBlock .ok (.served (some k.ctx))
                        ∧ (∃ r ∈ t.sent, r.port = .archive ∧ r.tag = k.tag ∧ r.status = .ok
                            ∧ ∃ record : ClaimRecord, r.result = .claim record ∧ record.lbn = lbn.toNat
                              ∧ record.segment = b.segment ∧ record.fillBytes = b.fillBytes ∧ record.damaged = b.damaged)
                        ∧ t.archiveFront = s.archiveFront ∧ t.holdFloor = s.holdFloor ∧ t.headroom = s.headroom
                        ∧ Signalled (s.reached .archive) t [] []
                        ∧ t.unsignalled
                            = State.unsignalled
                                { s with
                                  ring :=
                                    { s.ring with
                                      blocks := s.ring.blocks.map fun x =>
                                        if x.lbn = lbn.toNat then { x with state := .claimed k.ctx } else x }
                                  drain := { s.drain with parkedTakes := older ++ younger } }

/-! ## Viewing -/

/-- Pin answers by the first row that matches; one that is taken makes the lowest-numbered Free pin Live with the clamped range, raises the Pin Count of each of
its blocks and re-evaluates the band. Unpin of a Live pin undoes it, and of any other Id is BAD_PARAM. Nothing else changes (R137, R138, R141). -/
def Obligations.PinsAreTakenAndRemoved : Prop :=
  (∀ (h : Header) (first : BitVec 64) (count : BitVec 32) (s : State), Taken s .viewer h 12 →
      (2 ^ 40 - 1 < first.toNat ∨ count.toNat = 0 ∨ 16384 < count.toNat →
          exec (.pin h first count) s = .next (s.refused .viewer h .pin .badParam))
        ∧ (first.toNat ≤ 2 ^ 40 - 1 → 1 ≤ count.toNat → count.toNat ≤ 16384 →
            ((∀ i : Fin 8, s.pins[i].isSome = true) →
                exec (.pin h first count) s = .next (s.refused .viewer h .pin .limit))
              ∧ ∀ i : Fin 8, s.pins[i] = none → (∀ j : Fin 8, j < i → s.pins[j].isSome = true) →
                  (first.toNat + count.toNat ≤ s.ring.tail →
                      exec (.pin h first count) s = .next (s.refused .viewer h .pin .gone))
                    ∧ (s.ring.tail < first.toNat + count.toNat →
                        ∀ r : PinRange, r = { first := max first.toNat s.ring.tail,
                                              rangeEnd := min (first.toNat + count.toNat) s.ring.head } →
                        (r.rangeEnd ≤ r.first →
                            exec (.pin h first count) s = .next (s.refused .viewer h .pin .badParam))
                          ∧ (r.first < r.rangeEnd →
                              ∃ t, exec (.pin h first count) s = .next t
                                ∧ t.answers .viewer h .pin
                                    (if r.first = first.toNat ∧ r.rangeEnd = first.toNat + count.toNat then .ok
                                    else .adjusted)
                                    (.pin i r.first (r.rangeEnd - r.first))
                                ∧ Rebanded s t
                                ∧ Signalled (s.reached .viewer) t (bandEvents s.ring.band t.ring.band) []
                                ∧ t.unsignalled
                                    = State.unsignalled
                                        { s with
                                          pins := s.pins.set i (some r)
                                          ring :=
                                            { s.ring with
                                              blocks := s.ring.blocks.map fun b =>
                                                if r.first ≤ b.lbn ∧ b.lbn < r.rangeEnd then
                                                  { b with pinCount := b.pinCount + 1 }
                                                else b
                                              band := t.ring.band }
                                          link := t.link }))))
    ∧ ∀ (h : Header) (s : State), Taken s .viewer h 0 →
        (7 < h.target.toNat ∨ (∃ i : Fin 8, h.target.toNat = i.val ∧ s.pins[i] = none) →
            exec (.unpin h) s = .next (s.refused .viewer h .unpin .badParam))
          ∧ ∀ (i : Fin 8) (r : PinRange), h.target.toNat = i.val → s.pins[i] = some r →
              ∃ t, exec (.unpin h) s = .next t
                ∧ t.answers .viewer h .unpin .ok (.unpin r.first (r.rangeEnd - r.first))
                ∧ Rebanded s t
                ∧ Signalled (s.reached .viewer) t (bandEvents s.ring.band t.ring.band) []
                ∧ t.unsignalled
                    = State.unsignalled
                        { s with
                          pins := s.pins.set i none
                          ring :=
                            { s.ring with
                              blocks := s.ring.blocks.map fun b =>
                                if r.first ≤ b.lbn ∧ b.lbn < r.rangeEnd then { b with pinCount := b.pinCount - 1 } else b
                              band := t.ring.band }
                          link := t.link }

/-! ## The Store Channel -/

/-- The store byte address of byte b of block n is that of the position n mod C in the group its ring slot maps to, and the addresses of two held blocks are
all different and lie in the 64 GiB of the store (R1, R5). -/
def Obligations.HeldBlocksHaveTheirOwnAddresses : Prop :=
  (∀ (s : State) (n b : Nat), s.storeAddress n b
      = (s.power.groupMap.getD (n % (1024 * s.power.groupMap.length) / 1024) 0).val * 2 ^ 32
        + n % (1024 * s.power.groupMap.length) % 1024 * 2 ^ 22 + b)
    ∧ ∀ s : State, RingForm s → ∀ n m a b : Nat, s.ring.tail ≤ n → n < s.ring.head → s.ring.tail ≤ m → m < s.ring.head →
        a < 2 ^ 22 → b < 2 ^ 22 →
        s.storeAddress n a < 68719476736 ∧ (s.storeAddress n a = s.storeAddress m b → n = m ∧ a = b)

/-- A grant is made only while fewer than three operations are in flight: to the admission request, if one stands, before any read; else in Relaxed to the
class Turn names, if its queue holds a request, and otherwise to the other; in Pressed to the archive, and to the viewer only when the archive queue is empty;
in Critical to the archive alone. A Fetch or a Read that is granted sets Turn to the other class, and is issued with its block's Reads In Flight raised, or
answered GONE or ASLEEP at its grant (R123, R143, R155 to R160). That a grant commanded when it is not due has no effect is the MODEL's choice (assumption
log 5). -/
def Obligations.GrantsFollowTheBand : Prop :=
  (∀ s : State, 3 ≤ s.store.inFlight.length ∨ s.store.admission = false → exec .admissionGrant s = .next s.silent)
    ∧ (∀ (s : State) (due : Prop),
        (due ↔ s.store.inFlight.length < 3 ∧ s.store.admission = false ∧ s.store.archiveQueue ≠ []
          ∧ (s.ring.band = .relaxed → s.store.turn = .archive ∨ s.store.viewerQueue = [])) →
        (¬ due → exec .fetchGrant s = .next s.silent)
          ∧ ∀ (r : FetchRequest) (rest : List FetchRequest), due → s.store.archiveQueue = r :: rest →
              ((∀ b ∈ s.ring.blocks, b.lbn ≠ r.lbn) →
                  exec .fetchGrant s
                    = .next
                        (State.completed { s with store := { s.store with archiveQueue := rest, turn := .viewer } } .archive
                          r.tag .fetch .gone .none []))
                ∧ ((∃ b ∈ s.ring.blocks, b.lbn = r.lbn) → s.power.groups[s.groupOf r.lbn].state ≠ .settled .active →
                    exec .fetchGrant s
                      = .next
                          (State.completed { s with store := { s.store with archiveQueue := rest, turn := .viewer } }
                            .archive r.tag .fetch .asleep .none []))
                ∧ ((∃ b ∈ s.ring.blocks, b.lbn = r.lbn) → s.power.groups[s.groupOf r.lbn].state = .settled .active →
                    exec .fetchGrant s
                      = .next
                          (State.silent
                            { s with
                              ring :=
                                { s.ring with
                                  blocks := s.ring.blocks.map fun x =>
                                    if x.lbn = r.lbn then { x with readsInFlight := x.readsInFlight + 1 } else x }
                              archivePort :=
                                { s.archivePort with
                                  slots := s.archivePort.slots.map fun x =>
                                    if x.tag = r.tag then { x with progress := .issued } else x }
                              store :=
                                { s.store with
                                  archiveQueue := rest
                                  turn := .viewer
                                  inFlight :=
                                    s.store.inFlight
                                      ++ [{ op := .archiveRead r, lbn := r.lbn, group := s.groupOf r.lbn,
                                            address := s.storeAddress r.lbn r.offset, length := r.length,
                                            requester := .request .archive r.tag }] } })))
    ∧ ∀ (s : State) (due : Prop),
        (due ↔ s.store.inFlight.length < 3 ∧ s.store.admission = false ∧ s.store.viewerQueue ≠ [] ∧ s.ring.band ≠ .critical
          ∧ (s.ring.band = .pressed → s.store.archiveQueue = [])
          ∧ (s.ring.band = .relaxed → s.store.turn = .viewer ∨ s.store.archiveQueue = [])) →
        (¬ due → exec .readGrant s = .next s.silent)
          ∧ ∀ (r : ReadRequest) (rest : List ReadRequest), due → s.store.viewerQueue = r :: rest →
              ((∀ b ∈ s.ring.blocks, b.lbn ≠ r.lbn) →
                  exec .readGrant s
                    = .next
                        (State.completed { s with store := { s.store with viewerQueue := rest, turn := .archive } } .viewer
                          r.tag .read .gone .none []))
                ∧ ∀ b : Block, s.findBlock r.lbn = some b →
                    (s.power.groups[s.groupOf r.lbn].state ≠ .settled .active →
                        exec .readGrant s
                          = .next
                              (State.completed { s with store := { s.store with viewerQueue := rest, turn := .archive } }
                                .viewer r.tag .read .asleep .none []))
                      ∧ (s.power.groups[s.groupOf r.lbn].state = .settled .active →
                          exec .readGrant s
                            = .next
                                (State.silent
                                  { s with
                                    ring :=
                                      { s.ring with
                                        blocks := s.ring.blocks.map fun x =>
                                          if x.lbn = r.lbn then { x with readsInFlight := x.readsInFlight + 1 } else x }
                                    viewerPort :=
                                      { s.viewerPort with
                                        slots := s.viewerPort.slots.map fun x =>
                                          if x.tag = r.tag then { x with progress := .issued } else x }
                                    store :=
                                      { s.store with
                                        viewerQueue := rest
                                        turn := .archive
                                        inFlight :=
                                          s.store.inFlight
                                            ++ [{ op := .viewerRead r b.fillBytes (decide (b.state ≠ .filling)),
                                                  lbn := r.lbn, group := s.groupOf r.lbn,
                                                  address := s.storeAddress r.lbn r.offset,
                                                  length :=
                                                    if r.length ≤ b.fillBytes - r.offset then r.length
                                                    else b.fillBytes - r.offset,
                                                  requester := .request .viewer r.tag }] } }))

/-- The completion of the oldest operation, where it ends no drain. A write's payload stands in the store, at its addresses and nowhere else. A read without
an uncorrectable unit delivers the bytes of the store, OK or ADJUSTED, and counts its corrected units; one with such a unit is answered MEDIA_ERROR, marks its
block and segment Damaged, counts one error and raises MediaError; either ends its count in Reads In Flight, and places the admission request again where the
Block Assembler waits on that block; a discarded read answers nothing (R124, R144, R159 to R163). That a write's bytes enter the store, and a read's data are
taken, at the completion (assumption log 14), that a byte with no defined contents is delivered as a free value, of which nothing is said (log 3), and that
a completion of another class has no effect (log 5), are the MODEL's choices. -/
def Obligations.CompletionsDeliver : Prop :=
  (∀ (s : State) (e : InFlight) (rest : List InFlight) (payload : List Byte), s.store.inFlight = e :: rest →
      e.op = .admissionWrite payload → (¬ s.drains e.group ∨ ∃ x ∈ rest, x.group = e.group) →
      ∃ memory : List Host.Cell,
        exec .admissionWriteCompletion s
            = .next (State.silent { s with store := { s.store with inFlight := rest, memory := memory } })
          ∧ ∀ a : Nat, Memory.read memory a =
              if e.address ≤ a ∧ a < e.address + payload.length then payload[a - e.address]? else Memory.read s.store.memory a)
    ∧ (∀ (s : State) (e : InFlight) (rest : List InFlight) (units : List UnitResult) (c : Instr) (kind : RequestKind)
        (clamped : Bool) (result : Result) (checked : List UnitResult),
        s.store.inFlight = e :: rest →
        (∃ r : FetchRequest, e.op = .archiveRead r ∧ c = .fetchCompletion units ∧ kind = .fetch ∧ clamped = r.clamped
            ∧ result = .fetch r.lbn r.offset e.length)
          ∨ (∃ (r : ReadRequest) (fill : Nat) (done : Bool), e.op = .viewerRead r fill done ∧ c = .readCompletion units
              ∧ kind = .read ∧ clamped = decide (e.length < r.length)
              ∧ result = .read r.pin r.lbn r.offset e.length fill done) →
        (¬ s.drains e.group ∨ ∃ x ∈ rest, x.group = e.group) → checked = units.take (e.length / 64) →
        ∀ ended : State,
          ended =
            { s with
              ring :=
                { s.ring with
                  blocks := s.ring.blocks.map fun b =>
                    if b.lbn = e.lbn then { b with readsInFlight := b.readsInFlight - 1 } else b }
              link :=
                { s.link with
                  counts :=
                    { s.link.counts with
                      correctedErrors :=
                        s.link.counts.correctedErrors + BitVec.ofNat 64 (checked.countP fun u => decide (u = .corrected)) } }
              store :=
                { s.store with
                  inFlight := rest
                  readsDone := s.store.readsDone + 1
                  admission :=
                    s.store.admission
                      || (s.assembler.stage.isSome && decide (e.lbn = s.ring.tail)
                        && ((s.findBlock e.lbn).map fun b => decide (b.readsInFlight ≤ 1)).getD false) } } →
          (UnitResult.uncorrectable ∉ checked →
              (e.requester = .discarded → exec c s = .next ended.silent)
                ∧ ∀ (p : Port) (tag : Byte), e.requester = .request p tag →
                    ∃ data : List Byte,
                      exec c s = .next (ended.completed p tag kind (if clamped = true then .adjusted else .ok) result data)
                        ∧ data.length = e.length
                        ∧ ∀ (i : Nat) (v : Byte), i < e.length → Memory.read s.store.memory (e.address + i) = some v →
                            data[i]? = some v)
            ∧ (UnitResult.uncorrectable ∈ checked → ∀ b : Block, s.findBlock e.lbn = some b →
                ∃ t, exec c s = .next t
                  ∧ (∀ (p : Port) (tag : Byte), e.requester = .request p tag →
                      ∃ r ∈ t.sent, r.port = p ∧ r.tag = tag ∧ r.status = .mediaError ∧ r.result = result ∧ r.data = [])
                  ∧ Signalled (s.withoutSlotOf e) t [.mediaError] []
                  ∧ t.unsignalled
                      = State.unsignalled
                          { ended with
                            ring :=
                              { s.ring with
                                blocks := s.ring.blocks.map fun b =>
                                  if b.lbn = e.lbn then { b with readsInFlight := b.readsInFlight - 1, damaged := true }
                                  else b }
                            index := s.index.map fun x => if x.number = b.segment then { x with damaged := true } else x
                            link :=
                              { ended.link with
                                counts :=
                                  { ended.link.counts with
                                    uncorrectableErrors := s.link.counts.uncorrectableErrors + 1 } } }))
    ∧ ∀ (s : State) (units : List UnitResult),
        ((∀ e ∈ s.store.inFlight.head?, ∀ d, e.op ≠ .admissionWrite d) →
            exec .admissionWriteCompletion s = .next s.silent)
          ∧ ((∀ e ∈ s.store.inFlight.head?, ∀ r, e.op ≠ .archiveRead r) →
              exec (.fetchCompletion units) s = .next s.silent)
          ∧ ((∀ e ∈ s.store.inFlight.head?, ∀ r fill done, e.op ≠ .viewerRead r fill done) →
              exec (.readCompletion units) s = .next s.silent)

/-- The completion that leaves no operation in flight on a group in Draining ends that phase in its act: a change to Retain begins its 200 µs, a change to Off
settles, which loses the group's contents and raises GroupsSettled when no other group is Changing. All that the completion does otherwise it does here too: the
write's payload stands in the store, the read is answered, marks its block and segment where it fails, counts, and ends its count in Reads In Flight (R124, R144,
R159 to R163, R170 to R172). Logs 3 and 14 are the MODEL's choices here as well. -/
def Obligations.CompletionsEndADrain : Prop :=
  ∀ (s : State) (e : InFlight) (rest : List InFlight) (units : List UnitResult) (c : Instr),
    s.store.inFlight = e :: rest →
    ((∃ d, e.op = .admissionWrite d) ∧ c = .admissionWriteCompletion)
      ∨ ((∃ r, e.op = .archiveRead r) ∧ c = .fetchCompletion units)
      ∨ ((∃ r fill done, e.op = .viewerRead r fill done) ∧ c = .readCompletion units) →
    (∀ x ∈ rest, x.group ≠ e.group) →
    ∃ (t : State) (failed : List Event), exec c s = .next t ∧ t.store.inFlight = rest
      ∧ failed = (if e.isRead = true ∧ UnitResult.uncorrectable ∈ units.take (e.length / 64) then [.mediaError] else [])
      ∧ (s.power.groups[e.group].state = .changing .active .retain .draining →
          Signalled (s.withoutSlotOf e) t failed []
            ∧ t.power =
                { s.power with
                  groups :=
                    s.power.groups.set e.group
                      { s.power.groups[e.group] with state := .changing .active .retain (.timing 200) } })
      ∧ (s.power.groups[e.group].state = .changing .active .off .draining →
          Signalled (s.withoutSlotOf e) t (failed ++ if s.changingGroups = [e.group] then [.groupsSettled] else []) []
            ∧ t.power =
                { s.power with
                  groups := s.power.groups.set e.group { s.power.groups[e.group] with state := .settled .off } }
            ∧ ∀ a : Nat, e.group.val * groupBytes ≤ a → a < (e.group.val + 1) * groupBytes →
                Memory.read t.store.memory a = none)
      ∧ (s.power.groups[e.group].state = .changing .active .retain .draining
            ∨ s.power.groups[e.group].state = .changing .active .off .draining →
          (e.isRead = false ∨ (∀ p tag, e.requester ≠ .request p tag) →
              ∀ r ∈ t.sent, r.kind = RequestKind.code .wait)
            ∧ (∀ a : Nat, t.power.groups[e.group].state ≠ .settled .off
                  ∨ a < e.group.val * groupBytes ∨ (e.group.val + 1) * groupBytes ≤ a →
                Memory.read t.store.memory a =
                  match e.op with
                  | .admissionWrite payload =>
                    if e.address ≤ a ∧ a < e.address + payload.length then payload[a - e.address]? else Memory.read s.store.memory a
                  | .archiveRead _ => Memory.read s.store.memory a
                  | .viewerRead _ _ _ => Memory.read s.store.memory a)
            ∧ ((∃ payload, e.op = .admissionWrite payload) →
                t.unsignalled
                  = State.unsignalled
                      { s with
                        power := t.power
                        store := { s.store with inFlight := rest, memory := t.store.memory } })
            ∧ ∀ checked : List UnitResult, e.isRead = true → checked = units.take (e.length / 64) →
                (UnitResult.uncorrectable ∉ checked →
                    t.unsignalled
                      = State.unsignalled
                          { s.readEnded e checked with
                            power := t.power
                            store := { (s.readEnded e checked).store with memory := t.store.memory } })
                  ∧ (UnitResult.uncorrectable ∈ checked → ∀ b : Block, s.findBlock e.lbn = some b →
                      t.unsignalled
                        = State.unsignalled
                            { (s.readEnded e checked).markedDamaged b with
                              power := t.power
                              store := { (s.readEnded e checked).store with memory := t.store.memory } })
                  ∧ ∀ (p : Port) (tag : Byte) (kind : RequestKind) (clamped : Bool) (result : Result),
                      e.requester = .request p tag →
                      (∃ r : FetchRequest, e.op = .archiveRead r ∧ kind = .fetch ∧ clamped = r.clamped
                          ∧ result = .fetch r.lbn r.offset e.length)
                        ∨ (∃ (r : ReadRequest) (fill : Nat) (done : Bool), e.op = .viewerRead r fill done ∧ kind = .read
                            ∧ clamped = decide (e.length < r.length)
                            ∧ result = .read r.pin r.lbn r.offset e.length fill done) →
                      ∃ r ∈ t.sent, r.port = p ∧ r.tag = tag ∧ r.kind = kind.code ∧ r.result = result
                        ∧ (UnitResult.uncorrectable ∈ checked → r.status = .mediaError ∧ r.data = [])
                        ∧ (UnitResult.uncorrectable ∉ checked →
                            r.status = (if clamped = true then .adjusted else .ok) ∧ r.data.length = e.length
                              ∧ ∀ (i : Nat) (v : Byte), i < e.length →
                                  Memory.read s.store.memory (e.address + i) = some v → r.data[i]? = some v))

/-! ## Sync flags and notices -/

/-- SetFlagSource replaces the Source of a flag its port selects and leaves its Value and waits; ClearFlag makes any flag Clear and leaves its waits; a refused
request changes nothing (R183, R186). -/
def Obligations.FlagSourceAndClear : Prop :=
  (∀ (p : Port) (h : Header) (source : BitVec 8) (s : State), Taken s p h 1 →
      (7 < h.target.toNat ∨ 9 < source.toNat →
          exec (.setFlagSource p h source) s = .next (s.refused p h .setFlagSource .badParam))
        ∧ ∀ i : Fin 8, h.target.toNat = i.val → source.toNat ≤ 9 →
            ((p = .archive ∧ i.val ≤ 3) ∨ (p = .viewer ∧ 4 ≤ i.val) →
                exec (.setFlagSource p h source) s = .next (s.refused p h .setFlagSource .unsupported))
              ∧ ((p = .viewer ∧ i.val ≤ 3) ∨ (p = .archive ∧ 4 ≤ i.val) →
                  ∀ src : FlagSource,
                    [FlagSource.none, .segmentClosed, .blockSealed, .bandPressedOrCritical, .bandRelaxed, .headMark,
                        .archiveMark, .captureStopped, .mediaError, .groupsSettled][source.toNat]? = some src →
                    exec (.setFlagSource p h source) s
                      = .next
                          (State.answered { s with flags := s.flags.set i { s.flags[i] with source := src } } p h
                            .setFlagSource .ok (.flagSource s.flags[i].source src))))
    ∧ ∀ (p : Port) (h : Header) (s : State), Taken s p h 0 →
        (7 < h.target.toNat → exec (.clearFlag p h) s = .next (s.refused p h .clearFlag .badParam))
          ∧ ∀ i : Fin 8, h.target.toNat = i.val →
              exec (.clearFlag p h) s
                = .next
                    (State.answered { s with flags := s.flags.set i { s.flags[i] with value := false } } p h .clearFlag .ok
                      (.wasSet s.flags[i].value))

/-- Post sets a Clear flag and serves its waits, and answers with the number served and the Value after it. Wait is answered at once on a Set flag, which a
Consume clears, is refused LIMIT behind four parked waits, and else parks. The time of a parked wait with a Timeout runs out with TIMED_OUT, and no Value and
no other wait changes (R185, R187, R189). That a refused Wait carries no result fields (assumption log 11), and that a timeout commanded of no such wait has no
effect (log 5), are the MODEL's choices. -/
def Obligations.PostAndWaitUseTheFlag : Prop :=
  (∀ (p : Port) (h : Header) (s : State), Taken s p h 0 →
      (7 < h.target.toNat → exec (.post p h) s = .next (s.refused p h .post .badParam))
        ∧ ∀ i : Fin 8, h.target.toNat = i.val →
            (s.flags[i].value = true →
                exec (.post p h) s = .next (s.answered p h .post .ok (.posted 0 true)))
              ∧ (s.flags[i].value = false →
                  ∃ t, exec (.post p h) s = .next t
                    ∧ t.answers p h .post .ok
                        (.posted (serveWaits s.flags[i].waits).served.length (serveWaits s.flags[i].waits).value)
                    ∧ t.flags = s.flags.set i s.flags[i].afterSet
                    ∧ (∀ d ∈ (serveWaits s.flags[i].waits).served,
                        ∃ r ∈ t.sent, r.port = d.1.port ∧ r.tag = d.1.tag ∧ r.status = .ok
                          ∧ r.result = .waited i d.1.mode d.2)
                    ∧ (∀ q : Port, (t.port q).notices = (s.port q).notices)
                    ∧ SlotsKept (s.reached p) t
                    ∧ t.unsignalled = s.unsignalled))
    ∧ (∀ (p : Port) (h : Header) (mode : BitVec 8) (timeout : BitVec 32) (s : State), Taken s p h 5 →
        (7 < h.target.toNat ∨ 1 < mode.toNat ∨ 65535 < timeout.toNat →
            exec (.wait p h mode timeout) s = .next (s.refused p h .wait .badParam))
          ∧ ∀ (i : Fin 8) (m : WaitMode), h.target.toNat = i.val → timeout.toNat ≤ 65535 →
              (mode = 0 ∧ m = .consume) ∨ (mode = 1 ∧ m = .peek) →
              (s.flags[i].value = true → m = .peek →
                  exec (.wait p h mode timeout) s = .next (s.answered p h .wait .ok (.waited i .peek true)))
                ∧ (s.flags[i].value = true → m = .consume →
                    exec (.wait p h mode timeout) s
                      = .next
                          (State.answered { s with flags := s.flags.set i { s.flags[i] with value := false } } p h .wait .ok
                            (.waited i .consume false)))
                ∧ (s.flags[i].value = false → 4 ≤ s.flags[i].waits.length →
                    exec (.wait p h mode timeout) s = .next (s.refused p h .wait .limit))
                ∧ (s.flags[i].value = false → s.flags[i].waits.length < 4 →
                    exec (.wait p h mode timeout) s
                      = .next
                          (State.waiting
                            { s with
                              flags :=
                                s.flags.set i
                                  { s.flags[i] with
                                    waits :=
                                      s.flags[i].waits
                                        ++ [{ port := p, tag := h.tag, mode := m, timeout := timeout.toNat
                                              timeLeft := if timeout.toNat = 0 then none else some timeout.toNat }] } }
                            p h .wait .parked)))
    ∧ ∀ (i : Fin 8) (p : Port) (tag : Byte) (s : State),
        ((∀ w ∈ s.flags[i].waits, w.port = p → w.tag = tag → w.timeLeft = none) →
            exec (.waitTimeout i p tag) s = .next s.silent)
          ∧ ∀ w ∈ s.flags[i].waits, w.port = p → w.tag = tag → w.timeLeft.isSome = true →
              (∀ x ∈ s.flags[i].waits, x.port = p → x.tag = tag → x = w) →
              exec (.waitTimeout i p tag) s
                = .next
                    (State.completed
                      { s with
                        flags := s.flags.set i { s.flags[i] with waits := s.flags[i].waits.filter fun x => x ≠ w } }
                      p tag .wait .timedOut (.waited i w.mode s.flags[i].value) [])

/-- Setting a Clear flag completes its parked waits in arrival order, every Peek wait ahead of the oldest Consume wait and that one, which leaves the flag
Clear; without one the flag ends Set and empty. A raised event sets, in one act, every flag whose Source names it, answers each wait served OK, joins its kind
to both Pending sets, and changes nothing else (R184, R188, R191). -/
def Obligations.EventsSetFlagsAndServeWaits : Prop :=
  (∀ peeks : List ParkedWait, (∀ w ∈ peeks, w.mode = .peek) →
      serveWaits peeks = { served := peeks.map fun w => (w, true), kept := [], value := true }
        ∧ ∀ (w : ParkedWait) (rest : List ParkedWait), w.mode = .consume →
            serveWaits (peeks ++ w :: rest)
              = { served := (peeks.map fun x => (x, true)) ++ [(w, false)], kept := rest, value := false })
    ∧ ∀ (s : State) (e : Event),
        Signalled s (s.raise e) [e] [] ∧ (s.raise e).unsignalled = s.unsignalled
          ∧ ∀ i : Fin 8, s.flags[i].source = e.source → s.flags[i].value = false →
              ∀ d ∈ (serveWaits s.flags[i].waits).served,
                ∃ r ∈ (s.raise e).sent, r.port = d.1.port ∧ r.tag = d.1.tag ∧ r.status = .ok
                  ∧ r.result = .waited i d.1.mode d.2

/-- SetNoticeMask replaces the Mask, ClearNotice takes kinds from the Pending set and ForceNotice joins kinds to it, in the port's own Notice Unit alone; the
notice line follows, and the response carries the Pending set and the Mask after the request; a set naming a number outside 0..12 is BAD_PARAM (R192,
R193). -/
def Obligations.NoticeRequestsManageTheirOwnUnit : Prop :=
  ∀ (p : Port) (h : Header) (kinds : BitVec 16) (s : State) (c : Instr) (kind : RequestKind) (pending mask : NoticeSet),
    Taken s p h 2 →
    (c = .setNoticeMask p h kinds ∧ kind = .setNoticeMask ∧ pending = (s.port p).notices.pending ∧ mask = kinds.setWidth 13)
      ∨ (c = .clearNotice p h kinds ∧ kind = .clearNotice
          ∧ pending = (s.port p).notices.pending &&& ~~~(kinds.setWidth 13) ∧ mask = (s.port p).notices.mask)
      ∨ (c = .forceNotice p h kinds ∧ kind = .forceNotice
          ∧ pending = (s.port p).notices.pending ||| kinds.setWidth 13 ∧ mask = (s.port p).notices.mask) →
    (2 ^ 13 ≤ kinds.toNat → exec c s = .next (s.refused p h kind .badParam))
      ∧ (kinds.toNat < 2 ^ 13 →
          exec c s
            = .next
                (State.answered
                  (s.mapPort p fun q =>
                    { q with
                      notices := { pending := pending, mask := mask, line := decide (pending &&& mask ≠ 0) } })
                  p h kind .ok (.notices pending mask)))

/-! ## What every step keeps -/

/-- After every act the frames received are those disposed of and those held, and at most 64 are held; so the counters and the occupancy of one ReadCounts
response satisfy the equation (R46). -/
def Obligations.EveryStepKeepsTheFrameBalance : Prop :=
  ∀ s t : State, FramesBalance s → step s = .next t → FramesBalance t

/-- Every step keeps Capture Control consistent: Capture Enable with the capture state, a stop reason in Stopped alone, a Stopping reason in Stopping alone, and an
Orderly halt and a pending swap in Running and Stopping alone (R41, R90, R95, R96). -/
def Obligations.EveryStepKeepsCaptureConsistent : Prop :=
  ∀ s t : State, ControlForm s → step s = .next t → ControlForm t

/-- Every step keeps the ring and the Block Assembler in form: the held blocks are those of [Tail, Head), at most C of them, only Head − 1 fills, and intake, the
open segment and the working that waits agree with the capture state (R3, R6, R7, R39, R48, R59, R90, R98). -/
def Obligations.EveryStepKeepsTheRingInForm : Prop :=
  ∀ s t : State, RingForm s → AssemblyForm s → step s = .next t → RingForm t ∧ AssemblyForm t

/-- Every step keeps the Segment Index in form: consecutive numbers, at most 4,096 entries, only the newest open, the held blocks covered in order and without
overlap, and every Total Points Lost the sum of its Gap List (R61, R75, R79). -/
def Obligations.EveryStepKeepsTheIndexInForm : Prop :=
  ∀ s t : State, RingForm s → AssemblyForm s → IndexForm s → GapForm s → step s = .next t → IndexForm t ∧ GapForm t

/-- Every step keeps every Pin Count the number of Live pins over its block, and the blocks of a Live pin held (R136, R139). -/
def Obligations.EveryStepKeepsPinnedBlocksHeld : Prop :=
  ∀ s t : State, RingForm s → AssemblyForm s → PinForm s → step s = .next t → PinForm t

/-- Every step keeps the Store Channel in form: at most three operations in flight, every Reads In Flight the number of reads in flight of its block, which is
held, the store's contents in canonical form, and a frame at the front either requesting or waiting on a read at the Tail (R6, R18, R152, R160). -/
def Obligations.EveryStepKeepsTheStoreInForm : Prop :=
  ∀ s t : State, RingForm s → AssemblyForm s → StoreForm s → step s = .next t → StoreForm t

/-- Every step keeps the drain contexts in form: at most 8 claims and none while Closed, one parked take at most, of an Open context whose window covers no block of
the drain order and is not done, and none in Stopped (R111, R113, R117, R120). -/
def Obligations.EveryStepKeepsTheDrainInForm : Prop :=
  ∀ s t : State, RingForm s → AssemblyForm s → DrainForm s → step s = .next t → DrainForm t

/-- Every step keeps the bank groups in form: every mapped group Active while capture is Running or Stopping, every change a legal one, no operation in flight on a
group that may hold none, and no defined contents in a group that is Off (R91, R158, R166, R170, R171). -/
def Obligations.EveryStepKeepsThePowerInForm : Prop :=
  ∀ s t : State, RingForm s → AssemblyForm s → PowerForm s → step s = .next t → PowerForm t

/-- Every step keeps the ports and flags in form: at most 16 slots with tags of their own, occupied exactly by the requests that park, are queued or are in flight,
each notice line asserted exactly while a kind is pending and enabled, and no parked wait on a Set flag nor more than four on any (R163, R182, R193, R196). -/
def Obligations.EveryStepKeepsPortsAndFlagsInForm : Prop :=
  ∀ s t : State, SignalForm s → step s = .next t → SignalForm t ∧ (SlotForm s → SlotForm t)

/-- The state after device reset (R29, R47, R73, R89, R101, R110, R135, R150, R152, R181, R190, R194, R196) has every form; that the links are up and Halt is
released in it is the MODEL's choice (assumption log 2). -/
def Obligations.ResetHasEveryForm : Prop :=
  FramesBalance State.reset ∧ ControlForm State.reset ∧ RingForm State.reset ∧ AssemblyForm State.reset ∧ IndexForm State.reset
    ∧ GapForm State.reset ∧ PinForm State.reset ∧ StoreForm State.reset ∧ DrainForm State.reset ∧ PowerForm State.reset
    ∧ SignalForm State.reset ∧ SlotForm State.reset ∧ BandForm State.reset
end

