-- ==== Sys2Proof/Laws/State.lean ====
section
/-!
SUPPORT. What each update of the state does to each field: one lemma per field per update, so that no proof unfolds a record update.
-/
namespace Sys2Proof.Machine

/-! ## `State.mapControl` -/

@[simp] theorem State.mapControl_ring (s : State) (f : Control → Control) :
    (s.mapControl f).ring = s.ring := rfl

@[simp] theorem State.mapControl_link (s : State) (f : Control → Control) :
    (s.mapControl f).link = s.link := rfl

@[simp] theorem State.mapControl_assembler (s : State) (f : Control → Control) :
    (s.mapControl f).assembler = s.assembler := rfl

@[simp] theorem State.mapControl_index (s : State) (f : Control → Control) :
    (s.mapControl f).index = s.index := rfl

@[simp] theorem State.mapControl_control (s : State) (f : Control → Control) :
    (s.mapControl f).control = f s.control := rfl

@[simp] theorem State.mapControl_drain (s : State) (f : Control → Control) :
    (s.mapControl f).drain = s.drain := rfl

@[simp] theorem State.mapControl_pins (s : State) (f : Control → Control) :
    (s.mapControl f).pins = s.pins := rfl

@[simp] theorem State.mapControl_store (s : State) (f : Control → Control) :
    (s.mapControl f).store = s.store := rfl

@[simp] theorem State.mapControl_power (s : State) (f : Control → Control) :
    (s.mapControl f).power = s.power := rfl

@[simp] theorem State.mapControl_flags (s : State) (f : Control → Control) :
    (s.mapControl f).flags = s.flags := rfl

@[simp] theorem State.mapControl_viewerPort (s : State) (f : Control → Control) :
    (s.mapControl f).viewerPort = s.viewerPort := rfl

@[simp] theorem State.mapControl_archivePort (s : State) (f : Control → Control) :
    (s.mapControl f).archivePort = s.archivePort := rfl

@[simp] theorem State.mapControl_sent (s : State) (f : Control → Control) :
    (s.mapControl f).sent = s.sent := rfl

@[simp] theorem State.mapControl_pending (s : State) (f : Control → Control) :
    (s.mapControl f).pending = s.pending := rfl

/-! ## `State.mapAssembler` -/

@[simp] theorem State.mapAssembler_ring (s : State) (f : Assembler → Assembler) :
    (s.mapAssembler f).ring = s.ring := rfl

@[simp] theorem State.mapAssembler_link (s : State) (f : Assembler → Assembler) :
    (s.mapAssembler f).link = s.link := rfl

@[simp] theorem State.mapAssembler_assembler (s : State) (f : Assembler → Assembler) :
    (s.mapAssembler f).assembler = f s.assembler := rfl

@[simp] theorem State.mapAssembler_index (s : State) (f : Assembler → Assembler) :
    (s.mapAssembler f).index = s.index := rfl

@[simp] theorem State.mapAssembler_control (s : State) (f : Assembler → Assembler) :
    (s.mapAssembler f).control = s.control := rfl

@[simp] theorem State.mapAssembler_drain (s : State) (f : Assembler → Assembler) :
    (s.mapAssembler f).drain = s.drain := rfl

@[simp] theorem State.mapAssembler_pins (s : State) (f : Assembler → Assembler) :
    (s.mapAssembler f).pins = s.pins := rfl

@[simp] theorem State.mapAssembler_store (s : State) (f : Assembler → Assembler) :
    (s.mapAssembler f).store = s.store := rfl

@[simp] theorem State.mapAssembler_power (s : State) (f : Assembler → Assembler) :
    (s.mapAssembler f).power = s.power := rfl

@[simp] theorem State.mapAssembler_flags (s : State) (f : Assembler → Assembler) :
    (s.mapAssembler f).flags = s.flags := rfl

@[simp] theorem State.mapAssembler_viewerPort (s : State) (f : Assembler → Assembler) :
    (s.mapAssembler f).viewerPort = s.viewerPort := rfl

@[simp] theorem State.mapAssembler_archivePort (s : State) (f : Assembler → Assembler) :
    (s.mapAssembler f).archivePort = s.archivePort := rfl

@[simp] theorem State.mapAssembler_sent (s : State) (f : Assembler → Assembler) :
    (s.mapAssembler f).sent = s.sent := rfl

@[simp] theorem State.mapAssembler_pending (s : State) (f : Assembler → Assembler) :
    (s.mapAssembler f).pending = s.pending := rfl

/-! ## `State.mapLink` -/

@[simp] theorem State.mapLink_ring (s : State) (f : Link → Link) :
    (s.mapLink f).ring = s.ring := rfl

@[simp] theorem State.mapLink_link (s : State) (f : Link → Link) :
    (s.mapLink f).link = f s.link := rfl

@[simp] theorem State.mapLink_assembler (s : State) (f : Link → Link) :
    (s.mapLink f).assembler = s.assembler := rfl

@[simp] theorem State.mapLink_index (s : State) (f : Link → Link) :
    (s.mapLink f).index = s.index := rfl

@[simp] theorem State.mapLink_control (s : State) (f : Link → Link) :
    (s.mapLink f).control = s.control := rfl

@[simp] theorem State.mapLink_drain (s : State) (f : Link → Link) :
    (s.mapLink f).drain = s.drain := rfl

@[simp] theorem State.mapLink_pins (s : State) (f : Link → Link) :
    (s.mapLink f).pins = s.pins := rfl

@[simp] theorem State.mapLink_store (s : State) (f : Link → Link) :
    (s.mapLink f).store = s.store := rfl

@[simp] theorem State.mapLink_power (s : State) (f : Link → Link) :
    (s.mapLink f).power = s.power := rfl

@[simp] theorem State.mapLink_flags (s : State) (f : Link → Link) :
    (s.mapLink f).flags = s.flags := rfl

@[simp] theorem State.mapLink_viewerPort (s : State) (f : Link → Link) :
    (s.mapLink f).viewerPort = s.viewerPort := rfl

@[simp] theorem State.mapLink_archivePort (s : State) (f : Link → Link) :
    (s.mapLink f).archivePort = s.archivePort := rfl

@[simp] theorem State.mapLink_sent (s : State) (f : Link → Link) :
    (s.mapLink f).sent = s.sent := rfl

@[simp] theorem State.mapLink_pending (s : State) (f : Link → Link) :
    (s.mapLink f).pending = s.pending := rfl

/-! ## `State.mapStore` -/

@[simp] theorem State.mapStore_ring (s : State) (f : Store → Store) :
    (s.mapStore f).ring = s.ring := rfl

@[simp] theorem State.mapStore_link (s : State) (f : Store → Store) :
    (s.mapStore f).link = s.link := rfl

@[simp] theorem State.mapStore_assembler (s : State) (f : Store → Store) :
    (s.mapStore f).assembler = s.assembler := rfl

@[simp] theorem State.mapStore_index (s : State) (f : Store → Store) :
    (s.mapStore f).index = s.index := rfl

@[simp] theorem State.mapStore_control (s : State) (f : Store → Store) :
    (s.mapStore f).control = s.control := rfl

@[simp] theorem State.mapStore_drain (s : State) (f : Store → Store) :
    (s.mapStore f).drain = s.drain := rfl

@[simp] theorem State.mapStore_pins (s : State) (f : Store → Store) :
    (s.mapStore f).pins = s.pins := rfl

@[simp] theorem State.mapStore_store (s : State) (f : Store → Store) :
    (s.mapStore f).store = f s.store := rfl

@[simp] theorem State.mapStore_power (s : State) (f : Store → Store) :
    (s.mapStore f).power = s.power := rfl

@[simp] theorem State.mapStore_flags (s : State) (f : Store → Store) :
    (s.mapStore f).flags = s.flags := rfl

@[simp] theorem State.mapStore_viewerPort (s : State) (f : Store → Store) :
    (s.mapStore f).viewerPort = s.viewerPort := rfl

@[simp] theorem State.mapStore_archivePort (s : State) (f : Store → Store) :
    (s.mapStore f).archivePort = s.archivePort := rfl

@[simp] theorem State.mapStore_sent (s : State) (f : Store → Store) :
    (s.mapStore f).sent = s.sent := rfl

@[simp] theorem State.mapStore_pending (s : State) (f : Store → Store) :
    (s.mapStore f).pending = s.pending := rfl

/-! ## `State.mapRing` -/

@[simp] theorem State.mapRing_ring (s : State) (f : Ring → Ring) :
    (s.mapRing f).ring = f s.ring := rfl

@[simp] theorem State.mapRing_link (s : State) (f : Ring → Ring) :
    (s.mapRing f).link = s.link := rfl

@[simp] theorem State.mapRing_assembler (s : State) (f : Ring → Ring) :
    (s.mapRing f).assembler = s.assembler := rfl

@[simp] theorem State.mapRing_index (s : State) (f : Ring → Ring) :
    (s.mapRing f).index = s.index := rfl

@[simp] theorem State.mapRing_control (s : State) (f : Ring → Ring) :
    (s.mapRing f).control = s.control := rfl

@[simp] theorem State.mapRing_drain (s : State) (f : Ring → Ring) :
    (s.mapRing f).drain = s.drain := rfl

@[simp] theorem State.mapRing_pins (s : State) (f : Ring → Ring) :
    (s.mapRing f).pins = s.pins := rfl

@[simp] theorem State.mapRing_store (s : State) (f : Ring → Ring) :
    (s.mapRing f).store = s.store := rfl

@[simp] theorem State.mapRing_power (s : State) (f : Ring → Ring) :
    (s.mapRing f).power = s.power := rfl

@[simp] theorem State.mapRing_flags (s : State) (f : Ring → Ring) :
    (s.mapRing f).flags = s.flags := rfl

@[simp] theorem State.mapRing_viewerPort (s : State) (f : Ring → Ring) :
    (s.mapRing f).viewerPort = s.viewerPort := rfl

@[simp] theorem State.mapRing_archivePort (s : State) (f : Ring → Ring) :
    (s.mapRing f).archivePort = s.archivePort := rfl

@[simp] theorem State.mapRing_sent (s : State) (f : Ring → Ring) :
    (s.mapRing f).sent = s.sent := rfl

@[simp] theorem State.mapRing_pending (s : State) (f : Ring → Ring) :
    (s.mapRing f).pending = s.pending := rfl

/-! ## `State.mapDrain` -/

@[simp] theorem State.mapDrain_ring (s : State) (f : Drain → Drain) :
    (s.mapDrain f).ring = s.ring := rfl

@[simp] theorem State.mapDrain_link (s : State) (f : Drain → Drain) :
    (s.mapDrain f).link = s.link := rfl

@[simp] theorem State.mapDrain_assembler (s : State) (f : Drain → Drain) :
    (s.mapDrain f).assembler = s.assembler := rfl

@[simp] theorem State.mapDrain_index (s : State) (f : Drain → Drain) :
    (s.mapDrain f).index = s.index := rfl

@[simp] theorem State.mapDrain_control (s : State) (f : Drain → Drain) :
    (s.mapDrain f).control = s.control := rfl

@[simp] theorem State.mapDrain_drain (s : State) (f : Drain → Drain) :
    (s.mapDrain f).drain = f s.drain := rfl

@[simp] theorem State.mapDrain_pins (s : State) (f : Drain → Drain) :
    (s.mapDrain f).pins = s.pins := rfl

@[simp] theorem State.mapDrain_store (s : State) (f : Drain → Drain) :
    (s.mapDrain f).store = s.store := rfl

@[simp] theorem State.mapDrain_power (s : State) (f : Drain → Drain) :
    (s.mapDrain f).power = s.power := rfl

@[simp] theorem State.mapDrain_flags (s : State) (f : Drain → Drain) :
    (s.mapDrain f).flags = s.flags := rfl

@[simp] theorem State.mapDrain_viewerPort (s : State) (f : Drain → Drain) :
    (s.mapDrain f).viewerPort = s.viewerPort := rfl

@[simp] theorem State.mapDrain_archivePort (s : State) (f : Drain → Drain) :
    (s.mapDrain f).archivePort = s.archivePort := rfl

@[simp] theorem State.mapDrain_sent (s : State) (f : Drain → Drain) :
    (s.mapDrain f).sent = s.sent := rfl

@[simp] theorem State.mapDrain_pending (s : State) (f : Drain → Drain) :
    (s.mapDrain f).pending = s.pending := rfl

/-! ## `State.count` -/

@[simp] theorem State.count_ring (s : State) (f : StreamCounts → StreamCounts) :
    (s.count f).ring = s.ring := rfl

@[simp] theorem State.count_link (s : State) (f : StreamCounts → StreamCounts) :
    (s.count f).link = { s.link with counts := f s.link.counts } := rfl

@[simp] theorem State.count_assembler (s : State) (f : StreamCounts → StreamCounts) :
    (s.count f).assembler = s.assembler := rfl

@[simp] theorem State.count_index (s : State) (f : StreamCounts → StreamCounts) :
    (s.count f).index = s.index := rfl

@[simp] theorem State.count_control (s : State) (f : StreamCounts → StreamCounts) :
    (s.count f).control = s.control := rfl

@[simp] theorem State.count_drain (s : State) (f : StreamCounts → StreamCounts) :
    (s.count f).drain = s.drain := rfl

@[simp] theorem State.count_pins (s : State) (f : StreamCounts → StreamCounts) :
    (s.count f).pins = s.pins := rfl

@[simp] theorem State.count_store (s : State) (f : StreamCounts → StreamCounts) :
    (s.count f).store = s.store := rfl

@[simp] theorem State.count_power (s : State) (f : StreamCounts → StreamCounts) :
    (s.count f).power = s.power := rfl

@[simp] theorem State.count_flags (s : State) (f : StreamCounts → StreamCounts) :
    (s.count f).flags = s.flags := rfl

@[simp] theorem State.count_viewerPort (s : State) (f : StreamCounts → StreamCounts) :
    (s.count f).viewerPort = s.viewerPort := rfl

@[simp] theorem State.count_archivePort (s : State) (f : StreamCounts → StreamCounts) :
    (s.count f).archivePort = s.archivePort := rfl

@[simp] theorem State.count_sent (s : State) (f : StreamCounts → StreamCounts) :
    (s.count f).sent = s.sent := rfl

@[simp] theorem State.count_pending (s : State) (f : StreamCounts → StreamCounts) :
    (s.count f).pending = s.pending := rfl

/-! ## `State.mapOpen` -/

@[simp] theorem State.mapOpen_ring (s : State) (f : Entry → Entry) :
    (s.mapOpen f).ring = s.ring := rfl

@[simp] theorem State.mapOpen_link (s : State) (f : Entry → Entry) :
    (s.mapOpen f).link = s.link := rfl

@[simp] theorem State.mapOpen_assembler (s : State) (f : Entry → Entry) :
    (s.mapOpen f).assembler = s.assembler := rfl

@[simp] theorem State.mapOpen_index (s : State) (f : Entry → Entry) :
    (s.mapOpen f).index = s.index.map fun e => if e.isOpen then f e else e := rfl

@[simp] theorem State.mapOpen_control (s : State) (f : Entry → Entry) :
    (s.mapOpen f).control = s.control := rfl

@[simp] theorem State.mapOpen_drain (s : State) (f : Entry → Entry) :
    (s.mapOpen f).drain = s.drain := rfl

@[simp] theorem State.mapOpen_pins (s : State) (f : Entry → Entry) :
    (s.mapOpen f).pins = s.pins := rfl

@[simp] theorem State.mapOpen_store (s : State) (f : Entry → Entry) :
    (s.mapOpen f).store = s.store := rfl

@[simp] theorem State.mapOpen_power (s : State) (f : Entry → Entry) :
    (s.mapOpen f).power = s.power := rfl

@[simp] theorem State.mapOpen_flags (s : State) (f : Entry → Entry) :
    (s.mapOpen f).flags = s.flags := rfl

@[simp] theorem State.mapOpen_viewerPort (s : State) (f : Entry → Entry) :
    (s.mapOpen f).viewerPort = s.viewerPort := rfl

@[simp] theorem State.mapOpen_archivePort (s : State) (f : Entry → Entry) :
    (s.mapOpen f).archivePort = s.archivePort := rfl

@[simp] theorem State.mapOpen_sent (s : State) (f : Entry → Entry) :
    (s.mapOpen f).sent = s.sent := rfl

@[simp] theorem State.mapOpen_pending (s : State) (f : Entry → Entry) :
    (s.mapOpen f).pending = s.pending := rfl

/-! ## `State.mapEntry` -/

@[simp] theorem State.mapEntry_ring (s : State) (n : Nat) (f : Entry → Entry) :
    (s.mapEntry n f).ring = s.ring := rfl

@[simp] theorem State.mapEntry_link (s : State) (n : Nat) (f : Entry → Entry) :
    (s.mapEntry n f).link = s.link := rfl

@[simp] theorem State.mapEntry_assembler (s : State) (n : Nat) (f : Entry → Entry) :
    (s.mapEntry n f).assembler = s.assembler := rfl

@[simp] theorem State.mapEntry_index (s : State) (n : Nat) (f : Entry → Entry) :
    (s.mapEntry n f).index = s.index.map fun e => if e.number = n then f e else e := rfl

@[simp] theorem State.mapEntry_control (s : State) (n : Nat) (f : Entry → Entry) :
    (s.mapEntry n f).control = s.control := rfl

@[simp] theorem State.mapEntry_drain (s : State) (n : Nat) (f : Entry → Entry) :
    (s.mapEntry n f).drain = s.drain := rfl

@[simp] theorem State.mapEntry_pins (s : State) (n : Nat) (f : Entry → Entry) :
    (s.mapEntry n f).pins = s.pins := rfl

@[simp] theorem State.mapEntry_store (s : State) (n : Nat) (f : Entry → Entry) :
    (s.mapEntry n f).store = s.store := rfl

@[simp] theorem State.mapEntry_power (s : State) (n : Nat) (f : Entry → Entry) :
    (s.mapEntry n f).power = s.power := rfl

@[simp] theorem State.mapEntry_flags (s : State) (n : Nat) (f : Entry → Entry) :
    (s.mapEntry n f).flags = s.flags := rfl

@[simp] theorem State.mapEntry_viewerPort (s : State) (n : Nat) (f : Entry → Entry) :
    (s.mapEntry n f).viewerPort = s.viewerPort := rfl

@[simp] theorem State.mapEntry_archivePort (s : State) (n : Nat) (f : Entry → Entry) :
    (s.mapEntry n f).archivePort = s.archivePort := rfl

@[simp] theorem State.mapEntry_sent (s : State) (n : Nat) (f : Entry → Entry) :
    (s.mapEntry n f).sent = s.sent := rfl

@[simp] theorem State.mapEntry_pending (s : State) (n : Nat) (f : Entry → Entry) :
    (s.mapEntry n f).pending = s.pending := rfl

/-! ## `State.retire` -/

@[simp] theorem State.retire_ring (s : State) :
    (s.retire).ring = s.ring := rfl

@[simp] theorem State.retire_link (s : State) :
    (s.retire).link = s.link := rfl

@[simp] theorem State.retire_assembler (s : State) :
    (s.retire).assembler = s.assembler := rfl

@[simp] theorem State.retire_index (s : State) :
    (s.retire).index = s.index.filter fun e => e.isOpen || !e.emptied := rfl

@[simp] theorem State.retire_control (s : State) :
    (s.retire).control = s.control := rfl

@[simp] theorem State.retire_drain (s : State) :
    (s.retire).drain = s.drain := rfl

@[simp] theorem State.retire_pins (s : State) :
    (s.retire).pins = s.pins := rfl

@[simp] theorem State.retire_store (s : State) :
    (s.retire).store = s.store := rfl

@[simp] theorem State.retire_power (s : State) :
    (s.retire).power = s.power := rfl

@[simp] theorem State.retire_flags (s : State) :
    (s.retire).flags = s.flags := rfl

@[simp] theorem State.retire_viewerPort (s : State) :
    (s.retire).viewerPort = s.viewerPort := rfl

@[simp] theorem State.retire_archivePort (s : State) :
    (s.retire).archivePort = s.archivePort := rfl

@[simp] theorem State.retire_sent (s : State) :
    (s.retire).sent = s.sent := rfl

@[simp] theorem State.retire_pending (s : State) :
    (s.retire).pending = s.pending := rfl

/-! ## `State.mapBlock` -/

@[simp] theorem State.mapBlock_ring (s : State) (n : Nat) (f : Block → Block) :
    (s.mapBlock n f).ring = { s.ring with blocks := s.ring.blocks.map fun b => if b.lbn = n then f b else b } := rfl

@[simp] theorem State.mapBlock_link (s : State) (n : Nat) (f : Block → Block) :
    (s.mapBlock n f).link = s.link := rfl

@[simp] theorem State.mapBlock_assembler (s : State) (n : Nat) (f : Block → Block) :
    (s.mapBlock n f).assembler = s.assembler := rfl

@[simp] theorem State.mapBlock_index (s : State) (n : Nat) (f : Block → Block) :
    (s.mapBlock n f).index = s.index := rfl

@[simp] theorem State.mapBlock_control (s : State) (n : Nat) (f : Block → Block) :
    (s.mapBlock n f).control = s.control := rfl

@[simp] theorem State.mapBlock_drain (s : State) (n : Nat) (f : Block → Block) :
    (s.mapBlock n f).drain = s.drain := rfl

@[simp] theorem State.mapBlock_pins (s : State) (n : Nat) (f : Block → Block) :
    (s.mapBlock n f).pins = s.pins := rfl

@[simp] theorem State.mapBlock_store (s : State) (n : Nat) (f : Block → Block) :
    (s.mapBlock n f).store = s.store := rfl

@[simp] theorem State.mapBlock_power (s : State) (n : Nat) (f : Block → Block) :
    (s.mapBlock n f).power = s.power := rfl

@[simp] theorem State.mapBlock_flags (s : State) (n : Nat) (f : Block → Block) :
    (s.mapBlock n f).flags = s.flags := rfl

@[simp] theorem State.mapBlock_viewerPort (s : State) (n : Nat) (f : Block → Block) :
    (s.mapBlock n f).viewerPort = s.viewerPort := rfl

@[simp] theorem State.mapBlock_archivePort (s : State) (n : Nat) (f : Block → Block) :
    (s.mapBlock n f).archivePort = s.archivePort := rfl

@[simp] theorem State.mapBlock_sent (s : State) (n : Nat) (f : Block → Block) :
    (s.mapBlock n f).sent = s.sent := rfl

@[simp] theorem State.mapBlock_pending (s : State) (n : Nat) (f : Block → Block) :
    (s.mapBlock n f).pending = s.pending := rfl

/-! ## `State.putFlag` -/

@[simp] theorem State.putFlag_ring (s : State) (i : Fin 8) (x : SyncFlag) :
    (s.putFlag i x).ring = s.ring := rfl

@[simp] theorem State.putFlag_link (s : State) (i : Fin 8) (x : SyncFlag) :
    (s.putFlag i x).link = s.link := rfl

@[simp] theorem State.putFlag_assembler (s : State) (i : Fin 8) (x : SyncFlag) :
    (s.putFlag i x).assembler = s.assembler := rfl

@[simp] theorem State.putFlag_index (s : State) (i : Fin 8) (x : SyncFlag) :
    (s.putFlag i x).index = s.index := rfl

@[simp] theorem State.putFlag_control (s : State) (i : Fin 8) (x : SyncFlag) :
    (s.putFlag i x).control = s.control := rfl

@[simp] theorem State.putFlag_drain (s : State) (i : Fin 8) (x : SyncFlag) :
    (s.putFlag i x).drain = s.drain := rfl

@[simp] theorem State.putFlag_pins (s : State) (i : Fin 8) (x : SyncFlag) :
    (s.putFlag i x).pins = s.pins := rfl

@[simp] theorem State.putFlag_store (s : State) (i : Fin 8) (x : SyncFlag) :
    (s.putFlag i x).store = s.store := rfl

@[simp] theorem State.putFlag_power (s : State) (i : Fin 8) (x : SyncFlag) :
    (s.putFlag i x).power = s.power := rfl

@[simp] theorem State.putFlag_flags (s : State) (i : Fin 8) (x : SyncFlag) :
    (s.putFlag i x).flags = s.flags.set i x := rfl

@[simp] theorem State.putFlag_viewerPort (s : State) (i : Fin 8) (x : SyncFlag) :
    (s.putFlag i x).viewerPort = s.viewerPort := rfl

@[simp] theorem State.putFlag_archivePort (s : State) (i : Fin 8) (x : SyncFlag) :
    (s.putFlag i x).archivePort = s.archivePort := rfl

@[simp] theorem State.putFlag_sent (s : State) (i : Fin 8) (x : SyncFlag) :
    (s.putFlag i x).sent = s.sent := rfl

@[simp] theorem State.putFlag_pending (s : State) (i : Fin 8) (x : SyncFlag) :
    (s.putFlag i x).pending = s.pending := rfl

/-! ## `State.putPin` -/

@[simp] theorem State.putPin_ring (s : State) (i : Fin 8) (r : Option PinRange) :
    (s.putPin i r).ring = s.ring := rfl

@[simp] theorem State.putPin_link (s : State) (i : Fin 8) (r : Option PinRange) :
    (s.putPin i r).link = s.link := rfl

@[simp] theorem State.putPin_assembler (s : State) (i : Fin 8) (r : Option PinRange) :
    (s.putPin i r).assembler = s.assembler := rfl

@[simp] theorem State.putPin_index (s : State) (i : Fin 8) (r : Option PinRange) :
    (s.putPin i r).index = s.index := rfl

@[simp] theorem State.putPin_control (s : State) (i : Fin 8) (r : Option PinRange) :
    (s.putPin i r).control = s.control := rfl

@[simp] theorem State.putPin_drain (s : State) (i : Fin 8) (r : Option PinRange) :
    (s.putPin i r).drain = s.drain := rfl

@[simp] theorem State.putPin_pins (s : State) (i : Fin 8) (r : Option PinRange) :
    (s.putPin i r).pins = s.pins.set i r := rfl

@[simp] theorem State.putPin_store (s : State) (i : Fin 8) (r : Option PinRange) :
    (s.putPin i r).store = s.store := rfl

@[simp] theorem State.putPin_power (s : State) (i : Fin 8) (r : Option PinRange) :
    (s.putPin i r).power = s.power := rfl

@[simp] theorem State.putPin_flags (s : State) (i : Fin 8) (r : Option PinRange) :
    (s.putPin i r).flags = s.flags := rfl

@[simp] theorem State.putPin_viewerPort (s : State) (i : Fin 8) (r : Option PinRange) :
    (s.putPin i r).viewerPort = s.viewerPort := rfl

@[simp] theorem State.putPin_archivePort (s : State) (i : Fin 8) (r : Option PinRange) :
    (s.putPin i r).archivePort = s.archivePort := rfl

@[simp] theorem State.putPin_sent (s : State) (i : Fin 8) (r : Option PinRange) :
    (s.putPin i r).sent = s.sent := rfl

@[simp] theorem State.putPin_pending (s : State) (i : Fin 8) (r : Option PinRange) :
    (s.putPin i r).pending = s.pending := rfl

/-! ## `State.putGroup` -/

@[simp] theorem State.putGroup_ring (s : State) (g : Fin 16) (r : Group) :
    (s.putGroup g r).ring = s.ring := rfl

@[simp] theorem State.putGroup_link (s : State) (g : Fin 16) (r : Group) :
    (s.putGroup g r).link = s.link := rfl

@[simp] theorem State.putGroup_assembler (s : State) (g : Fin 16) (r : Group) :
    (s.putGroup g r).assembler = s.assembler := rfl

@[simp] theorem State.putGroup_index (s : State) (g : Fin 16) (r : Group) :
    (s.putGroup g r).index = s.index := rfl

@[simp] theorem State.putGroup_control (s : State) (g : Fin 16) (r : Group) :
    (s.putGroup g r).control = s.control := rfl

@[simp] theorem State.putGroup_drain (s : State) (g : Fin 16) (r : Group) :
    (s.putGroup g r).drain = s.drain := rfl

@[simp] theorem State.putGroup_pins (s : State) (g : Fin 16) (r : Group) :
    (s.putGroup g r).pins = s.pins := rfl

@[simp] theorem State.putGroup_store (s : State) (g : Fin 16) (r : Group) :
    (s.putGroup g r).store = s.store := rfl

@[simp] theorem State.putGroup_power (s : State) (g : Fin 16) (r : Group) :
    (s.putGroup g r).power = { s.power with groups := s.power.groups.set g r } := rfl

@[simp] theorem State.putGroup_flags (s : State) (g : Fin 16) (r : Group) :
    (s.putGroup g r).flags = s.flags := rfl

@[simp] theorem State.putGroup_viewerPort (s : State) (g : Fin 16) (r : Group) :
    (s.putGroup g r).viewerPort = s.viewerPort := rfl

@[simp] theorem State.putGroup_archivePort (s : State) (g : Fin 16) (r : Group) :
    (s.putGroup g r).archivePort = s.archivePort := rfl

@[simp] theorem State.putGroup_sent (s : State) (g : Fin 16) (r : Group) :
    (s.putGroup g r).sent = s.sent := rfl

@[simp] theorem State.putGroup_pending (s : State) (g : Fin 16) (r : Group) :
    (s.putGroup g r).pending = s.pending := rfl

/-! ## `State.putContext` -/

@[simp] theorem State.putContext_ring (s : State) (c : Fin 4) (w : Option Window) :
    (s.putContext c w).ring = s.ring := rfl

@[simp] theorem State.putContext_link (s : State) (c : Fin 4) (w : Option Window) :
    (s.putContext c w).link = s.link := rfl

@[simp] theorem State.putContext_assembler (s : State) (c : Fin 4) (w : Option Window) :
    (s.putContext c w).assembler = s.assembler := rfl

@[simp] theorem State.putContext_index (s : State) (c : Fin 4) (w : Option Window) :
    (s.putContext c w).index = s.index := rfl

@[simp] theorem State.putContext_control (s : State) (c : Fin 4) (w : Option Window) :
    (s.putContext c w).control = s.control := rfl

@[simp] theorem State.putContext_drain (s : State) (c : Fin 4) (w : Option Window) :
    (s.putContext c w).drain = { s.drain with contexts := s.drain.contexts.set c w } := rfl

@[simp] theorem State.putContext_pins (s : State) (c : Fin 4) (w : Option Window) :
    (s.putContext c w).pins = s.pins := rfl

@[simp] theorem State.putContext_store (s : State) (c : Fin 4) (w : Option Window) :
    (s.putContext c w).store = s.store := rfl

@[simp] theorem State.putContext_power (s : State) (c : Fin 4) (w : Option Window) :
    (s.putContext c w).power = s.power := rfl

@[simp] theorem State.putContext_flags (s : State) (c : Fin 4) (w : Option Window) :
    (s.putContext c w).flags = s.flags := rfl

@[simp] theorem State.putContext_viewerPort (s : State) (c : Fin 4) (w : Option Window) :
    (s.putContext c w).viewerPort = s.viewerPort := rfl

@[simp] theorem State.putContext_archivePort (s : State) (c : Fin 4) (w : Option Window) :
    (s.putContext c w).archivePort = s.archivePort := rfl

@[simp] theorem State.putContext_sent (s : State) (c : Fin 4) (w : Option Window) :
    (s.putContext c w).sent = s.sent := rfl

@[simp] theorem State.putContext_pending (s : State) (c : Fin 4) (w : Option Window) :
    (s.putContext c w).pending = s.pending := rfl

/-! ## `State.send` -/

@[simp] theorem State.send_ring (s : State) (r : Response) :
    (s.send r).ring = s.ring := rfl

@[simp] theorem State.send_link (s : State) (r : Response) :
    (s.send r).link = s.link := rfl

@[simp] theorem State.send_assembler (s : State) (r : Response) :
    (s.send r).assembler = s.assembler := rfl

@[simp] theorem State.send_index (s : State) (r : Response) :
    (s.send r).index = s.index := rfl

@[simp] theorem State.send_control (s : State) (r : Response) :
    (s.send r).control = s.control := rfl

@[simp] theorem State.send_drain (s : State) (r : Response) :
    (s.send r).drain = s.drain := rfl

@[simp] theorem State.send_pins (s : State) (r : Response) :
    (s.send r).pins = s.pins := rfl

@[simp] theorem State.send_store (s : State) (r : Response) :
    (s.send r).store = s.store := rfl

@[simp] theorem State.send_power (s : State) (r : Response) :
    (s.send r).power = s.power := rfl

@[simp] theorem State.send_flags (s : State) (r : Response) :
    (s.send r).flags = s.flags := rfl

@[simp] theorem State.send_viewerPort (s : State) (r : Response) :
    (s.send r).viewerPort = s.viewerPort := rfl

@[simp] theorem State.send_archivePort (s : State) (r : Response) :
    (s.send r).archivePort = s.archivePort := rfl

@[simp] theorem State.send_sent (s : State) (r : Response) :
    (s.send r).sent = s.sent ++ [r] := rfl

@[simp] theorem State.send_pending (s : State) (r : Response) :
    (s.send r).pending = s.pending := rfl

/-! ## `State.beginAct` -/

@[simp] theorem State.beginAct_ring (s : State) :
    (s.beginAct).ring = s.ring := rfl

@[simp] theorem State.beginAct_link (s : State) :
    (s.beginAct).link = s.link := rfl

@[simp] theorem State.beginAct_assembler (s : State) :
    (s.beginAct).assembler = s.assembler := rfl

@[simp] theorem State.beginAct_index (s : State) :
    (s.beginAct).index = s.index := rfl

@[simp] theorem State.beginAct_control (s : State) :
    (s.beginAct).control = s.control := rfl

@[simp] theorem State.beginAct_drain (s : State) :
    (s.beginAct).drain = s.drain := rfl

@[simp] theorem State.beginAct_pins (s : State) :
    (s.beginAct).pins = s.pins := rfl

@[simp] theorem State.beginAct_store (s : State) :
    (s.beginAct).store = s.store := rfl

@[simp] theorem State.beginAct_power (s : State) :
    (s.beginAct).power = s.power := rfl

@[simp] theorem State.beginAct_flags (s : State) :
    (s.beginAct).flags = s.flags := rfl

@[simp] theorem State.beginAct_viewerPort (s : State) :
    (s.beginAct).viewerPort = s.viewerPort := rfl

@[simp] theorem State.beginAct_archivePort (s : State) :
    (s.beginAct).archivePort = s.archivePort := rfl

@[simp] theorem State.beginAct_sent (s : State) :
    (s.beginAct).sent = [] := rfl

@[simp] theorem State.beginAct_pending (s : State) :
    (s.beginAct).pending = s.pending := rfl

/-! ## `State.endAct` -/

@[simp] theorem State.endAct_ring (s : State) :
    (s.endAct).ring = s.ring := rfl

@[simp] theorem State.endAct_link (s : State) :
    (s.endAct).link = s.link := rfl

@[simp] theorem State.endAct_assembler (s : State) :
    (s.endAct).assembler = s.assembler := rfl

@[simp] theorem State.endAct_index (s : State) :
    (s.endAct).index = s.index := rfl

@[simp] theorem State.endAct_control (s : State) :
    (s.endAct).control = s.control := rfl

@[simp] theorem State.endAct_drain (s : State) :
    (s.endAct).drain = s.drain := rfl

@[simp] theorem State.endAct_pins (s : State) :
    (s.endAct).pins = s.pins := rfl

@[simp] theorem State.endAct_store (s : State) :
    (s.endAct).store = s.store := rfl

@[simp] theorem State.endAct_power (s : State) :
    (s.endAct).power = s.power := rfl

@[simp] theorem State.endAct_flags (s : State) :
    (s.endAct).flags = s.flags := rfl

@[simp] theorem State.endAct_viewerPort (s : State) :
    (s.endAct).viewerPort = s.viewerPort := rfl

@[simp] theorem State.endAct_archivePort (s : State) :
    (s.endAct).archivePort = s.archivePort := rfl

@[simp] theorem State.endAct_sent (s : State) :
    (s.endAct).sent = s.sent.map fun r => { r with top := (s.port r.port).notices.top } := rfl

@[simp] theorem State.endAct_pending (s : State) :
    (s.endAct).pending = s.pending := rfl

/-! ## `State.mapPort` -/

@[simp] theorem State.mapPort_ring (s : State) (p : Port) (f : PortState → PortState) :
    (s.mapPort p f).ring = s.ring :=
  by cases p <;> rfl

@[simp] theorem State.mapPort_link (s : State) (p : Port) (f : PortState → PortState) :
    (s.mapPort p f).link = s.link :=
  by cases p <;> rfl

@[simp] theorem State.mapPort_assembler (s : State) (p : Port) (f : PortState → PortState) :
    (s.mapPort p f).assembler = s.assembler :=
  by cases p <;> rfl

@[simp] theorem State.mapPort_index (s : State) (p : Port) (f : PortState → PortState) :
    (s.mapPort p f).index = s.index :=
  by cases p <;> rfl

@[simp] theorem State.mapPort_control (s : State) (p : Port) (f : PortState → PortState) :
    (s.mapPort p f).control = s.control :=
  by cases p <;> rfl

@[simp] theorem State.mapPort_drain (s : State) (p : Port) (f : PortState → PortState) :
    (s.mapPort p f).drain = s.drain :=
  by cases p <;> rfl

@[simp] theorem State.mapPort_pins (s : State) (p : Port) (f : PortState → PortState) :
    (s.mapPort p f).pins = s.pins :=
  by cases p <;> rfl

@[simp] theorem State.mapPort_store (s : State) (p : Port) (f : PortState → PortState) :
    (s.mapPort p f).store = s.store :=
  by cases p <;> rfl

@[simp] theorem State.mapPort_power (s : State) (p : Port) (f : PortState → PortState) :
    (s.mapPort p f).power = s.power :=
  by cases p <;> rfl

@[simp] theorem State.mapPort_flags (s : State) (p : Port) (f : PortState → PortState) :
    (s.mapPort p f).flags = s.flags :=
  by cases p <;> rfl

@[simp] theorem State.mapPort_sent (s : State) (p : Port) (f : PortState → PortState) :
    (s.mapPort p f).sent = s.sent :=
  by cases p <;> rfl

@[simp] theorem State.mapPort_pending (s : State) (p : Port) (f : PortState → PortState) :
    (s.mapPort p f).pending = s.pending :=
  by cases p <;> rfl

@[simp] theorem State.mapPort_port (s : State) (p : Port) (f : PortState → PortState) :
    (s.mapPort p f).port p = f (s.port p) :=
  by cases p <;> rfl

theorem State.mapPort_port_of_ne (s : State) {p q : Port} (f : PortState → PortState) (h : q ≠ p) :
    (s.mapPort p f).port q = s.port q := by
  cases p <;> cases q <;> first | rfl | exact absurd rfl h

theorem State.mapPort_mapPort (s : State) (p : Port) (f g : PortState → PortState) :
    (s.mapPort p f).mapPort p g = s.mapPort p fun q => g (f q) := by
  cases p <;> rfl

end Sys2Proof.Machine
end

