-- ==== Sys2Proof/Laws/Signals.lean ====
section
/-!
SUPPORT. What an event can do, said once: raising a notice, completing a wait, setting a flag and raising an event reach the two ports, the flags
and the responses, and nothing else; and what answering a request does.
-/
namespace Sys2Proof.Machine

/-! ## `State.mapNotices` -/

@[simp] theorem State.mapNotices_ring (s : State) (p : Port) (f : NoticeUnit → NoticeUnit) :
    (s.mapNotices p f).ring = s.ring := by
  cases p <;> rfl

@[simp] theorem State.mapNotices_link (s : State) (p : Port) (f : NoticeUnit → NoticeUnit) :
    (s.mapNotices p f).link = s.link := by
  cases p <;> rfl

@[simp] theorem State.mapNotices_assembler (s : State) (p : Port) (f : NoticeUnit → NoticeUnit) :
    (s.mapNotices p f).assembler = s.assembler := by
  cases p <;> rfl

@[simp] theorem State.mapNotices_index (s : State) (p : Port) (f : NoticeUnit → NoticeUnit) :
    (s.mapNotices p f).index = s.index := by
  cases p <;> rfl

@[simp] theorem State.mapNotices_control (s : State) (p : Port) (f : NoticeUnit → NoticeUnit) :
    (s.mapNotices p f).control = s.control := by
  cases p <;> rfl

@[simp] theorem State.mapNotices_drain (s : State) (p : Port) (f : NoticeUnit → NoticeUnit) :
    (s.mapNotices p f).drain = s.drain := by
  cases p <;> rfl

@[simp] theorem State.mapNotices_pins (s : State) (p : Port) (f : NoticeUnit → NoticeUnit) :
    (s.mapNotices p f).pins = s.pins := by
  cases p <;> rfl

@[simp] theorem State.mapNotices_store (s : State) (p : Port) (f : NoticeUnit → NoticeUnit) :
    (s.mapNotices p f).store = s.store := by
  cases p <;> rfl

@[simp] theorem State.mapNotices_power (s : State) (p : Port) (f : NoticeUnit → NoticeUnit) :
    (s.mapNotices p f).power = s.power := by
  cases p <;> rfl

@[simp] theorem State.mapNotices_pending (s : State) (p : Port) (f : NoticeUnit → NoticeUnit) :
    (s.mapNotices p f).pending = s.pending := by
  cases p <;> rfl

/-! ## `State.raiseNotice` -/

@[simp] theorem State.raiseNotice_ring (s : State) (k : NoticeKind) :
    (s.raiseNotice k).ring = s.ring := rfl

@[simp] theorem State.raiseNotice_link (s : State) (k : NoticeKind) :
    (s.raiseNotice k).link = s.link := rfl

@[simp] theorem State.raiseNotice_assembler (s : State) (k : NoticeKind) :
    (s.raiseNotice k).assembler = s.assembler := rfl

@[simp] theorem State.raiseNotice_index (s : State) (k : NoticeKind) :
    (s.raiseNotice k).index = s.index := rfl

@[simp] theorem State.raiseNotice_control (s : State) (k : NoticeKind) :
    (s.raiseNotice k).control = s.control := rfl

@[simp] theorem State.raiseNotice_drain (s : State) (k : NoticeKind) :
    (s.raiseNotice k).drain = s.drain := rfl

@[simp] theorem State.raiseNotice_pins (s : State) (k : NoticeKind) :
    (s.raiseNotice k).pins = s.pins := rfl

@[simp] theorem State.raiseNotice_store (s : State) (k : NoticeKind) :
    (s.raiseNotice k).store = s.store := rfl

@[simp] theorem State.raiseNotice_power (s : State) (k : NoticeKind) :
    (s.raiseNotice k).power = s.power := rfl

@[simp] theorem State.raiseNotice_pending (s : State) (k : NoticeKind) :
    (s.raiseNotice k).pending = s.pending := rfl

@[simp] theorem State.raiseNotice_flags (s : State) (k : NoticeKind) :
    (s.raiseNotice k).flags = s.flags := rfl

@[simp] theorem State.raiseNotice_sent (s : State) (k : NoticeKind) :
    (s.raiseNotice k).sent = s.sent := rfl

/-! ## `State.freeSlot` -/

@[simp] theorem State.freeSlot_ring (s : State) (p : Port) (tag : Byte) :
    (s.freeSlot p tag).ring = s.ring := by
  cases p <;> rfl

@[simp] theorem State.freeSlot_link (s : State) (p : Port) (tag : Byte) :
    (s.freeSlot p tag).link = s.link := by
  cases p <;> rfl

@[simp] theorem State.freeSlot_assembler (s : State) (p : Port) (tag : Byte) :
    (s.freeSlot p tag).assembler = s.assembler := by
  cases p <;> rfl

@[simp] theorem State.freeSlot_index (s : State) (p : Port) (tag : Byte) :
    (s.freeSlot p tag).index = s.index := by
  cases p <;> rfl

@[simp] theorem State.freeSlot_control (s : State) (p : Port) (tag : Byte) :
    (s.freeSlot p tag).control = s.control := by
  cases p <;> rfl

@[simp] theorem State.freeSlot_drain (s : State) (p : Port) (tag : Byte) :
    (s.freeSlot p tag).drain = s.drain := by
  cases p <;> rfl

@[simp] theorem State.freeSlot_pins (s : State) (p : Port) (tag : Byte) :
    (s.freeSlot p tag).pins = s.pins := by
  cases p <;> rfl

@[simp] theorem State.freeSlot_store (s : State) (p : Port) (tag : Byte) :
    (s.freeSlot p tag).store = s.store := by
  cases p <;> rfl

@[simp] theorem State.freeSlot_power (s : State) (p : Port) (tag : Byte) :
    (s.freeSlot p tag).power = s.power := by
  cases p <;> rfl

@[simp] theorem State.freeSlot_pending (s : State) (p : Port) (tag : Byte) :
    (s.freeSlot p tag).pending = s.pending := by
  cases p <;> rfl

/-! ## `State.answerWith` -/

@[simp] theorem State.answerWith_ring (s : State) (p : Port) (tag : Byte) (k : RequestKind) (st : Status) (r : Result) (d : List Byte) :
    (s.answerWith p tag k st r d).ring = s.ring := by
  cases p <;> rfl

@[simp] theorem State.answerWith_link (s : State) (p : Port) (tag : Byte) (k : RequestKind) (st : Status) (r : Result) (d : List Byte) :
    (s.answerWith p tag k st r d).link = s.link := by
  cases p <;> rfl

@[simp] theorem State.answerWith_assembler (s : State) (p : Port) (tag : Byte) (k : RequestKind) (st : Status) (r : Result) (d : List Byte) :
    (s.answerWith p tag k st r d).assembler = s.assembler := by
  cases p <;> rfl

@[simp] theorem State.answerWith_index (s : State) (p : Port) (tag : Byte) (k : RequestKind) (st : Status) (r : Result) (d : List Byte) :
    (s.answerWith p tag k st r d).index = s.index := by
  cases p <;> rfl

@[simp] theorem State.answerWith_control (s : State) (p : Port) (tag : Byte) (k : RequestKind) (st : Status) (r : Result) (d : List Byte) :
    (s.answerWith p tag k st r d).control = s.control := by
  cases p <;> rfl

@[simp] theorem State.answerWith_drain (s : State) (p : Port) (tag : Byte) (k : RequestKind) (st : Status) (r : Result) (d : List Byte) :
    (s.answerWith p tag k st r d).drain = s.drain := by
  cases p <;> rfl

@[simp] theorem State.answerWith_pins (s : State) (p : Port) (tag : Byte) (k : RequestKind) (st : Status) (r : Result) (d : List Byte) :
    (s.answerWith p tag k st r d).pins = s.pins := by
  cases p <;> rfl

@[simp] theorem State.answerWith_store (s : State) (p : Port) (tag : Byte) (k : RequestKind) (st : Status) (r : Result) (d : List Byte) :
    (s.answerWith p tag k st r d).store = s.store := by
  cases p <;> rfl

@[simp] theorem State.answerWith_power (s : State) (p : Port) (tag : Byte) (k : RequestKind) (st : Status) (r : Result) (d : List Byte) :
    (s.answerWith p tag k st r d).power = s.power := by
  cases p <;> rfl

@[simp] theorem State.answerWith_pending (s : State) (p : Port) (tag : Byte) (k : RequestKind) (st : Status) (r : Result) (d : List Byte) :
    (s.answerWith p tag k st r d).pending = s.pending := by
  cases p <;> rfl

@[simp] theorem State.answerWith_flags (s : State) (p : Port) (tag : Byte) (k : RequestKind) (st : Status) (r : Result) (d : List Byte) :
    (s.answerWith p tag k st r d).flags = s.flags := by
  cases p <;> rfl

/-! ## `State.answer` -/

@[simp] theorem State.answer_ring (s : State) (p : Port) (tag : Byte) (k : RequestKind) (st : Status) (r : Result) :
    (s.answer p tag k st r).ring = s.ring := by
  cases p <;> rfl

@[simp] theorem State.answer_link (s : State) (p : Port) (tag : Byte) (k : RequestKind) (st : Status) (r : Result) :
    (s.answer p tag k st r).link = s.link := by
  cases p <;> rfl

@[simp] theorem State.answer_assembler (s : State) (p : Port) (tag : Byte) (k : RequestKind) (st : Status) (r : Result) :
    (s.answer p tag k st r).assembler = s.assembler := by
  cases p <;> rfl

@[simp] theorem State.answer_index (s : State) (p : Port) (tag : Byte) (k : RequestKind) (st : Status) (r : Result) :
    (s.answer p tag k st r).index = s.index := by
  cases p <;> rfl

@[simp] theorem State.answer_control (s : State) (p : Port) (tag : Byte) (k : RequestKind) (st : Status) (r : Result) :
    (s.answer p tag k st r).control = s.control := by
  cases p <;> rfl

@[simp] theorem State.answer_drain (s : State) (p : Port) (tag : Byte) (k : RequestKind) (st : Status) (r : Result) :
    (s.answer p tag k st r).drain = s.drain := by
  cases p <;> rfl

@[simp] theorem State.answer_pins (s : State) (p : Port) (tag : Byte) (k : RequestKind) (st : Status) (r : Result) :
    (s.answer p tag k st r).pins = s.pins := by
  cases p <;> rfl

@[simp] theorem State.answer_store (s : State) (p : Port) (tag : Byte) (k : RequestKind) (st : Status) (r : Result) :
    (s.answer p tag k st r).store = s.store := by
  cases p <;> rfl

@[simp] theorem State.answer_power (s : State) (p : Port) (tag : Byte) (k : RequestKind) (st : Status) (r : Result) :
    (s.answer p tag k st r).power = s.power := by
  cases p <;> rfl

@[simp] theorem State.answer_pending (s : State) (p : Port) (tag : Byte) (k : RequestKind) (st : Status) (r : Result) :
    (s.answer p tag k st r).pending = s.pending := by
  cases p <;> rfl

@[simp] theorem State.answer_flags (s : State) (p : Port) (tag : Byte) (k : RequestKind) (st : Status) (r : Result) :
    (s.answer p tag k st r).flags = s.flags := by
  cases p <;> rfl

/-! ## `State.refuse` -/

@[simp] theorem State.refuse_ring (s : State) (p : Port) (tag : Byte) (k : RequestKind) (st : Status) :
    (s.refuse p tag k st).ring = s.ring := by
  cases p <;> rfl

@[simp] theorem State.refuse_link (s : State) (p : Port) (tag : Byte) (k : RequestKind) (st : Status) :
    (s.refuse p tag k st).link = s.link := by
  cases p <;> rfl

@[simp] theorem State.refuse_assembler (s : State) (p : Port) (tag : Byte) (k : RequestKind) (st : Status) :
    (s.refuse p tag k st).assembler = s.assembler := by
  cases p <;> rfl

@[simp] theorem State.refuse_index (s : State) (p : Port) (tag : Byte) (k : RequestKind) (st : Status) :
    (s.refuse p tag k st).index = s.index := by
  cases p <;> rfl

@[simp] theorem State.refuse_control (s : State) (p : Port) (tag : Byte) (k : RequestKind) (st : Status) :
    (s.refuse p tag k st).control = s.control := by
  cases p <;> rfl

@[simp] theorem State.refuse_drain (s : State) (p : Port) (tag : Byte) (k : RequestKind) (st : Status) :
    (s.refuse p tag k st).drain = s.drain := by
  cases p <;> rfl

@[simp] theorem State.refuse_pins (s : State) (p : Port) (tag : Byte) (k : RequestKind) (st : Status) :
    (s.refuse p tag k st).pins = s.pins := by
  cases p <;> rfl

@[simp] theorem State.refuse_store (s : State) (p : Port) (tag : Byte) (k : RequestKind) (st : Status) :
    (s.refuse p tag k st).store = s.store := by
  cases p <;> rfl

@[simp] theorem State.refuse_power (s : State) (p : Port) (tag : Byte) (k : RequestKind) (st : Status) :
    (s.refuse p tag k st).power = s.power := by
  cases p <;> rfl

@[simp] theorem State.refuse_pending (s : State) (p : Port) (tag : Byte) (k : RequestKind) (st : Status) :
    (s.refuse p tag k st).pending = s.pending := by
  cases p <;> rfl

/-! ## `State.setProgress` -/

@[simp] theorem State.setProgress_ring (s : State) (p : Port) (tag : Byte) (x : Progress) :
    (s.setProgress p tag x).ring = s.ring := by
  cases p <;> rfl

@[simp] theorem State.setProgress_link (s : State) (p : Port) (tag : Byte) (x : Progress) :
    (s.setProgress p tag x).link = s.link := by
  cases p <;> rfl

@[simp] theorem State.setProgress_assembler (s : State) (p : Port) (tag : Byte) (x : Progress) :
    (s.setProgress p tag x).assembler = s.assembler := by
  cases p <;> rfl

@[simp] theorem State.setProgress_index (s : State) (p : Port) (tag : Byte) (x : Progress) :
    (s.setProgress p tag x).index = s.index := by
  cases p <;> rfl

@[simp] theorem State.setProgress_control (s : State) (p : Port) (tag : Byte) (x : Progress) :
    (s.setProgress p tag x).control = s.control := by
  cases p <;> rfl

@[simp] theorem State.setProgress_drain (s : State) (p : Port) (tag : Byte) (x : Progress) :
    (s.setProgress p tag x).drain = s.drain := by
  cases p <;> rfl

@[simp] theorem State.setProgress_pins (s : State) (p : Port) (tag : Byte) (x : Progress) :
    (s.setProgress p tag x).pins = s.pins := by
  cases p <;> rfl

@[simp] theorem State.setProgress_store (s : State) (p : Port) (tag : Byte) (x : Progress) :
    (s.setProgress p tag x).store = s.store := by
  cases p <;> rfl

@[simp] theorem State.setProgress_power (s : State) (p : Port) (tag : Byte) (x : Progress) :
    (s.setProgress p tag x).power = s.power := by
  cases p <;> rfl

@[simp] theorem State.setProgress_pending (s : State) (p : Port) (tag : Byte) (x : Progress) :
    (s.setProgress p tag x).pending = s.pending := by
  cases p <;> rfl

/-! ## `State.occupy` -/

@[simp] theorem State.occupy_ring (s : State) (p : Port) (tag : Byte) (k : RequestKind) :
    (s.occupy p tag k).ring = s.ring := by
  cases p <;> rfl

@[simp] theorem State.occupy_link (s : State) (p : Port) (tag : Byte) (k : RequestKind) :
    (s.occupy p tag k).link = s.link := by
  cases p <;> rfl

@[simp] theorem State.occupy_assembler (s : State) (p : Port) (tag : Byte) (k : RequestKind) :
    (s.occupy p tag k).assembler = s.assembler := by
  cases p <;> rfl

@[simp] theorem State.occupy_index (s : State) (p : Port) (tag : Byte) (k : RequestKind) :
    (s.occupy p tag k).index = s.index := by
  cases p <;> rfl

@[simp] theorem State.occupy_control (s : State) (p : Port) (tag : Byte) (k : RequestKind) :
    (s.occupy p tag k).control = s.control := by
  cases p <;> rfl

@[simp] theorem State.occupy_drain (s : State) (p : Port) (tag : Byte) (k : RequestKind) :
    (s.occupy p tag k).drain = s.drain := by
  cases p <;> rfl

@[simp] theorem State.occupy_pins (s : State) (p : Port) (tag : Byte) (k : RequestKind) :
    (s.occupy p tag k).pins = s.pins := by
  cases p <;> rfl

@[simp] theorem State.occupy_store (s : State) (p : Port) (tag : Byte) (k : RequestKind) :
    (s.occupy p tag k).store = s.store := by
  cases p <;> rfl

@[simp] theorem State.occupy_power (s : State) (p : Port) (tag : Byte) (k : RequestKind) :
    (s.occupy p tag k).power = s.power := by
  cases p <;> rfl

@[simp] theorem State.occupy_pending (s : State) (p : Port) (tag : Byte) (k : RequestKind) :
    (s.occupy p tag k).pending = s.pending := by
  cases p <;> rfl

/-! ## `State.arrive` -/

@[simp] theorem State.arrive_ring (s : State) (p : Port) :
    (s.arrive p).ring = s.ring := by
  cases p <;> rfl

@[simp] theorem State.arrive_link (s : State) (p : Port) :
    (s.arrive p).link = s.link := by
  cases p <;> rfl

@[simp] theorem State.arrive_assembler (s : State) (p : Port) :
    (s.arrive p).assembler = s.assembler := by
  cases p <;> rfl

@[simp] theorem State.arrive_index (s : State) (p : Port) :
    (s.arrive p).index = s.index := by
  cases p <;> rfl

@[simp] theorem State.arrive_control (s : State) (p : Port) :
    (s.arrive p).control = s.control := by
  cases p <;> rfl

@[simp] theorem State.arrive_drain (s : State) (p : Port) :
    (s.arrive p).drain = s.drain := by
  cases p <;> rfl

@[simp] theorem State.arrive_pins (s : State) (p : Port) :
    (s.arrive p).pins = s.pins := by
  cases p <;> rfl

@[simp] theorem State.arrive_store (s : State) (p : Port) :
    (s.arrive p).store = s.store := by
  cases p <;> rfl

@[simp] theorem State.arrive_power (s : State) (p : Port) :
    (s.arrive p).power = s.power := by
  cases p <;> rfl

@[simp] theorem State.arrive_pending (s : State) (p : Port) :
    (s.arrive p).pending = s.pending := by
  cases p <;> rfl

/-! ## `State.completeWait` -/

@[simp] theorem State.completeWait_ring (s : State) (i : Fin 8) (w : ParkedWait × Bool) :
    (s.completeWait i w).ring = s.ring := by
  simp [State.completeWait]

@[simp] theorem State.completeWait_link (s : State) (i : Fin 8) (w : ParkedWait × Bool) :
    (s.completeWait i w).link = s.link := by
  simp [State.completeWait]

@[simp] theorem State.completeWait_assembler (s : State) (i : Fin 8) (w : ParkedWait × Bool) :
    (s.completeWait i w).assembler = s.assembler := by
  simp [State.completeWait]

@[simp] theorem State.completeWait_index (s : State) (i : Fin 8) (w : ParkedWait × Bool) :
    (s.completeWait i w).index = s.index := by
  simp [State.completeWait]

@[simp] theorem State.completeWait_control (s : State) (i : Fin 8) (w : ParkedWait × Bool) :
    (s.completeWait i w).control = s.control := by
  simp [State.completeWait]

@[simp] theorem State.completeWait_drain (s : State) (i : Fin 8) (w : ParkedWait × Bool) :
    (s.completeWait i w).drain = s.drain := by
  simp [State.completeWait]

@[simp] theorem State.completeWait_pins (s : State) (i : Fin 8) (w : ParkedWait × Bool) :
    (s.completeWait i w).pins = s.pins := by
  simp [State.completeWait]

@[simp] theorem State.completeWait_store (s : State) (i : Fin 8) (w : ParkedWait × Bool) :
    (s.completeWait i w).store = s.store := by
  simp [State.completeWait]

@[simp] theorem State.completeWait_power (s : State) (i : Fin 8) (w : ParkedWait × Bool) :
    (s.completeWait i w).power = s.power := by
  simp [State.completeWait]

@[simp] theorem State.completeWait_pending (s : State) (i : Fin 8) (w : ParkedWait × Bool) :
    (s.completeWait i w).pending = s.pending := by
  simp [State.completeWait]

@[simp] theorem State.refuse_flags (s : State) (p : Port) (tag : Byte) (k : RequestKind) (st : Status) :
    (s.refuse p tag k st).flags = s.flags := by
  cases p <;> rfl

@[simp] theorem State.completeWait_flags (s : State) (i : Fin 8) (w : ParkedWait × Bool) :
    (s.completeWait i w).flags = s.flags := by
  simp [State.completeWait]

/-- A property of a state that each step of a fold keeps is kept by the fold. -/
theorem foldl_keeps {α β : Type} {γ : Type} (f : β → α → β) (g : β → γ) (h : ∀ b a, g (f b a) = g b) (l : List α) (b : β) :
    g (l.foldl f b) = g b := by
  induction l generalizing b with
  | nil => rfl
  | cons a l ih => rw [List.foldl_cons, ih, h]

/-! ## `State.setFlag` -/

@[simp] theorem State.setFlag_ring (s : State) (i : Fin 8) :
    (s.setFlag i).ring = s.ring := by
  unfold State.setFlag
  split
  · rfl
  · rw [foldl_keeps _ State.ring (by simp)]
    simp

@[simp] theorem State.setFlag_link (s : State) (i : Fin 8) :
    (s.setFlag i).link = s.link := by
  unfold State.setFlag
  split
  · rfl
  · rw [foldl_keeps _ State.link (by simp)]
    simp

@[simp] theorem State.setFlag_assembler (s : State) (i : Fin 8) :
    (s.setFlag i).assembler = s.assembler := by
  unfold State.setFlag
  split
  · rfl
  · rw [foldl_keeps _ State.assembler (by simp)]
    simp

@[simp] theorem State.setFlag_index (s : State) (i : Fin 8) :
    (s.setFlag i).index = s.index := by
  unfold State.setFlag
  split
  · rfl
  · rw [foldl_keeps _ State.index (by simp)]
    simp

@[simp] theorem State.setFlag_control (s : State) (i : Fin 8) :
    (s.setFlag i).control = s.control := by
  unfold State.setFlag
  split
  · rfl
  · rw [foldl_keeps _ State.control (by simp)]
    simp

@[simp] theorem State.setFlag_drain (s : State) (i : Fin 8) :
    (s.setFlag i).drain = s.drain := by
  unfold State.setFlag
  split
  · rfl
  · rw [foldl_keeps _ State.drain (by simp)]
    simp

@[simp] theorem State.setFlag_pins (s : State) (i : Fin 8) :
    (s.setFlag i).pins = s.pins := by
  unfold State.setFlag
  split
  · rfl
  · rw [foldl_keeps _ State.pins (by simp)]
    simp

@[simp] theorem State.setFlag_store (s : State) (i : Fin 8) :
    (s.setFlag i).store = s.store := by
  unfold State.setFlag
  split
  · rfl
  · rw [foldl_keeps _ State.store (by simp)]
    simp

@[simp] theorem State.setFlag_power (s : State) (i : Fin 8) :
    (s.setFlag i).power = s.power := by
  unfold State.setFlag
  split
  · rfl
  · rw [foldl_keeps _ State.power (by simp)]
    simp

@[simp] theorem State.setFlag_pending (s : State) (i : Fin 8) :
    (s.setFlag i).pending = s.pending := by
  unfold State.setFlag
  split
  · rfl
  · rw [foldl_keeps _ State.pending (by simp)]
    simp

/-! ## `State.raise` -/

@[simp] theorem State.raise_ring (s : State) (e : Event) :
    (s.raise e).ring = s.ring := by
  unfold State.raise
  rw [foldl_keeps _ State.ring (by intro b a; split <;> simp)]
  simp

@[simp] theorem State.raise_link (s : State) (e : Event) :
    (s.raise e).link = s.link := by
  unfold State.raise
  rw [foldl_keeps _ State.link (by intro b a; split <;> simp)]
  simp

@[simp] theorem State.raise_assembler (s : State) (e : Event) :
    (s.raise e).assembler = s.assembler := by
  unfold State.raise
  rw [foldl_keeps _ State.assembler (by intro b a; split <;> simp)]
  simp

@[simp] theorem State.raise_index (s : State) (e : Event) :
    (s.raise e).index = s.index := by
  unfold State.raise
  rw [foldl_keeps _ State.index (by intro b a; split <;> simp)]
  simp

@[simp] theorem State.raise_control (s : State) (e : Event) :
    (s.raise e).control = s.control := by
  unfold State.raise
  rw [foldl_keeps _ State.control (by intro b a; split <;> simp)]
  simp

@[simp] theorem State.raise_drain (s : State) (e : Event) :
    (s.raise e).drain = s.drain := by
  unfold State.raise
  rw [foldl_keeps _ State.drain (by intro b a; split <;> simp)]
  simp

@[simp] theorem State.raise_pins (s : State) (e : Event) :
    (s.raise e).pins = s.pins := by
  unfold State.raise
  rw [foldl_keeps _ State.pins (by intro b a; split <;> simp)]
  simp

@[simp] theorem State.raise_store (s : State) (e : Event) :
    (s.raise e).store = s.store := by
  unfold State.raise
  rw [foldl_keeps _ State.store (by intro b a; split <;> simp)]
  simp

@[simp] theorem State.raise_power (s : State) (e : Event) :
    (s.raise e).power = s.power := by
  unfold State.raise
  rw [foldl_keeps _ State.power (by intro b a; split <;> simp)]
  simp

@[simp] theorem State.raise_pending (s : State) (e : Event) :
    (s.raise e).pending = s.pending := by
  unfold State.raise
  rw [foldl_keeps _ State.pending (by intro b a; split <;> simp)]
  simp

end Sys2Proof.Machine
end

