-- ==== Sys2Proof/Laws/Frames.lean ====
section
/-!
SUPPORT. What each shared operation leaves alone: one lemma per field (or per part of a field) that the operation does not reach.
-/
namespace Sys2Proof.Machine

/-! ### `State.updatePause` -/

@[simp] theorem State.updatePause_ring (s : State) : s.updatePause.ring = s.ring := by
  unfold State.updatePause; (repeat' split) <;> simp

@[simp] theorem State.updatePause_link_locked (s : State) : s.updatePause.link.locked = s.link.locked := by
  unfold State.updatePause; (repeat' split) <;> simp

@[simp] theorem State.updatePause_link_expected (s : State) : s.updatePause.link.expected = s.link.expected := by
  unfold State.updatePause; (repeat' split) <;> simp

@[simp] theorem State.updatePause_link_intake (s : State) : s.updatePause.link.intake = s.link.intake := by
  unfold State.updatePause; (repeat' split) <;> simp

@[simp] theorem State.updatePause_link_pendingLoss (s : State) : s.updatePause.link.pendingLoss = s.link.pendingLoss := by
  unfold State.updatePause; (repeat' split) <;> simp

@[simp] theorem State.updatePause_link_captureEnable (s : State) : s.updatePause.link.captureEnable = s.link.captureEnable := by
  unfold State.updatePause; (repeat' split) <;> simp

@[simp] theorem State.updatePause_link_haltLine (s : State) : s.updatePause.link.haltLine = s.link.haltLine := by
  unfold State.updatePause; (repeat' split) <;> simp

@[simp] theorem State.updatePause_link_counts (s : State) : s.updatePause.link.counts = s.link.counts := by
  unfold State.updatePause; (repeat' split) <;> simp

@[simp] theorem State.updatePause_assembler (s : State) : s.updatePause.assembler = s.assembler := by
  unfold State.updatePause; (repeat' split) <;> simp

@[simp] theorem State.updatePause_index (s : State) : s.updatePause.index = s.index := by
  unfold State.updatePause; (repeat' split) <;> simp

@[simp] theorem State.updatePause_control (s : State) : s.updatePause.control = s.control := by
  unfold State.updatePause; (repeat' split) <;> simp

@[simp] theorem State.updatePause_drain (s : State) : s.updatePause.drain = s.drain := by
  unfold State.updatePause; (repeat' split) <;> simp

@[simp] theorem State.updatePause_pins (s : State) : s.updatePause.pins = s.pins := by
  unfold State.updatePause; (repeat' split) <;> simp

@[simp] theorem State.updatePause_store (s : State) : s.updatePause.store = s.store := by
  unfold State.updatePause; (repeat' split) <;> simp

@[simp] theorem State.updatePause_power (s : State) : s.updatePause.power = s.power := by
  unfold State.updatePause; (repeat' split) <;> simp

@[simp] theorem State.updatePause_flags (s : State) : s.updatePause.flags = s.flags := by
  unfold State.updatePause; (repeat' split) <;> simp

@[simp] theorem State.updatePause_viewerPort (s : State) : s.updatePause.viewerPort = s.viewerPort := by
  unfold State.updatePause; (repeat' split) <;> simp

@[simp] theorem State.updatePause_archivePort (s : State) : s.updatePause.archivePort = s.archivePort := by
  unfold State.updatePause; (repeat' split) <;> simp

@[simp] theorem State.updatePause_sent (s : State) : s.updatePause.sent = s.sent := by
  unfold State.updatePause; (repeat' split) <;> simp

@[simp] theorem State.updatePause_pending (s : State) : s.updatePause.pending = s.pending := by
  unfold State.updatePause; (repeat' split) <;> simp

/-! ### `State.setBand` -/

@[simp] theorem State.setBand_ring_head (s : State) (b : Band) : (s.setBand b).ring.head = s.ring.head := by
  unfold State.setBand; (repeat' split) <;> simp

@[simp] theorem State.setBand_ring_tail (s : State) (b : Band) : (s.setBand b).ring.tail = s.ring.tail := by
  unfold State.setBand; (repeat' split) <;> simp

@[simp] theorem State.setBand_ring_blocks (s : State) (b : Band) : (s.setBand b).ring.blocks = s.ring.blocks := by
  unfold State.setBand; (repeat' split) <;> simp

@[simp] theorem State.setBand_link_locked (s : State) (b : Band) : (s.setBand b).link.locked = s.link.locked := by
  unfold State.setBand; (repeat' split) <;> simp

@[simp] theorem State.setBand_link_expected (s : State) (b : Band) : (s.setBand b).link.expected = s.link.expected := by
  unfold State.setBand; (repeat' split) <;> simp

@[simp] theorem State.setBand_link_intake (s : State) (b : Band) : (s.setBand b).link.intake = s.link.intake := by
  unfold State.setBand; (repeat' split) <;> simp

@[simp] theorem State.setBand_link_pendingLoss (s : State) (b : Band) : (s.setBand b).link.pendingLoss = s.link.pendingLoss := by
  unfold State.setBand; (repeat' split) <;> simp

@[simp] theorem State.setBand_link_captureEnable (s : State) (b : Band) : (s.setBand b).link.captureEnable = s.link.captureEnable := by
  unfold State.setBand; (repeat' split) <;> simp

@[simp] theorem State.setBand_link_haltLine (s : State) (b : Band) : (s.setBand b).link.haltLine = s.link.haltLine := by
  unfold State.setBand; (repeat' split) <;> simp

@[simp] theorem State.setBand_link_counts (s : State) (b : Band) : (s.setBand b).link.counts = s.link.counts := by
  unfold State.setBand; (repeat' split) <;> simp

@[simp] theorem State.setBand_assembler (s : State) (b : Band) : (s.setBand b).assembler = s.assembler := by
  unfold State.setBand; (repeat' split) <;> simp

@[simp] theorem State.setBand_index (s : State) (b : Band) : (s.setBand b).index = s.index := by
  unfold State.setBand; (repeat' split) <;> simp

@[simp] theorem State.setBand_control (s : State) (b : Band) : (s.setBand b).control = s.control := by
  unfold State.setBand; (repeat' split) <;> simp

@[simp] theorem State.setBand_drain (s : State) (b : Band) : (s.setBand b).drain = s.drain := by
  unfold State.setBand; (repeat' split) <;> simp

@[simp] theorem State.setBand_pins (s : State) (b : Band) : (s.setBand b).pins = s.pins := by
  unfold State.setBand; (repeat' split) <;> simp

@[simp] theorem State.setBand_store (s : State) (b : Band) : (s.setBand b).store = s.store := by
  unfold State.setBand; (repeat' split) <;> simp

@[simp] theorem State.setBand_power (s : State) (b : Band) : (s.setBand b).power = s.power := by
  unfold State.setBand; (repeat' split) <;> simp

@[simp] theorem State.setBand_pending (s : State) (b : Band) : (s.setBand b).pending = s.pending := by
  unfold State.setBand; (repeat' split) <;> simp

/-! ### `State.reband` -/

@[simp] theorem State.reband_ring_head (s : State) : s.reband.ring.head = s.ring.head := by
  simp [State.reband]

@[simp] theorem State.reband_ring_tail (s : State) : s.reband.ring.tail = s.ring.tail := by
  simp [State.reband]

@[simp] theorem State.reband_ring_blocks (s : State) : s.reband.ring.blocks = s.ring.blocks := by
  simp [State.reband]

@[simp] theorem State.reband_link_locked (s : State) : s.reband.link.locked = s.link.locked := by
  simp [State.reband]

@[simp] theorem State.reband_link_expected (s : State) : s.reband.link.expected = s.link.expected := by
  simp [State.reband]

@[simp] theorem State.reband_link_intake (s : State) : s.reband.link.intake = s.link.intake := by
  simp [State.reband]

@[simp] theorem State.reband_link_pendingLoss (s : State) : s.reband.link.pendingLoss = s.link.pendingLoss := by
  simp [State.reband]

@[simp] theorem State.reband_link_captureEnable (s : State) : s.reband.link.captureEnable = s.link.captureEnable := by
  simp [State.reband]

@[simp] theorem State.reband_link_haltLine (s : State) : s.reband.link.haltLine = s.link.haltLine := by
  simp [State.reband]

@[simp] theorem State.reband_link_counts (s : State) : s.reband.link.counts = s.link.counts := by
  simp [State.reband]

@[simp] theorem State.reband_assembler (s : State) : s.reband.assembler = s.assembler := by
  simp [State.reband]

@[simp] theorem State.reband_index (s : State) : s.reband.index = s.index := by
  simp [State.reband]

@[simp] theorem State.reband_control (s : State) : s.reband.control = s.control := by
  simp [State.reband]

@[simp] theorem State.reband_drain (s : State) : s.reband.drain = s.drain := by
  simp [State.reband]

@[simp] theorem State.reband_pins (s : State) : s.reband.pins = s.pins := by
  simp [State.reband]

@[simp] theorem State.reband_store (s : State) : s.reband.store = s.store := by
  simp [State.reband]

@[simp] theorem State.reband_power (s : State) : s.reband.power = s.power := by
  simp [State.reband]

@[simp] theorem State.reband_pending (s : State) : s.reband.pending = s.pending := by
  simp [State.reband]

/-! ### `State.rebandFresh` -/

@[simp] theorem State.rebandFresh_ring_head (s : State) : s.rebandFresh.ring.head = s.ring.head := by
  simp [State.rebandFresh]

@[simp] theorem State.rebandFresh_ring_tail (s : State) : s.rebandFresh.ring.tail = s.ring.tail := by
  simp [State.rebandFresh]

@[simp] theorem State.rebandFresh_ring_blocks (s : State) : s.rebandFresh.ring.blocks = s.ring.blocks := by
  simp [State.rebandFresh]

@[simp] theorem State.rebandFresh_link_locked (s : State) : s.rebandFresh.link.locked = s.link.locked := by
  simp [State.rebandFresh]

@[simp] theorem State.rebandFresh_link_expected (s : State) : s.rebandFresh.link.expected = s.link.expected := by
  simp [State.rebandFresh]

@[simp] theorem State.rebandFresh_link_intake (s : State) : s.rebandFresh.link.intake = s.link.intake := by
  simp [State.rebandFresh]

@[simp] theorem State.rebandFresh_link_pendingLoss (s : State) : s.rebandFresh.link.pendingLoss = s.link.pendingLoss := by
  simp [State.rebandFresh]

@[simp] theorem State.rebandFresh_link_captureEnable (s : State) : s.rebandFresh.link.captureEnable = s.link.captureEnable := by
  simp [State.rebandFresh]

@[simp] theorem State.rebandFresh_link_haltLine (s : State) : s.rebandFresh.link.haltLine = s.link.haltLine := by
  simp [State.rebandFresh]

@[simp] theorem State.rebandFresh_link_counts (s : State) : s.rebandFresh.link.counts = s.link.counts := by
  simp [State.rebandFresh]

@[simp] theorem State.rebandFresh_assembler (s : State) : s.rebandFresh.assembler = s.assembler := by
  simp [State.rebandFresh]

@[simp] theorem State.rebandFresh_index (s : State) : s.rebandFresh.index = s.index := by
  simp [State.rebandFresh]

@[simp] theorem State.rebandFresh_control (s : State) : s.rebandFresh.control = s.control := by
  simp [State.rebandFresh]

@[simp] theorem State.rebandFresh_drain (s : State) : s.rebandFresh.drain = s.drain := by
  simp [State.rebandFresh]

@[simp] theorem State.rebandFresh_pins (s : State) : s.rebandFresh.pins = s.pins := by
  simp [State.rebandFresh]

@[simp] theorem State.rebandFresh_store (s : State) : s.rebandFresh.store = s.store := by
  simp [State.rebandFresh]

@[simp] theorem State.rebandFresh_power (s : State) : s.rebandFresh.power = s.power := by
  simp [State.rebandFresh]

@[simp] theorem State.rebandFresh_pending (s : State) : s.rebandFresh.pending = s.pending := by
  simp [State.rebandFresh]

/-! ### `State.activate` -/

@[simp] theorem State.activate_ring_head (s : State) : s.activate.ring.head = s.ring.head := by
  simp [State.activate]

@[simp] theorem State.activate_ring_tail (s : State) : s.activate.ring.tail = s.ring.tail := by
  simp [State.activate]

@[simp] theorem State.activate_ring_blocks (s : State) : s.activate.ring.blocks = s.ring.blocks := by
  simp [State.activate]

@[simp] theorem State.activate_link_locked (s : State) : s.activate.link.locked = s.link.locked := by
  simp [State.activate]

@[simp] theorem State.activate_link_expected (s : State) : s.activate.link.expected = s.link.expected := by
  simp [State.activate]

@[simp] theorem State.activate_link_intake (s : State) : s.activate.link.intake = s.link.intake := by
  simp [State.activate]

@[simp] theorem State.activate_link_pendingLoss (s : State) : s.activate.link.pendingLoss = s.link.pendingLoss := by
  simp [State.activate]

@[simp] theorem State.activate_link_captureEnable (s : State) : s.activate.link.captureEnable = s.link.captureEnable := by
  simp [State.activate]

@[simp] theorem State.activate_link_haltLine (s : State) : s.activate.link.haltLine = s.link.haltLine := by
  simp [State.activate]

@[simp] theorem State.activate_link_counts (s : State) : s.activate.link.counts = s.link.counts := by
  simp [State.activate]

@[simp] theorem State.activate_assembler (s : State) : s.activate.assembler = s.assembler := by
  simp [State.activate]

@[simp] theorem State.activate_index (s : State) : s.activate.index = s.index := by
  simp [State.activate]

@[simp] theorem State.activate_control_capture (s : State) : s.activate.control.capture = s.control.capture := by
  simp [State.activate]

@[simp] theorem State.activate_control_stopReason (s : State) : s.activate.control.stopReason = s.control.stopReason := by
  simp [State.activate]

@[simp] theorem State.activate_control_stoppingReason (s : State) : s.activate.control.stoppingReason = s.control.stoppingReason := by
  simp [State.activate]

@[simp] theorem State.activate_control_orderlyHalt (s : State) : s.activate.control.orderlyHalt = s.control.orderlyHalt := by
  simp [State.activate]

@[simp] theorem State.activate_control_staged (s : State) : s.activate.control.staged = s.control.staged := by
  simp [State.activate]

@[simp] theorem State.activate_control_headMark (s : State) : s.activate.control.headMark = s.control.headMark := by
  simp [State.activate]

@[simp] theorem State.activate_control_archiveMark (s : State) : s.activate.control.archiveMark = s.control.archiveMark := by
  simp [State.activate]

@[simp] theorem State.activate_drain (s : State) : s.activate.drain = s.drain := by
  simp [State.activate]

@[simp] theorem State.activate_pins (s : State) : s.activate.pins = s.pins := by
  simp [State.activate]

@[simp] theorem State.activate_store (s : State) : s.activate.store = s.store := by
  simp [State.activate]

@[simp] theorem State.activate_power (s : State) : s.activate.power = s.power := by
  simp [State.activate]

@[simp] theorem State.activate_pending (s : State) : s.activate.pending = s.pending := by
  simp [State.activate]

/-! ### `State.reclamp` -/

@[simp] theorem State.reclamp_ring (s : State) : s.reclamp.ring = s.ring := by
  simp [State.reclamp]

@[simp] theorem State.reclamp_link (s : State) : s.reclamp.link = s.link := by
  simp [State.reclamp]

@[simp] theorem State.reclamp_assembler (s : State) : s.reclamp.assembler = s.assembler := by
  simp [State.reclamp]

@[simp] theorem State.reclamp_index (s : State) : s.reclamp.index = s.index := by
  simp [State.reclamp]

@[simp] theorem State.reclamp_control_capture (s : State) : s.reclamp.control.capture = s.control.capture := by
  simp [State.reclamp]

@[simp] theorem State.reclamp_control_stopReason (s : State) : s.reclamp.control.stopReason = s.control.stopReason := by
  simp [State.reclamp]

@[simp] theorem State.reclamp_control_stoppingReason (s : State) : s.reclamp.control.stoppingReason = s.control.stoppingReason := by
  simp [State.reclamp]

@[simp] theorem State.reclamp_control_orderlyHalt (s : State) : s.reclamp.control.orderlyHalt = s.control.orderlyHalt := by
  simp [State.reclamp]

@[simp] theorem State.reclamp_control_requested (s : State) : s.reclamp.control.requested = s.control.requested := by
  simp [State.reclamp]

@[simp] theorem State.reclamp_control_staged (s : State) : s.reclamp.control.staged = s.control.staged := by
  simp [State.reclamp]

@[simp] theorem State.reclamp_control_swapPending (s : State) : s.reclamp.control.swapPending = s.control.swapPending := by
  simp [State.reclamp]

@[simp] theorem State.reclamp_control_headMark (s : State) : s.reclamp.control.headMark = s.control.headMark := by
  simp [State.reclamp]

@[simp] theorem State.reclamp_control_archiveMark (s : State) : s.reclamp.control.archiveMark = s.control.archiveMark := by
  simp [State.reclamp]

@[simp] theorem State.reclamp_drain (s : State) : s.reclamp.drain = s.drain := by
  simp [State.reclamp]

@[simp] theorem State.reclamp_pins (s : State) : s.reclamp.pins = s.pins := by
  simp [State.reclamp]

@[simp] theorem State.reclamp_store (s : State) : s.reclamp.store = s.store := by
  simp [State.reclamp]

@[simp] theorem State.reclamp_power (s : State) : s.reclamp.power = s.power := by
  simp [State.reclamp]

@[simp] theorem State.reclamp_flags (s : State) : s.reclamp.flags = s.flags := by
  simp [State.reclamp]

@[simp] theorem State.reclamp_viewerPort (s : State) : s.reclamp.viewerPort = s.viewerPort := by
  simp [State.reclamp]

@[simp] theorem State.reclamp_archivePort (s : State) : s.reclamp.archivePort = s.archivePort := by
  simp [State.reclamp]

@[simp] theorem State.reclamp_sent (s : State) : s.reclamp.sent = s.sent := by
  simp [State.reclamp]

@[simp] theorem State.reclamp_pending (s : State) : s.reclamp.pending = s.pending := by
  simp [State.reclamp]

/-! ### `State.claimBlock` -/

@[simp] theorem State.claimBlock_ring_head (s : State) (n : Nat) (c : Fin 4) : (s.claimBlock n c).ring.head = s.ring.head := by
  simp [State.claimBlock]

@[simp] theorem State.claimBlock_ring_tail (s : State) (n : Nat) (c : Fin 4) : (s.claimBlock n c).ring.tail = s.ring.tail := by
  simp [State.claimBlock]

@[simp] theorem State.claimBlock_ring_band (s : State) (n : Nat) (c : Fin 4) : (s.claimBlock n c).ring.band = s.ring.band := by
  simp [State.claimBlock]

@[simp] theorem State.claimBlock_link (s : State) (n : Nat) (c : Fin 4) : (s.claimBlock n c).link = s.link := by
  simp [State.claimBlock]

@[simp] theorem State.claimBlock_assembler (s : State) (n : Nat) (c : Fin 4) : (s.claimBlock n c).assembler = s.assembler := by
  simp [State.claimBlock]

@[simp] theorem State.claimBlock_index (s : State) (n : Nat) (c : Fin 4) : (s.claimBlock n c).index = s.index := by
  simp [State.claimBlock]

@[simp] theorem State.claimBlock_control (s : State) (n : Nat) (c : Fin 4) : (s.claimBlock n c).control = s.control := by
  simp [State.claimBlock]

@[simp] theorem State.claimBlock_drain (s : State) (n : Nat) (c : Fin 4) : (s.claimBlock n c).drain = s.drain := by
  simp [State.claimBlock]

@[simp] theorem State.claimBlock_pins (s : State) (n : Nat) (c : Fin 4) : (s.claimBlock n c).pins = s.pins := by
  simp [State.claimBlock]

@[simp] theorem State.claimBlock_store (s : State) (n : Nat) (c : Fin 4) : (s.claimBlock n c).store = s.store := by
  simp [State.claimBlock]

@[simp] theorem State.claimBlock_power (s : State) (n : Nat) (c : Fin 4) : (s.claimBlock n c).power = s.power := by
  simp [State.claimBlock]

@[simp] theorem State.claimBlock_flags (s : State) (n : Nat) (c : Fin 4) : (s.claimBlock n c).flags = s.flags := by
  simp [State.claimBlock]

@[simp] theorem State.claimBlock_viewerPort (s : State) (n : Nat) (c : Fin 4) : (s.claimBlock n c).viewerPort = s.viewerPort := by
  simp [State.claimBlock]

@[simp] theorem State.claimBlock_archivePort (s : State) (n : Nat) (c : Fin 4) : (s.claimBlock n c).archivePort = s.archivePort := by
  simp [State.claimBlock]

@[simp] theorem State.claimBlock_sent (s : State) (n : Nat) (c : Fin 4) : (s.claimBlock n c).sent = s.sent := by
  simp [State.claimBlock]

@[simp] theorem State.claimBlock_pending (s : State) (n : Nat) (c : Fin 4) : (s.claimBlock n c).pending = s.pending := by
  simp [State.claimBlock]

/-! ### `State.unpark` -/

@[simp] theorem State.unpark_ring (s : State) (t : ParkedTake) : (s.unpark t).ring = s.ring := by
  simp [State.unpark]

@[simp] theorem State.unpark_link (s : State) (t : ParkedTake) : (s.unpark t).link = s.link := by
  simp [State.unpark]

@[simp] theorem State.unpark_assembler (s : State) (t : ParkedTake) : (s.unpark t).assembler = s.assembler := by
  simp [State.unpark]

@[simp] theorem State.unpark_index (s : State) (t : ParkedTake) : (s.unpark t).index = s.index := by
  simp [State.unpark]

@[simp] theorem State.unpark_control (s : State) (t : ParkedTake) : (s.unpark t).control = s.control := by
  simp [State.unpark]

@[simp] theorem State.unpark_drain_contexts (s : State) (t : ParkedTake) : (s.unpark t).drain.contexts = s.drain.contexts := by
  simp [State.unpark]

@[simp] theorem State.unpark_pins (s : State) (t : ParkedTake) : (s.unpark t).pins = s.pins := by
  simp [State.unpark]

@[simp] theorem State.unpark_store (s : State) (t : ParkedTake) : (s.unpark t).store = s.store := by
  simp [State.unpark]

@[simp] theorem State.unpark_power (s : State) (t : ParkedTake) : (s.unpark t).power = s.power := by
  simp [State.unpark]

@[simp] theorem State.unpark_flags (s : State) (t : ParkedTake) : (s.unpark t).flags = s.flags := by
  simp [State.unpark]

@[simp] theorem State.unpark_viewerPort (s : State) (t : ParkedTake) : (s.unpark t).viewerPort = s.viewerPort := by
  simp [State.unpark]

@[simp] theorem State.unpark_archivePort (s : State) (t : ParkedTake) : (s.unpark t).archivePort = s.archivePort := by
  simp [State.unpark]

@[simp] theorem State.unpark_sent (s : State) (t : ParkedTake) : (s.unpark t).sent = s.sent := by
  simp [State.unpark]

@[simp] theorem State.unpark_pending (s : State) (t : ParkedTake) : (s.unpark t).pending = s.pending := by
  simp [State.unpark]

/-! ### `State.offer` -/

@[simp] theorem State.offer_ring_head (s : State) (n : Nat) : (s.offer n).ring.head = s.ring.head := by
  unfold State.offer; (repeat' split) <;> simp

@[simp] theorem State.offer_ring_tail (s : State) (n : Nat) : (s.offer n).ring.tail = s.ring.tail := by
  unfold State.offer; (repeat' split) <;> simp

@[simp] theorem State.offer_ring_band (s : State) (n : Nat) : (s.offer n).ring.band = s.ring.band := by
  unfold State.offer; (repeat' split) <;> simp

@[simp] theorem State.offer_link (s : State) (n : Nat) : (s.offer n).link = s.link := by
  unfold State.offer; (repeat' split) <;> simp

@[simp] theorem State.offer_assembler (s : State) (n : Nat) : (s.offer n).assembler = s.assembler := by
  unfold State.offer; (repeat' split) <;> simp

@[simp] theorem State.offer_index (s : State) (n : Nat) : (s.offer n).index = s.index := by
  unfold State.offer; (repeat' split) <;> simp

@[simp] theorem State.offer_control (s : State) (n : Nat) : (s.offer n).control = s.control := by
  unfold State.offer; (repeat' split) <;> simp

@[simp] theorem State.offer_drain_contexts (s : State) (n : Nat) : (s.offer n).drain.contexts = s.drain.contexts := by
  unfold State.offer; (repeat' split) <;> simp

@[simp] theorem State.offer_pins (s : State) (n : Nat) : (s.offer n).pins = s.pins := by
  unfold State.offer; (repeat' split) <;> simp

@[simp] theorem State.offer_store (s : State) (n : Nat) : (s.offer n).store = s.store := by
  unfold State.offer; (repeat' split) <;> simp

@[simp] theorem State.offer_power (s : State) (n : Nat) : (s.offer n).power = s.power := by
  unfold State.offer; (repeat' split) <;> simp

@[simp] theorem State.offer_flags (s : State) (n : Nat) : (s.offer n).flags = s.flags := by
  unfold State.offer; (repeat' split) <;> simp

@[simp] theorem State.offer_pending (s : State) (n : Nat) : (s.offer n).pending = s.pending := by
  unfold State.offer; (repeat' split) <;> simp

/-! ### `State.endDoneTakes` -/

@[simp] theorem State.endDoneTakes_ring (s : State) : s.endDoneTakes.ring = s.ring := by
  unfold State.endDoneTakes; exact (foldl_keeps _ State.ring (by intro b a; simp) _ _).trans (by simp)

@[simp] theorem State.endDoneTakes_link (s : State) : s.endDoneTakes.link = s.link := by
  unfold State.endDoneTakes; exact (foldl_keeps _ State.link (by intro b a; simp) _ _).trans (by simp)

@[simp] theorem State.endDoneTakes_assembler (s : State) : s.endDoneTakes.assembler = s.assembler := by
  unfold State.endDoneTakes; exact (foldl_keeps _ State.assembler (by intro b a; simp) _ _).trans (by simp)

@[simp] theorem State.endDoneTakes_index (s : State) : s.endDoneTakes.index = s.index := by
  unfold State.endDoneTakes; exact (foldl_keeps _ State.index (by intro b a; simp) _ _).trans (by simp)

@[simp] theorem State.endDoneTakes_control (s : State) : s.endDoneTakes.control = s.control := by
  unfold State.endDoneTakes; exact (foldl_keeps _ State.control (by intro b a; simp) _ _).trans (by simp)

@[simp] theorem State.endDoneTakes_drain_contexts (s : State) : s.endDoneTakes.drain.contexts = s.drain.contexts := by
  unfold State.endDoneTakes; exact (foldl_keeps _ (fun t : State => t.drain.contexts) (by intro b a; simp) _ _).trans (by simp)

@[simp] theorem State.endDoneTakes_pins (s : State) : s.endDoneTakes.pins = s.pins := by
  unfold State.endDoneTakes; exact (foldl_keeps _ State.pins (by intro b a; simp) _ _).trans (by simp)

@[simp] theorem State.endDoneTakes_store (s : State) : s.endDoneTakes.store = s.store := by
  unfold State.endDoneTakes; exact (foldl_keeps _ State.store (by intro b a; simp) _ _).trans (by simp)

@[simp] theorem State.endDoneTakes_power (s : State) : s.endDoneTakes.power = s.power := by
  unfold State.endDoneTakes; exact (foldl_keeps _ State.power (by intro b a; simp) _ _).trans (by simp)

@[simp] theorem State.endDoneTakes_flags (s : State) : s.endDoneTakes.flags = s.flags := by
  unfold State.endDoneTakes; exact (foldl_keeps _ State.flags (by intro b a; simp) _ _).trans (by simp)

@[simp] theorem State.endDoneTakes_pending (s : State) : s.endDoneTakes.pending = s.pending := by
  unfold State.endDoneTakes; exact (foldl_keeps _ State.pending (by intro b a; simp) _ _).trans (by simp)

/-! ### `State.endParkedTakes` -/

@[simp] theorem State.endParkedTakes_ring (s : State) : s.endParkedTakes.ring = s.ring := by
  unfold State.endParkedTakes; exact (foldl_keeps _ State.ring (by intro b a; simp) _ _).trans (by simp)

@[simp] theorem State.endParkedTakes_link (s : State) : s.endParkedTakes.link = s.link := by
  unfold State.endParkedTakes; exact (foldl_keeps _ State.link (by intro b a; simp) _ _).trans (by simp)

@[simp] theorem State.endParkedTakes_assembler (s : State) : s.endParkedTakes.assembler = s.assembler := by
  unfold State.endParkedTakes; exact (foldl_keeps _ State.assembler (by intro b a; simp) _ _).trans (by simp)

@[simp] theorem State.endParkedTakes_index (s : State) : s.endParkedTakes.index = s.index := by
  unfold State.endParkedTakes; exact (foldl_keeps _ State.index (by intro b a; simp) _ _).trans (by simp)

@[simp] theorem State.endParkedTakes_control (s : State) : s.endParkedTakes.control = s.control := by
  unfold State.endParkedTakes; exact (foldl_keeps _ State.control (by intro b a; simp) _ _).trans (by simp)

@[simp] theorem State.endParkedTakes_drain_contexts (s : State) : s.endParkedTakes.drain.contexts = s.drain.contexts := by
  unfold State.endParkedTakes; exact (foldl_keeps _ (fun t : State => t.drain.contexts) (by intro b a; simp) _ _).trans (by simp)

@[simp] theorem State.endParkedTakes_pins (s : State) : s.endParkedTakes.pins = s.pins := by
  unfold State.endParkedTakes; exact (foldl_keeps _ State.pins (by intro b a; simp) _ _).trans (by simp)

@[simp] theorem State.endParkedTakes_store (s : State) : s.endParkedTakes.store = s.store := by
  unfold State.endParkedTakes; exact (foldl_keeps _ State.store (by intro b a; simp) _ _).trans (by simp)

@[simp] theorem State.endParkedTakes_power (s : State) : s.endParkedTakes.power = s.power := by
  unfold State.endParkedTakes; exact (foldl_keeps _ State.power (by intro b a; simp) _ _).trans (by simp)

@[simp] theorem State.endParkedTakes_flags (s : State) : s.endParkedTakes.flags = s.flags := by
  unfold State.endParkedTakes; exact (foldl_keeps _ State.flags (by intro b a; simp) _ _).trans (by simp)

@[simp] theorem State.endParkedTakes_pending (s : State) : s.endParkedTakes.pending = s.pending := by
  unfold State.endParkedTakes; exact (foldl_keeps _ State.pending (by intro b a; simp) _ _).trans (by simp)

/-! ### `State.testArchiveMark` -/

@[simp] theorem State.testArchiveMark_ring (s : State) : s.testArchiveMark.ring = s.ring := by
  unfold State.testArchiveMark; (repeat' split) <;> simp

@[simp] theorem State.testArchiveMark_link (s : State) : s.testArchiveMark.link = s.link := by
  unfold State.testArchiveMark; (repeat' split) <;> simp

@[simp] theorem State.testArchiveMark_assembler (s : State) : s.testArchiveMark.assembler = s.assembler := by
  unfold State.testArchiveMark; (repeat' split) <;> simp

@[simp] theorem State.testArchiveMark_index (s : State) : s.testArchiveMark.index = s.index := by
  unfold State.testArchiveMark; (repeat' split) <;> simp

@[simp] theorem State.testArchiveMark_control_capture (s : State) : s.testArchiveMark.control.capture = s.control.capture := by
  unfold State.testArchiveMark; (repeat' split) <;> simp

@[simp] theorem State.testArchiveMark_control_stopReason (s : State) : s.testArchiveMark.control.stopReason = s.control.stopReason := by
  unfold State.testArchiveMark; (repeat' split) <;> simp

@[simp] theorem State.testArchiveMark_control_stoppingReason (s : State) : s.testArchiveMark.control.stoppingReason = s.control.stoppingReason := by
  unfold State.testArchiveMark; (repeat' split) <;> simp

@[simp] theorem State.testArchiveMark_control_orderlyHalt (s : State) : s.testArchiveMark.control.orderlyHalt = s.control.orderlyHalt := by
  unfold State.testArchiveMark; (repeat' split) <;> simp

@[simp] theorem State.testArchiveMark_control_active (s : State) : s.testArchiveMark.control.active = s.control.active := by
  unfold State.testArchiveMark; (repeat' split) <;> simp

@[simp] theorem State.testArchiveMark_control_requested (s : State) : s.testArchiveMark.control.requested = s.control.requested := by
  unfold State.testArchiveMark; (repeat' split) <;> simp

@[simp] theorem State.testArchiveMark_control_staged (s : State) : s.testArchiveMark.control.staged = s.control.staged := by
  unfold State.testArchiveMark; (repeat' split) <;> simp

@[simp] theorem State.testArchiveMark_control_swapPending (s : State) : s.testArchiveMark.control.swapPending = s.control.swapPending := by
  unfold State.testArchiveMark; (repeat' split) <;> simp

@[simp] theorem State.testArchiveMark_control_headMark (s : State) : s.testArchiveMark.control.headMark = s.control.headMark := by
  unfold State.testArchiveMark; (repeat' split) <;> simp

@[simp] theorem State.testArchiveMark_drain (s : State) : s.testArchiveMark.drain = s.drain := by
  unfold State.testArchiveMark; (repeat' split) <;> simp

@[simp] theorem State.testArchiveMark_pins (s : State) : s.testArchiveMark.pins = s.pins := by
  unfold State.testArchiveMark; (repeat' split) <;> simp

@[simp] theorem State.testArchiveMark_store (s : State) : s.testArchiveMark.store = s.store := by
  unfold State.testArchiveMark; (repeat' split) <;> simp

@[simp] theorem State.testArchiveMark_power (s : State) : s.testArchiveMark.power = s.power := by
  unfold State.testArchiveMark; (repeat' split) <;> simp

@[simp] theorem State.testArchiveMark_pending (s : State) : s.testArchiveMark.pending = s.pending := by
  unfold State.testArchiveMark; (repeat' split) <;> simp

/-! ### `State.settleRing` -/

@[simp] theorem State.settleRing_ring_head (s : State) (n : Nat) : (s.settleRing n).ring.head = s.ring.head := by
  unfold State.settleRing; dsimp only; split <;> simp

@[simp] theorem State.settleRing_ring_tail (s : State) (n : Nat) : (s.settleRing n).ring.tail = s.ring.tail := by
  unfold State.settleRing; dsimp only; split <;> simp

@[simp] theorem State.settleRing_ring_blocks (s : State) (n : Nat) : (s.settleRing n).ring.blocks = s.ring.blocks := by
  unfold State.settleRing; dsimp only; split <;> simp

@[simp] theorem State.settleRing_link_locked (s : State) (n : Nat) : (s.settleRing n).link.locked = s.link.locked := by
  unfold State.settleRing; dsimp only; split <;> simp

@[simp] theorem State.settleRing_link_expected (s : State) (n : Nat) : (s.settleRing n).link.expected = s.link.expected := by
  unfold State.settleRing; dsimp only; split <;> simp

@[simp] theorem State.settleRing_link_intake (s : State) (n : Nat) : (s.settleRing n).link.intake = s.link.intake := by
  unfold State.settleRing; dsimp only; split <;> simp

@[simp] theorem State.settleRing_link_pendingLoss (s : State) (n : Nat) : (s.settleRing n).link.pendingLoss = s.link.pendingLoss := by
  unfold State.settleRing; dsimp only; split <;> simp

@[simp] theorem State.settleRing_link_captureEnable (s : State) (n : Nat) : (s.settleRing n).link.captureEnable = s.link.captureEnable := by
  unfold State.settleRing; dsimp only; split <;> simp

@[simp] theorem State.settleRing_link_haltLine (s : State) (n : Nat) : (s.settleRing n).link.haltLine = s.link.haltLine := by
  unfold State.settleRing; dsimp only; split <;> simp

@[simp] theorem State.settleRing_link_counts (s : State) (n : Nat) : (s.settleRing n).link.counts = s.link.counts := by
  unfold State.settleRing; dsimp only; split <;> simp

@[simp] theorem State.settleRing_assembler (s : State) (n : Nat) : (s.settleRing n).assembler = s.assembler := by
  unfold State.settleRing; dsimp only; split <;> simp

@[simp] theorem State.settleRing_index (s : State) (n : Nat) : (s.settleRing n).index = s.index := by
  unfold State.settleRing; dsimp only; split <;> simp

@[simp] theorem State.settleRing_control_capture (s : State) (n : Nat) : (s.settleRing n).control.capture = s.control.capture := by
  unfold State.settleRing; dsimp only; split <;> simp

@[simp] theorem State.settleRing_control_stopReason (s : State) (n : Nat) : (s.settleRing n).control.stopReason = s.control.stopReason := by
  unfold State.settleRing; dsimp only; split <;> simp

@[simp] theorem State.settleRing_control_stoppingReason (s : State) (n : Nat) : (s.settleRing n).control.stoppingReason = s.control.stoppingReason := by
  unfold State.settleRing; dsimp only; split <;> simp

@[simp] theorem State.settleRing_control_orderlyHalt (s : State) (n : Nat) : (s.settleRing n).control.orderlyHalt = s.control.orderlyHalt := by
  unfold State.settleRing; dsimp only; split <;> simp

@[simp] theorem State.settleRing_control_active (s : State) (n : Nat) : (s.settleRing n).control.active = s.control.active := by
  unfold State.settleRing; dsimp only; split <;> simp

@[simp] theorem State.settleRing_control_requested (s : State) (n : Nat) : (s.settleRing n).control.requested = s.control.requested := by
  unfold State.settleRing; dsimp only; split <;> simp

@[simp] theorem State.settleRing_control_staged (s : State) (n : Nat) : (s.settleRing n).control.staged = s.control.staged := by
  unfold State.settleRing; dsimp only; split <;> simp

@[simp] theorem State.settleRing_control_swapPending (s : State) (n : Nat) : (s.settleRing n).control.swapPending = s.control.swapPending := by
  unfold State.settleRing; dsimp only; split <;> simp

@[simp] theorem State.settleRing_control_headMark (s : State) (n : Nat) : (s.settleRing n).control.headMark = s.control.headMark := by
  unfold State.settleRing; dsimp only; split <;> simp

@[simp] theorem State.settleRing_drain_contexts (s : State) (n : Nat) : (s.settleRing n).drain.contexts = s.drain.contexts := by
  unfold State.settleRing; dsimp only; split <;> simp

@[simp] theorem State.settleRing_pins (s : State) (n : Nat) : (s.settleRing n).pins = s.pins := by
  unfold State.settleRing; dsimp only; split <;> simp

@[simp] theorem State.settleRing_store (s : State) (n : Nat) : (s.settleRing n).store = s.store := by
  unfold State.settleRing; dsimp only; split <;> simp

@[simp] theorem State.settleRing_power (s : State) (n : Nat) : (s.settleRing n).power = s.power := by
  unfold State.settleRing; dsimp only; split <;> simp

@[simp] theorem State.settleRing_pending (s : State) (n : Nat) : (s.settleRing n).pending = s.pending := by
  unfold State.settleRing; dsimp only; split <;> simp

/-! ### `State.leavingReport` -/

@[simp] theorem State.leavingReport_ring (s : State) (b : Block) (x : Bool) : (s.leavingReport b x).ring = s.ring := by
  unfold State.leavingReport; (repeat' split) <;> simp

@[simp] theorem State.leavingReport_link (s : State) (b : Block) (x : Bool) : (s.leavingReport b x).link = s.link := by
  unfold State.leavingReport; (repeat' split) <;> simp

@[simp] theorem State.leavingReport_assembler (s : State) (b : Block) (x : Bool) : (s.leavingReport b x).assembler = s.assembler := by
  unfold State.leavingReport; (repeat' split) <;> simp

@[simp] theorem State.leavingReport_control (s : State) (b : Block) (x : Bool) : (s.leavingReport b x).control = s.control := by
  unfold State.leavingReport; (repeat' split) <;> simp

@[simp] theorem State.leavingReport_drain (s : State) (b : Block) (x : Bool) : (s.leavingReport b x).drain = s.drain := by
  unfold State.leavingReport; (repeat' split) <;> simp

@[simp] theorem State.leavingReport_pins (s : State) (b : Block) (x : Bool) : (s.leavingReport b x).pins = s.pins := by
  unfold State.leavingReport; (repeat' split) <;> simp

@[simp] theorem State.leavingReport_store (s : State) (b : Block) (x : Bool) : (s.leavingReport b x).store = s.store := by
  unfold State.leavingReport; (repeat' split) <;> simp

@[simp] theorem State.leavingReport_power (s : State) (b : Block) (x : Bool) : (s.leavingReport b x).power = s.power := by
  unfold State.leavingReport; (repeat' split) <;> simp

@[simp] theorem State.leavingReport_flags (s : State) (b : Block) (x : Bool) : (s.leavingReport b x).flags = s.flags := by
  unfold State.leavingReport; (repeat' split) <;> simp

@[simp] theorem State.leavingReport_viewerPort (s : State) (b : Block) (x : Bool) : (s.leavingReport b x).viewerPort = s.viewerPort := by
  unfold State.leavingReport; (repeat' split) <;> simp

@[simp] theorem State.leavingReport_archivePort (s : State) (b : Block) (x : Bool) : (s.leavingReport b x).archivePort = s.archivePort := by
  unfold State.leavingReport; (repeat' split) <;> simp

@[simp] theorem State.leavingReport_sent (s : State) (b : Block) (x : Bool) : (s.leavingReport b x).sent = s.sent := by
  unfold State.leavingReport; (repeat' split) <;> simp

@[simp] theorem State.leavingReport_pending (s : State) (b : Block) (x : Bool) : (s.leavingReport b x).pending = s.pending := by
  unfold State.leavingReport; (repeat' split) <;> simp

/-! ### `State.emptyTail` -/

@[simp] theorem State.emptyTail_ring_head (s : State) : s.emptyTail.ring.head = s.ring.head := by
  simp [State.emptyTail]

@[simp] theorem State.emptyTail_ring_band (s : State) : s.emptyTail.ring.band = s.ring.band := by
  simp [State.emptyTail]

@[simp] theorem State.emptyTail_link (s : State) : s.emptyTail.link = s.link := by
  simp [State.emptyTail]

@[simp] theorem State.emptyTail_assembler (s : State) : s.emptyTail.assembler = s.assembler := by
  simp [State.emptyTail]

@[simp] theorem State.emptyTail_index (s : State) : s.emptyTail.index = s.index := by
  simp [State.emptyTail]

@[simp] theorem State.emptyTail_control (s : State) : s.emptyTail.control = s.control := by
  simp [State.emptyTail]

@[simp] theorem State.emptyTail_drain (s : State) : s.emptyTail.drain = s.drain := by
  simp [State.emptyTail]

@[simp] theorem State.emptyTail_pins (s : State) : s.emptyTail.pins = s.pins := by
  simp [State.emptyTail]

@[simp] theorem State.emptyTail_store (s : State) : s.emptyTail.store = s.store := by
  simp [State.emptyTail]

@[simp] theorem State.emptyTail_power (s : State) : s.emptyTail.power = s.power := by
  simp [State.emptyTail]

@[simp] theorem State.emptyTail_flags (s : State) : s.emptyTail.flags = s.flags := by
  simp [State.emptyTail]

@[simp] theorem State.emptyTail_viewerPort (s : State) : s.emptyTail.viewerPort = s.viewerPort := by
  simp [State.emptyTail]

@[simp] theorem State.emptyTail_archivePort (s : State) : s.emptyTail.archivePort = s.archivePort := by
  simp [State.emptyTail]

@[simp] theorem State.emptyTail_sent (s : State) : s.emptyTail.sent = s.sent := by
  simp [State.emptyTail]

@[simp] theorem State.emptyTail_pending (s : State) : s.emptyTail.pending = s.pending := by
  simp [State.emptyTail]

/-! ### `State.recycleTail` -/

@[simp] theorem State.recycleTail_ring_head (s : State) (b : Block) : (s.recycleTail b).ring.head = s.ring.head := by
  simp [State.recycleTail]

@[simp] theorem State.recycleTail_ring_band (s : State) (b : Block) : (s.recycleTail b).ring.band = s.ring.band := by
  simp [State.recycleTail]

@[simp] theorem State.recycleTail_link (s : State) (b : Block) : (s.recycleTail b).link = s.link := by
  simp [State.recycleTail]

@[simp] theorem State.recycleTail_assembler (s : State) (b : Block) : (s.recycleTail b).assembler = s.assembler := by
  simp [State.recycleTail]

@[simp] theorem State.recycleTail_control (s : State) (b : Block) : (s.recycleTail b).control = s.control := by
  simp [State.recycleTail]

@[simp] theorem State.recycleTail_drain (s : State) (b : Block) : (s.recycleTail b).drain = s.drain := by
  simp [State.recycleTail]

@[simp] theorem State.recycleTail_pins (s : State) (b : Block) : (s.recycleTail b).pins = s.pins := by
  simp [State.recycleTail]

@[simp] theorem State.recycleTail_store (s : State) (b : Block) : (s.recycleTail b).store = s.store := by
  simp [State.recycleTail]

@[simp] theorem State.recycleTail_power (s : State) (b : Block) : (s.recycleTail b).power = s.power := by
  simp [State.recycleTail]

@[simp] theorem State.recycleTail_flags (s : State) (b : Block) : (s.recycleTail b).flags = s.flags := by
  simp [State.recycleTail]

@[simp] theorem State.recycleTail_viewerPort (s : State) (b : Block) : (s.recycleTail b).viewerPort = s.viewerPort := by
  simp [State.recycleTail]

@[simp] theorem State.recycleTail_archivePort (s : State) (b : Block) : (s.recycleTail b).archivePort = s.archivePort := by
  simp [State.recycleTail]

@[simp] theorem State.recycleTail_sent (s : State) (b : Block) : (s.recycleTail b).sent = s.sent := by
  simp [State.recycleTail]

@[simp] theorem State.recycleTail_pending (s : State) (b : Block) : (s.recycleTail b).pending = s.pending := by
  simp [State.recycleTail]

/-! ### `State.evictTail` -/

@[simp] theorem State.evictTail_ring_head (s : State) (b : Block) : (s.evictTail b).ring.head = s.ring.head := by
  simp [State.evictTail]

@[simp] theorem State.evictTail_ring_band (s : State) (b : Block) : (s.evictTail b).ring.band = s.ring.band := by
  simp [State.evictTail]

@[simp] theorem State.evictTail_link_locked (s : State) (b : Block) : (s.evictTail b).link.locked = s.link.locked := by
  simp [State.evictTail]

@[simp] theorem State.evictTail_link_expected (s : State) (b : Block) : (s.evictTail b).link.expected = s.link.expected := by
  simp [State.evictTail]

@[simp] theorem State.evictTail_link_intake (s : State) (b : Block) : (s.evictTail b).link.intake = s.link.intake := by
  simp [State.evictTail]

@[simp] theorem State.evictTail_link_pendingLoss (s : State) (b : Block) : (s.evictTail b).link.pendingLoss = s.link.pendingLoss := by
  simp [State.evictTail]

@[simp] theorem State.evictTail_link_pause (s : State) (b : Block) : (s.evictTail b).link.pause = s.link.pause := by
  simp [State.evictTail]

@[simp] theorem State.evictTail_link_captureEnable (s : State) (b : Block) : (s.evictTail b).link.captureEnable = s.link.captureEnable := by
  simp [State.evictTail]

@[simp] theorem State.evictTail_link_haltLine (s : State) (b : Block) : (s.evictTail b).link.haltLine = s.link.haltLine := by
  simp [State.evictTail]

@[simp] theorem State.evictTail_assembler (s : State) (b : Block) : (s.evictTail b).assembler = s.assembler := by
  simp [State.evictTail]

@[simp] theorem State.evictTail_control (s : State) (b : Block) : (s.evictTail b).control = s.control := by
  simp [State.evictTail]

@[simp] theorem State.evictTail_drain (s : State) (b : Block) : (s.evictTail b).drain = s.drain := by
  simp [State.evictTail]

@[simp] theorem State.evictTail_pins (s : State) (b : Block) : (s.evictTail b).pins = s.pins := by
  simp [State.evictTail]

@[simp] theorem State.evictTail_store (s : State) (b : Block) : (s.evictTail b).store = s.store := by
  simp [State.evictTail]

@[simp] theorem State.evictTail_power (s : State) (b : Block) : (s.evictTail b).power = s.power := by
  simp [State.evictTail]

@[simp] theorem State.evictTail_flags (s : State) (b : Block) : (s.evictTail b).flags = s.flags := by
  simp [State.evictTail]

@[simp] theorem State.evictTail_sent (s : State) (b : Block) : (s.evictTail b).sent = s.sent := by
  simp [State.evictTail]

@[simp] theorem State.evictTail_pending (s : State) (b : Block) : (s.evictTail b).pending = s.pending := by
  simp [State.evictTail]

/-! ### `State.sealFilling` -/

@[simp] theorem State.sealFilling_ring_head (s : State) : s.sealFilling.ring.head = s.ring.head := by
  unfold State.sealFilling; dsimp only; (repeat' split) <;> simp

@[simp] theorem State.sealFilling_ring_tail (s : State) : s.sealFilling.ring.tail = s.ring.tail := by
  unfold State.sealFilling; dsimp only; (repeat' split) <;> simp

@[simp] theorem State.sealFilling_ring_band (s : State) : s.sealFilling.ring.band = s.ring.band := by
  unfold State.sealFilling; dsimp only; (repeat' split) <;> simp

@[simp] theorem State.sealFilling_link_locked (s : State) : s.sealFilling.link.locked = s.link.locked := by
  unfold State.sealFilling; dsimp only; (repeat' split) <;> simp

@[simp] theorem State.sealFilling_link_expected (s : State) : s.sealFilling.link.expected = s.link.expected := by
  unfold State.sealFilling; dsimp only; (repeat' split) <;> simp

@[simp] theorem State.sealFilling_link_intake (s : State) : s.sealFilling.link.intake = s.link.intake := by
  unfold State.sealFilling; dsimp only; (repeat' split) <;> simp

@[simp] theorem State.sealFilling_link_pendingLoss (s : State) : s.sealFilling.link.pendingLoss = s.link.pendingLoss := by
  unfold State.sealFilling; dsimp only; (repeat' split) <;> simp

@[simp] theorem State.sealFilling_link_pause (s : State) : s.sealFilling.link.pause = s.link.pause := by
  unfold State.sealFilling; dsimp only; (repeat' split) <;> simp

@[simp] theorem State.sealFilling_link_captureEnable (s : State) : s.sealFilling.link.captureEnable = s.link.captureEnable := by
  unfold State.sealFilling; dsimp only; (repeat' split) <;> simp

@[simp] theorem State.sealFilling_link_haltLine (s : State) : s.sealFilling.link.haltLine = s.link.haltLine := by
  unfold State.sealFilling; dsimp only; (repeat' split) <;> simp

@[simp] theorem State.sealFilling_assembler (s : State) : s.sealFilling.assembler = s.assembler := by
  unfold State.sealFilling; dsimp only; (repeat' split) <;> simp

@[simp] theorem State.sealFilling_index (s : State) : s.sealFilling.index = s.index := by
  unfold State.sealFilling; dsimp only; (repeat' split) <;> simp

@[simp] theorem State.sealFilling_control (s : State) : s.sealFilling.control = s.control := by
  unfold State.sealFilling; dsimp only; (repeat' split) <;> simp

@[simp] theorem State.sealFilling_drain_contexts (s : State) : s.sealFilling.drain.contexts = s.drain.contexts := by
  unfold State.sealFilling; dsimp only; (repeat' split) <;> simp

@[simp] theorem State.sealFilling_pins (s : State) : s.sealFilling.pins = s.pins := by
  unfold State.sealFilling; dsimp only; (repeat' split) <;> simp

@[simp] theorem State.sealFilling_store (s : State) : s.sealFilling.store = s.store := by
  unfold State.sealFilling; dsimp only; (repeat' split) <;> simp

@[simp] theorem State.sealFilling_power (s : State) : s.sealFilling.power = s.power := by
  unfold State.sealFilling; dsimp only; (repeat' split) <;> simp

@[simp] theorem State.sealFilling_pending (s : State) : s.sealFilling.pending = s.pending := by
  unfold State.sealFilling; dsimp only; (repeat' split) <;> simp

/-! ### `State.spendSlice` -/

@[simp] theorem State.spendSlice_ring (s : State) (n : Nat) : (s.spendSlice n).ring = s.ring := by
  simp [State.spendSlice]

@[simp] theorem State.spendSlice_link (s : State) (n : Nat) : (s.spendSlice n).link = s.link := by
  simp [State.spendSlice]

@[simp] theorem State.spendSlice_assembler_continuation (s : State) (n : Nat) : (s.spendSlice n).assembler.continuation = s.assembler.continuation := by
  simp [State.spendSlice]

@[simp] theorem State.spendSlice_assembler_idleFlush (s : State) (n : Nat) : (s.spendSlice n).assembler.idleFlush = s.assembler.idleFlush := by
  simp [State.spendSlice]

@[simp] theorem State.spendSlice_assembler_nextSegment (s : State) (n : Nat) : (s.spendSlice n).assembler.nextSegment = s.assembler.nextSegment := by
  simp [State.spendSlice]

@[simp] theorem State.spendSlice_assembler_stage (s : State) (n : Nat) : (s.spendSlice n).assembler.stage = s.assembler.stage := by
  simp [State.spendSlice]

@[simp] theorem State.spendSlice_index (s : State) (n : Nat) : (s.spendSlice n).index = s.index := by
  simp [State.spendSlice]

@[simp] theorem State.spendSlice_control (s : State) (n : Nat) : (s.spendSlice n).control = s.control := by
  simp [State.spendSlice]

@[simp] theorem State.spendSlice_drain (s : State) (n : Nat) : (s.spendSlice n).drain = s.drain := by
  simp [State.spendSlice]

@[simp] theorem State.spendSlice_pins (s : State) (n : Nat) : (s.spendSlice n).pins = s.pins := by
  simp [State.spendSlice]

@[simp] theorem State.spendSlice_store (s : State) (n : Nat) : (s.spendSlice n).store = s.store := by
  simp [State.spendSlice]

@[simp] theorem State.spendSlice_power (s : State) (n : Nat) : (s.spendSlice n).power = s.power := by
  simp [State.spendSlice]

@[simp] theorem State.spendSlice_flags (s : State) (n : Nat) : (s.spendSlice n).flags = s.flags := by
  simp [State.spendSlice]

@[simp] theorem State.spendSlice_viewerPort (s : State) (n : Nat) : (s.spendSlice n).viewerPort = s.viewerPort := by
  simp [State.spendSlice]

@[simp] theorem State.spendSlice_archivePort (s : State) (n : Nat) : (s.spendSlice n).archivePort = s.archivePort := by
  simp [State.spendSlice]

@[simp] theorem State.spendSlice_sent (s : State) (n : Nat) : (s.spendSlice n).sent = s.sent := by
  simp [State.spendSlice]

@[simp] theorem State.spendSlice_pending (s : State) (n : Nat) : (s.spendSlice n).pending = s.pending := by
  simp [State.spendSlice]

/-! ### `State.recordGap` -/

@[simp] theorem State.recordGap_ring (s : State) (n : Nat) (c : GapCause) (m : Bool) : (s.recordGap n c m).ring = s.ring := by
  unfold State.recordGap; (repeat' split) <;> simp

@[simp] theorem State.recordGap_link (s : State) (n : Nat) (c : GapCause) (m : Bool) : (s.recordGap n c m).link = s.link := by
  unfold State.recordGap; (repeat' split) <;> simp

@[simp] theorem State.recordGap_assembler_continuation (s : State) (n : Nat) (c : GapCause) (m : Bool) : (s.recordGap n c m).assembler.continuation = s.assembler.continuation := by
  unfold State.recordGap; (repeat' split) <;> simp

@[simp] theorem State.recordGap_assembler_idleFlush (s : State) (n : Nat) (c : GapCause) (m : Bool) : (s.recordGap n c m).assembler.idleFlush = s.assembler.idleFlush := by
  unfold State.recordGap; (repeat' split) <;> simp

@[simp] theorem State.recordGap_assembler_nextSegment (s : State) (n : Nat) (c : GapCause) (m : Bool) : (s.recordGap n c m).assembler.nextSegment = s.assembler.nextSegment := by
  unfold State.recordGap; (repeat' split) <;> simp

@[simp] theorem State.recordGap_assembler_stage (s : State) (n : Nat) (c : GapCause) (m : Bool) : (s.recordGap n c m).assembler.stage = s.assembler.stage := by
  unfold State.recordGap; (repeat' split) <;> simp

@[simp] theorem State.recordGap_control (s : State) (n : Nat) (c : GapCause) (m : Bool) : (s.recordGap n c m).control = s.control := by
  unfold State.recordGap; (repeat' split) <;> simp

@[simp] theorem State.recordGap_drain (s : State) (n : Nat) (c : GapCause) (m : Bool) : (s.recordGap n c m).drain = s.drain := by
  unfold State.recordGap; (repeat' split) <;> simp

@[simp] theorem State.recordGap_pins (s : State) (n : Nat) (c : GapCause) (m : Bool) : (s.recordGap n c m).pins = s.pins := by
  unfold State.recordGap; (repeat' split) <;> simp

@[simp] theorem State.recordGap_store (s : State) (n : Nat) (c : GapCause) (m : Bool) : (s.recordGap n c m).store = s.store := by
  unfold State.recordGap; (repeat' split) <;> simp

@[simp] theorem State.recordGap_power (s : State) (n : Nat) (c : GapCause) (m : Bool) : (s.recordGap n c m).power = s.power := by
  unfold State.recordGap; (repeat' split) <;> simp

@[simp] theorem State.recordGap_flags (s : State) (n : Nat) (c : GapCause) (m : Bool) : (s.recordGap n c m).flags = s.flags := by
  unfold State.recordGap; (repeat' split) <;> simp

@[simp] theorem State.recordGap_viewerPort (s : State) (n : Nat) (c : GapCause) (m : Bool) : (s.recordGap n c m).viewerPort = s.viewerPort := by
  unfold State.recordGap; (repeat' split) <;> simp

@[simp] theorem State.recordGap_archivePort (s : State) (n : Nat) (c : GapCause) (m : Bool) : (s.recordGap n c m).archivePort = s.archivePort := by
  unfold State.recordGap; (repeat' split) <;> simp

@[simp] theorem State.recordGap_sent (s : State) (n : Nat) (c : GapCause) (m : Bool) : (s.recordGap n c m).sent = s.sent := by
  unfold State.recordGap; (repeat' split) <;> simp

@[simp] theorem State.recordGap_pending (s : State) (n : Nat) (c : GapCause) (m : Bool) : (s.recordGap n c m).pending = s.pending := by
  unfold State.recordGap; (repeat' split) <;> simp

/-! ### `State.recordLoss` -/

@[simp] theorem State.recordLoss_ring (s : State) (l : Option LossRecord) (t : Option Tick) : (s.recordLoss l t).ring = s.ring := by
  unfold State.recordLoss; dsimp only; (repeat' split) <;> simp

@[simp] theorem State.recordLoss_link (s : State) (l : Option LossRecord) (t : Option Tick) : (s.recordLoss l t).link = s.link := by
  unfold State.recordLoss; dsimp only; (repeat' split) <;> simp

@[simp] theorem State.recordLoss_assembler_continuation (s : State) (l : Option LossRecord) (t : Option Tick) : (s.recordLoss l t).assembler.continuation = s.assembler.continuation := by
  unfold State.recordLoss; dsimp only; (repeat' split) <;> simp

@[simp] theorem State.recordLoss_assembler_idleFlush (s : State) (l : Option LossRecord) (t : Option Tick) : (s.recordLoss l t).assembler.idleFlush = s.assembler.idleFlush := by
  unfold State.recordLoss; dsimp only; (repeat' split) <;> simp

@[simp] theorem State.recordLoss_assembler_nextSegment (s : State) (l : Option LossRecord) (t : Option Tick) : (s.recordLoss l t).assembler.nextSegment = s.assembler.nextSegment := by
  unfold State.recordLoss; dsimp only; (repeat' split) <;> simp

@[simp] theorem State.recordLoss_assembler_stage (s : State) (l : Option LossRecord) (t : Option Tick) : (s.recordLoss l t).assembler.stage = s.assembler.stage := by
  unfold State.recordLoss; dsimp only; (repeat' split) <;> simp

@[simp] theorem State.recordLoss_control (s : State) (l : Option LossRecord) (t : Option Tick) : (s.recordLoss l t).control = s.control := by
  unfold State.recordLoss; dsimp only; (repeat' split) <;> simp

@[simp] theorem State.recordLoss_drain (s : State) (l : Option LossRecord) (t : Option Tick) : (s.recordLoss l t).drain = s.drain := by
  unfold State.recordLoss; dsimp only; (repeat' split) <;> simp

@[simp] theorem State.recordLoss_pins (s : State) (l : Option LossRecord) (t : Option Tick) : (s.recordLoss l t).pins = s.pins := by
  unfold State.recordLoss; dsimp only; (repeat' split) <;> simp

@[simp] theorem State.recordLoss_store (s : State) (l : Option LossRecord) (t : Option Tick) : (s.recordLoss l t).store = s.store := by
  unfold State.recordLoss; dsimp only; (repeat' split) <;> simp

@[simp] theorem State.recordLoss_power (s : State) (l : Option LossRecord) (t : Option Tick) : (s.recordLoss l t).power = s.power := by
  unfold State.recordLoss; dsimp only; (repeat' split) <;> simp

@[simp] theorem State.recordLoss_flags (s : State) (l : Option LossRecord) (t : Option Tick) : (s.recordLoss l t).flags = s.flags := by
  unfold State.recordLoss; dsimp only; (repeat' split) <;> simp

@[simp] theorem State.recordLoss_viewerPort (s : State) (l : Option LossRecord) (t : Option Tick) : (s.recordLoss l t).viewerPort = s.viewerPort := by
  unfold State.recordLoss; dsimp only; (repeat' split) <;> simp

@[simp] theorem State.recordLoss_archivePort (s : State) (l : Option LossRecord) (t : Option Tick) : (s.recordLoss l t).archivePort = s.archivePort := by
  unfold State.recordLoss; dsimp only; (repeat' split) <;> simp

@[simp] theorem State.recordLoss_sent (s : State) (l : Option LossRecord) (t : Option Tick) : (s.recordLoss l t).sent = s.sent := by
  unfold State.recordLoss; dsimp only; (repeat' split) <;> simp

@[simp] theorem State.recordLoss_pending (s : State) (l : Option LossRecord) (t : Option Tick) : (s.recordLoss l t).pending = s.pending := by
  unfold State.recordLoss; dsimp only; (repeat' split) <;> simp

/-! ### `State.discardIntake` -/

@[simp] theorem State.discardIntake_ring (s : State) : s.discardIntake.ring = s.ring := by
  simp [State.discardIntake]

@[simp] theorem State.discardIntake_link_locked (s : State) : s.discardIntake.link.locked = s.link.locked := by
  simp [State.discardIntake]

@[simp] theorem State.discardIntake_link_expected (s : State) : s.discardIntake.link.expected = s.link.expected := by
  simp [State.discardIntake]

@[simp] theorem State.discardIntake_link_captureEnable (s : State) : s.discardIntake.link.captureEnable = s.link.captureEnable := by
  simp [State.discardIntake]

@[simp] theorem State.discardIntake_link_haltLine (s : State) : s.discardIntake.link.haltLine = s.link.haltLine := by
  simp [State.discardIntake]

@[simp] theorem State.discardIntake_assembler_continuation (s : State) : s.discardIntake.assembler.continuation = s.assembler.continuation := by
  simp [State.discardIntake]

@[simp] theorem State.discardIntake_assembler_sliceCounter (s : State) : s.discardIntake.assembler.sliceCounter = s.assembler.sliceCounter := by
  simp [State.discardIntake]

@[simp] theorem State.discardIntake_assembler_idleFlush (s : State) : s.discardIntake.assembler.idleFlush = s.assembler.idleFlush := by
  simp [State.discardIntake]

@[simp] theorem State.discardIntake_assembler_nextSegment (s : State) : s.discardIntake.assembler.nextSegment = s.assembler.nextSegment := by
  simp [State.discardIntake]

@[simp] theorem State.discardIntake_index (s : State) : s.discardIntake.index = s.index := by
  simp [State.discardIntake]

@[simp] theorem State.discardIntake_control (s : State) : s.discardIntake.control = s.control := by
  simp [State.discardIntake]

@[simp] theorem State.discardIntake_drain (s : State) : s.discardIntake.drain = s.drain := by
  simp [State.discardIntake]

@[simp] theorem State.discardIntake_pins (s : State) : s.discardIntake.pins = s.pins := by
  simp [State.discardIntake]

@[simp] theorem State.discardIntake_store_archiveQueue (s : State) : s.discardIntake.store.archiveQueue = s.store.archiveQueue := by
  simp [State.discardIntake]

@[simp] theorem State.discardIntake_store_viewerQueue (s : State) : s.discardIntake.store.viewerQueue = s.store.viewerQueue := by
  simp [State.discardIntake]

@[simp] theorem State.discardIntake_store_turn (s : State) : s.discardIntake.store.turn = s.store.turn := by
  simp [State.discardIntake]

@[simp] theorem State.discardIntake_store_inFlight (s : State) : s.discardIntake.store.inFlight = s.store.inFlight := by
  simp [State.discardIntake]

@[simp] theorem State.discardIntake_store_memory (s : State) : s.discardIntake.store.memory = s.store.memory := by
  simp [State.discardIntake]

@[simp] theorem State.discardIntake_store_readsDone (s : State) : s.discardIntake.store.readsDone = s.store.readsDone := by
  simp [State.discardIntake]

@[simp] theorem State.discardIntake_power (s : State) : s.discardIntake.power = s.power := by
  simp [State.discardIntake]

@[simp] theorem State.discardIntake_flags (s : State) : s.discardIntake.flags = s.flags := by
  simp [State.discardIntake]

@[simp] theorem State.discardIntake_viewerPort (s : State) : s.discardIntake.viewerPort = s.viewerPort := by
  simp [State.discardIntake]

@[simp] theorem State.discardIntake_archivePort (s : State) : s.discardIntake.archivePort = s.archivePort := by
  simp [State.discardIntake]

@[simp] theorem State.discardIntake_sent (s : State) : s.discardIntake.sent = s.sent := by
  simp [State.discardIntake]

@[simp] theorem State.discardIntake_pending (s : State) : s.discardIntake.pending = s.pending := by
  simp [State.discardIntake]

/-! ### `State.enterStopped` -/

@[simp] theorem State.enterStopped_ring_head (s : State) (r : StopReason) : (s.enterStopped r).ring.head = s.ring.head := by
  unfold State.enterStopped; dsimp only; split <;> simp

@[simp] theorem State.enterStopped_ring_tail (s : State) (r : StopReason) : (s.enterStopped r).ring.tail = s.ring.tail := by
  unfold State.enterStopped; dsimp only; split <;> simp

@[simp] theorem State.enterStopped_ring_blocks (s : State) (r : StopReason) : (s.enterStopped r).ring.blocks = s.ring.blocks := by
  unfold State.enterStopped; dsimp only; split <;> simp

@[simp] theorem State.enterStopped_link_locked (s : State) (r : StopReason) : (s.enterStopped r).link.locked = s.link.locked := by
  unfold State.enterStopped; dsimp only; split <;> simp

@[simp] theorem State.enterStopped_link_expected (s : State) (r : StopReason) : (s.enterStopped r).link.expected = s.link.expected := by
  unfold State.enterStopped; dsimp only; split <;> simp

@[simp] theorem State.enterStopped_link_haltLine (s : State) (r : StopReason) : (s.enterStopped r).link.haltLine = s.link.haltLine := by
  unfold State.enterStopped; dsimp only; split <;> simp

@[simp] theorem State.enterStopped_assembler_sliceCounter (s : State) (r : StopReason) : (s.enterStopped r).assembler.sliceCounter = s.assembler.sliceCounter := by
  unfold State.enterStopped; dsimp only; split <;> simp

@[simp] theorem State.enterStopped_assembler_idleFlush (s : State) (r : StopReason) : (s.enterStopped r).assembler.idleFlush = s.assembler.idleFlush := by
  unfold State.enterStopped; dsimp only; split <;> simp

@[simp] theorem State.enterStopped_assembler_nextSegment (s : State) (r : StopReason) : (s.enterStopped r).assembler.nextSegment = s.assembler.nextSegment := by
  unfold State.enterStopped; dsimp only; split <;> simp

@[simp] theorem State.enterStopped_index (s : State) (r : StopReason) : (s.enterStopped r).index = s.index := by
  unfold State.enterStopped; dsimp only; split <;> simp

@[simp] theorem State.enterStopped_control_staged (s : State) (r : StopReason) : (s.enterStopped r).control.staged = s.control.staged := by
  unfold State.enterStopped; dsimp only; split <;> simp

@[simp] theorem State.enterStopped_control_headMark (s : State) (r : StopReason) : (s.enterStopped r).control.headMark = s.control.headMark := by
  unfold State.enterStopped; dsimp only; split <;> simp

@[simp] theorem State.enterStopped_control_archiveMark (s : State) (r : StopReason) : (s.enterStopped r).control.archiveMark = s.control.archiveMark := by
  unfold State.enterStopped; dsimp only; split <;> simp

@[simp] theorem State.enterStopped_drain_contexts (s : State) (r : StopReason) : (s.enterStopped r).drain.contexts = s.drain.contexts := by
  unfold State.enterStopped; dsimp only; split <;> simp

@[simp] theorem State.enterStopped_pins (s : State) (r : StopReason) : (s.enterStopped r).pins = s.pins := by
  unfold State.enterStopped; dsimp only; split <;> simp

@[simp] theorem State.enterStopped_store_archiveQueue (s : State) (r : StopReason) : (s.enterStopped r).store.archiveQueue = s.store.archiveQueue := by
  unfold State.enterStopped; dsimp only; split <;> simp

@[simp] theorem State.enterStopped_store_viewerQueue (s : State) (r : StopReason) : (s.enterStopped r).store.viewerQueue = s.store.viewerQueue := by
  unfold State.enterStopped; dsimp only; split <;> simp

@[simp] theorem State.enterStopped_store_turn (s : State) (r : StopReason) : (s.enterStopped r).store.turn = s.store.turn := by
  unfold State.enterStopped; dsimp only; split <;> simp

@[simp] theorem State.enterStopped_store_inFlight (s : State) (r : StopReason) : (s.enterStopped r).store.inFlight = s.store.inFlight := by
  unfold State.enterStopped; dsimp only; split <;> simp

@[simp] theorem State.enterStopped_store_memory (s : State) (r : StopReason) : (s.enterStopped r).store.memory = s.store.memory := by
  unfold State.enterStopped; dsimp only; split <;> simp

@[simp] theorem State.enterStopped_store_readsDone (s : State) (r : StopReason) : (s.enterStopped r).store.readsDone = s.store.readsDone := by
  unfold State.enterStopped; dsimp only; split <;> simp

@[simp] theorem State.enterStopped_power (s : State) (r : StopReason) : (s.enterStopped r).power = s.power := by
  unfold State.enterStopped; dsimp only; split <;> simp

@[simp] theorem State.enterStopped_pending (s : State) (r : StopReason) : (s.enterStopped r).pending = s.pending := by
  unfold State.enterStopped; dsimp only; split <;> simp

/-! ### `State.clearTimers` -/

@[simp] theorem State.clearTimers_ring (s : State) (c : Option Continuation) : (s.clearTimers c).ring = s.ring := by
  simp [State.clearTimers]

@[simp] theorem State.clearTimers_link (s : State) (c : Option Continuation) : (s.clearTimers c).link = s.link := by
  simp [State.clearTimers]

@[simp] theorem State.clearTimers_assembler_nextSegment (s : State) (c : Option Continuation) : (s.clearTimers c).assembler.nextSegment = s.assembler.nextSegment := by
  simp [State.clearTimers]

@[simp] theorem State.clearTimers_assembler_stage (s : State) (c : Option Continuation) : (s.clearTimers c).assembler.stage = s.assembler.stage := by
  simp [State.clearTimers]

@[simp] theorem State.clearTimers_index (s : State) (c : Option Continuation) : (s.clearTimers c).index = s.index := by
  simp [State.clearTimers]

@[simp] theorem State.clearTimers_control (s : State) (c : Option Continuation) : (s.clearTimers c).control = s.control := by
  simp [State.clearTimers]

@[simp] theorem State.clearTimers_drain (s : State) (c : Option Continuation) : (s.clearTimers c).drain = s.drain := by
  simp [State.clearTimers]

@[simp] theorem State.clearTimers_pins (s : State) (c : Option Continuation) : (s.clearTimers c).pins = s.pins := by
  simp [State.clearTimers]

@[simp] theorem State.clearTimers_store (s : State) (c : Option Continuation) : (s.clearTimers c).store = s.store := by
  simp [State.clearTimers]

@[simp] theorem State.clearTimers_power (s : State) (c : Option Continuation) : (s.clearTimers c).power = s.power := by
  simp [State.clearTimers]

@[simp] theorem State.clearTimers_flags (s : State) (c : Option Continuation) : (s.clearTimers c).flags = s.flags := by
  simp [State.clearTimers]

@[simp] theorem State.clearTimers_viewerPort (s : State) (c : Option Continuation) : (s.clearTimers c).viewerPort = s.viewerPort := by
  simp [State.clearTimers]

@[simp] theorem State.clearTimers_archivePort (s : State) (c : Option Continuation) : (s.clearTimers c).archivePort = s.archivePort := by
  simp [State.clearTimers]

@[simp] theorem State.clearTimers_sent (s : State) (c : Option Continuation) : (s.clearTimers c).sent = s.sent := by
  simp [State.clearTimers]

@[simp] theorem State.clearTimers_pending (s : State) (c : Option Continuation) : (s.clearTimers c).pending = s.pending := by
  simp [State.clearTimers]

/-! ### `State.closeSegment` -/

@[simp] theorem State.closeSegment_ring_head (s : State) (r : CloseReason) : (s.closeSegment r).ring.head = s.ring.head := by
  unfold State.closeSegment; dsimp only; split <;> simp

@[simp] theorem State.closeSegment_ring_tail (s : State) (r : CloseReason) : (s.closeSegment r).ring.tail = s.ring.tail := by
  unfold State.closeSegment; dsimp only; split <;> simp

@[simp] theorem State.closeSegment_ring_band (s : State) (r : CloseReason) : (s.closeSegment r).ring.band = s.ring.band := by
  unfold State.closeSegment; dsimp only; split <;> simp

@[simp] theorem State.closeSegment_link_locked (s : State) (r : CloseReason) : (s.closeSegment r).link.locked = s.link.locked := by
  unfold State.closeSegment; dsimp only; split <;> simp

@[simp] theorem State.closeSegment_link_expected (s : State) (r : CloseReason) : (s.closeSegment r).link.expected = s.link.expected := by
  unfold State.closeSegment; dsimp only; split <;> simp

@[simp] theorem State.closeSegment_link_intake (s : State) (r : CloseReason) : (s.closeSegment r).link.intake = s.link.intake := by
  unfold State.closeSegment; dsimp only; split <;> simp

@[simp] theorem State.closeSegment_link_pendingLoss (s : State) (r : CloseReason) : (s.closeSegment r).link.pendingLoss = s.link.pendingLoss := by
  unfold State.closeSegment; dsimp only; split <;> simp

@[simp] theorem State.closeSegment_link_pause (s : State) (r : CloseReason) : (s.closeSegment r).link.pause = s.link.pause := by
  unfold State.closeSegment; dsimp only; split <;> simp

@[simp] theorem State.closeSegment_link_captureEnable (s : State) (r : CloseReason) : (s.closeSegment r).link.captureEnable = s.link.captureEnable := by
  unfold State.closeSegment; dsimp only; split <;> simp

@[simp] theorem State.closeSegment_link_haltLine (s : State) (r : CloseReason) : (s.closeSegment r).link.haltLine = s.link.haltLine := by
  unfold State.closeSegment; dsimp only; split <;> simp

@[simp] theorem State.closeSegment_assembler_nextSegment (s : State) (r : CloseReason) : (s.closeSegment r).assembler.nextSegment = s.assembler.nextSegment := by
  unfold State.closeSegment; dsimp only; split <;> simp

@[simp] theorem State.closeSegment_assembler_stage (s : State) (r : CloseReason) : (s.closeSegment r).assembler.stage = s.assembler.stage := by
  unfold State.closeSegment; dsimp only; split <;> simp

@[simp] theorem State.closeSegment_control (s : State) (r : CloseReason) : (s.closeSegment r).control = s.control := by
  unfold State.closeSegment; dsimp only; split <;> simp

@[simp] theorem State.closeSegment_drain_contexts (s : State) (r : CloseReason) : (s.closeSegment r).drain.contexts = s.drain.contexts := by
  unfold State.closeSegment; dsimp only; split <;> simp

@[simp] theorem State.closeSegment_pins (s : State) (r : CloseReason) : (s.closeSegment r).pins = s.pins := by
  unfold State.closeSegment; dsimp only; split <;> simp

@[simp] theorem State.closeSegment_store (s : State) (r : CloseReason) : (s.closeSegment r).store = s.store := by
  unfold State.closeSegment; dsimp only; split <;> simp

@[simp] theorem State.closeSegment_power (s : State) (r : CloseReason) : (s.closeSegment r).power = s.power := by
  unfold State.closeSegment; dsimp only; split <;> simp

@[simp] theorem State.closeSegment_pending (s : State) (r : CloseReason) : (s.closeSegment r).pending = s.pending := by
  unfold State.closeSegment; dsimp only; split <;> simp

/-! ### `State.closeInCourse` -/

@[simp] theorem State.closeInCourse_ring_head (s : State) (r : CloseReason) : (s.closeInCourse r).ring.head = s.ring.head := by
  unfold State.closeInCourse; dsimp only; (repeat' split) <;> simp

@[simp] theorem State.closeInCourse_ring_tail (s : State) (r : CloseReason) : (s.closeInCourse r).ring.tail = s.ring.tail := by
  unfold State.closeInCourse; dsimp only; (repeat' split) <;> simp

@[simp] theorem State.closeInCourse_link_locked (s : State) (r : CloseReason) : (s.closeInCourse r).link.locked = s.link.locked := by
  unfold State.closeInCourse; dsimp only; (repeat' split) <;> simp

@[simp] theorem State.closeInCourse_link_expected (s : State) (r : CloseReason) : (s.closeInCourse r).link.expected = s.link.expected := by
  unfold State.closeInCourse; dsimp only; (repeat' split) <;> simp

@[simp] theorem State.closeInCourse_link_haltLine (s : State) (r : CloseReason) : (s.closeInCourse r).link.haltLine = s.link.haltLine := by
  unfold State.closeInCourse; dsimp only; (repeat' split) <;> simp

@[simp] theorem State.closeInCourse_assembler_nextSegment (s : State) (r : CloseReason) : (s.closeInCourse r).assembler.nextSegment = s.assembler.nextSegment := by
  unfold State.closeInCourse; dsimp only; (repeat' split) <;> simp

@[simp] theorem State.closeInCourse_control_staged (s : State) (r : CloseReason) : (s.closeInCourse r).control.staged = s.control.staged := by
  unfold State.closeInCourse; dsimp only; (repeat' split) <;> simp

@[simp] theorem State.closeInCourse_control_headMark (s : State) (r : CloseReason) : (s.closeInCourse r).control.headMark = s.control.headMark := by
  unfold State.closeInCourse; dsimp only; (repeat' split) <;> simp

@[simp] theorem State.closeInCourse_control_archiveMark (s : State) (r : CloseReason) : (s.closeInCourse r).control.archiveMark = s.control.archiveMark := by
  unfold State.closeInCourse; dsimp only; (repeat' split) <;> simp

@[simp] theorem State.closeInCourse_drain_contexts (s : State) (r : CloseReason) : (s.closeInCourse r).drain.contexts = s.drain.contexts := by
  unfold State.closeInCourse; dsimp only; (repeat' split) <;> simp

@[simp] theorem State.closeInCourse_pins (s : State) (r : CloseReason) : (s.closeInCourse r).pins = s.pins := by
  unfold State.closeInCourse; dsimp only; (repeat' split) <;> simp

@[simp] theorem State.closeInCourse_store_archiveQueue (s : State) (r : CloseReason) : (s.closeInCourse r).store.archiveQueue = s.store.archiveQueue := by
  unfold State.closeInCourse; dsimp only; (repeat' split) <;> simp

@[simp] theorem State.closeInCourse_store_viewerQueue (s : State) (r : CloseReason) : (s.closeInCourse r).store.viewerQueue = s.store.viewerQueue := by
  unfold State.closeInCourse; dsimp only; (repeat' split) <;> simp

@[simp] theorem State.closeInCourse_store_turn (s : State) (r : CloseReason) : (s.closeInCourse r).store.turn = s.store.turn := by
  unfold State.closeInCourse; dsimp only; (repeat' split) <;> simp

@[simp] theorem State.closeInCourse_store_inFlight (s : State) (r : CloseReason) : (s.closeInCourse r).store.inFlight = s.store.inFlight := by
  unfold State.closeInCourse; dsimp only; (repeat' split) <;> simp

@[simp] theorem State.closeInCourse_store_memory (s : State) (r : CloseReason) : (s.closeInCourse r).store.memory = s.store.memory := by
  unfold State.closeInCourse; dsimp only; (repeat' split) <;> simp

@[simp] theorem State.closeInCourse_store_readsDone (s : State) (r : CloseReason) : (s.closeInCourse r).store.readsDone = s.store.readsDone := by
  unfold State.closeInCourse; dsimp only; (repeat' split) <;> simp

@[simp] theorem State.closeInCourse_power (s : State) (r : CloseReason) : (s.closeInCourse r).power = s.power := by
  unfold State.closeInCourse; dsimp only; (repeat' split) <;> simp

@[simp] theorem State.closeInCourse_pending (s : State) (r : CloseReason) : (s.closeInCourse r).pending = s.pending := by
  unfold State.closeInCourse; dsimp only; (repeat' split) <;> simp

/-! ### `State.stopAtOnce` -/

@[simp] theorem State.stopAtOnce_ring_head (s : State) (c : CloseReason) (r : StopReason) : (s.stopAtOnce c r).ring.head = s.ring.head := by
  simp [State.stopAtOnce]

@[simp] theorem State.stopAtOnce_ring_tail (s : State) (c : CloseReason) (r : StopReason) : (s.stopAtOnce c r).ring.tail = s.ring.tail := by
  simp [State.stopAtOnce]

@[simp] theorem State.stopAtOnce_link_locked (s : State) (c : CloseReason) (r : StopReason) : (s.stopAtOnce c r).link.locked = s.link.locked := by
  simp [State.stopAtOnce]

@[simp] theorem State.stopAtOnce_link_expected (s : State) (c : CloseReason) (r : StopReason) : (s.stopAtOnce c r).link.expected = s.link.expected := by
  simp [State.stopAtOnce]

@[simp] theorem State.stopAtOnce_link_haltLine (s : State) (c : CloseReason) (r : StopReason) : (s.stopAtOnce c r).link.haltLine = s.link.haltLine := by
  simp [State.stopAtOnce]

@[simp] theorem State.stopAtOnce_assembler_nextSegment (s : State) (c : CloseReason) (r : StopReason) : (s.stopAtOnce c r).assembler.nextSegment = s.assembler.nextSegment := by
  simp [State.stopAtOnce]

@[simp] theorem State.stopAtOnce_control_staged (s : State) (c : CloseReason) (r : StopReason) : (s.stopAtOnce c r).control.staged = s.control.staged := by
  simp [State.stopAtOnce]

@[simp] theorem State.stopAtOnce_control_headMark (s : State) (c : CloseReason) (r : StopReason) : (s.stopAtOnce c r).control.headMark = s.control.headMark := by
  simp [State.stopAtOnce]

@[simp] theorem State.stopAtOnce_control_archiveMark (s : State) (c : CloseReason) (r : StopReason) : (s.stopAtOnce c r).control.archiveMark = s.control.archiveMark := by
  simp [State.stopAtOnce]

@[simp] theorem State.stopAtOnce_drain_contexts (s : State) (c : CloseReason) (r : StopReason) : (s.stopAtOnce c r).drain.contexts = s.drain.contexts := by
  simp [State.stopAtOnce]

@[simp] theorem State.stopAtOnce_pins (s : State) (c : CloseReason) (r : StopReason) : (s.stopAtOnce c r).pins = s.pins := by
  simp [State.stopAtOnce]

@[simp] theorem State.stopAtOnce_store_archiveQueue (s : State) (c : CloseReason) (r : StopReason) : (s.stopAtOnce c r).store.archiveQueue = s.store.archiveQueue := by
  simp [State.stopAtOnce]

@[simp] theorem State.stopAtOnce_store_viewerQueue (s : State) (c : CloseReason) (r : StopReason) : (s.stopAtOnce c r).store.viewerQueue = s.store.viewerQueue := by
  simp [State.stopAtOnce]

@[simp] theorem State.stopAtOnce_store_turn (s : State) (c : CloseReason) (r : StopReason) : (s.stopAtOnce c r).store.turn = s.store.turn := by
  simp [State.stopAtOnce]

@[simp] theorem State.stopAtOnce_store_inFlight (s : State) (c : CloseReason) (r : StopReason) : (s.stopAtOnce c r).store.inFlight = s.store.inFlight := by
  simp [State.stopAtOnce]

@[simp] theorem State.stopAtOnce_store_memory (s : State) (c : CloseReason) (r : StopReason) : (s.stopAtOnce c r).store.memory = s.store.memory := by
  simp [State.stopAtOnce]

@[simp] theorem State.stopAtOnce_store_readsDone (s : State) (c : CloseReason) (r : StopReason) : (s.stopAtOnce c r).store.readsDone = s.store.readsDone := by
  simp [State.stopAtOnce]

@[simp] theorem State.stopAtOnce_power (s : State) (c : CloseReason) (r : StopReason) : (s.stopAtOnce c r).power = s.power := by
  simp [State.stopAtOnce]

@[simp] theorem State.stopAtOnce_pending (s : State) (c : CloseReason) (r : StopReason) : (s.stopAtOnce c r).pending = s.pending := by
  simp [State.stopAtOnce]

/-! ### `State.testHeadMark` -/

@[simp] theorem State.testHeadMark_ring_head (s : State) : s.testHeadMark.ring.head = s.ring.head := by
  unfold State.testHeadMark; dsimp only; (repeat' split) <;> simp

@[simp] theorem State.testHeadMark_ring_tail (s : State) : s.testHeadMark.ring.tail = s.ring.tail := by
  unfold State.testHeadMark; dsimp only; (repeat' split) <;> simp

@[simp] theorem State.testHeadMark_ring_blocks (s : State) : s.testHeadMark.ring.blocks = s.ring.blocks := by
  unfold State.testHeadMark; dsimp only; (repeat' split) <;> simp

@[simp] theorem State.testHeadMark_link_locked (s : State) : s.testHeadMark.link.locked = s.link.locked := by
  unfold State.testHeadMark; dsimp only; (repeat' split) <;> simp

@[simp] theorem State.testHeadMark_link_expected (s : State) : s.testHeadMark.link.expected = s.link.expected := by
  unfold State.testHeadMark; dsimp only; (repeat' split) <;> simp

@[simp] theorem State.testHeadMark_link_haltLine (s : State) : s.testHeadMark.link.haltLine = s.link.haltLine := by
  unfold State.testHeadMark; dsimp only; (repeat' split) <;> simp

@[simp] theorem State.testHeadMark_assembler_sliceCounter (s : State) : s.testHeadMark.assembler.sliceCounter = s.assembler.sliceCounter := by
  unfold State.testHeadMark; dsimp only; (repeat' split) <;> simp

@[simp] theorem State.testHeadMark_assembler_idleFlush (s : State) : s.testHeadMark.assembler.idleFlush = s.assembler.idleFlush := by
  unfold State.testHeadMark; dsimp only; (repeat' split) <;> simp

@[simp] theorem State.testHeadMark_assembler_nextSegment (s : State) : s.testHeadMark.assembler.nextSegment = s.assembler.nextSegment := by
  unfold State.testHeadMark; dsimp only; (repeat' split) <;> simp

@[simp] theorem State.testHeadMark_index (s : State) : s.testHeadMark.index = s.index := by
  unfold State.testHeadMark; dsimp only; (repeat' split) <;> simp

@[simp] theorem State.testHeadMark_control_staged (s : State) : s.testHeadMark.control.staged = s.control.staged := by
  unfold State.testHeadMark; dsimp only; (repeat' split) <;> simp

@[simp] theorem State.testHeadMark_control_archiveMark (s : State) : s.testHeadMark.control.archiveMark = s.control.archiveMark := by
  unfold State.testHeadMark; dsimp only; (repeat' split) <;> simp

@[simp] theorem State.testHeadMark_drain_contexts (s : State) : s.testHeadMark.drain.contexts = s.drain.contexts := by
  unfold State.testHeadMark; dsimp only; (repeat' split) <;> simp

@[simp] theorem State.testHeadMark_pins (s : State) : s.testHeadMark.pins = s.pins := by
  unfold State.testHeadMark; dsimp only; (repeat' split) <;> simp

@[simp] theorem State.testHeadMark_store_archiveQueue (s : State) : s.testHeadMark.store.archiveQueue = s.store.archiveQueue := by
  unfold State.testHeadMark; dsimp only; (repeat' split) <;> simp

@[simp] theorem State.testHeadMark_store_viewerQueue (s : State) : s.testHeadMark.store.viewerQueue = s.store.viewerQueue := by
  unfold State.testHeadMark; dsimp only; (repeat' split) <;> simp

@[simp] theorem State.testHeadMark_store_turn (s : State) : s.testHeadMark.store.turn = s.store.turn := by
  unfold State.testHeadMark; dsimp only; (repeat' split) <;> simp

@[simp] theorem State.testHeadMark_store_inFlight (s : State) : s.testHeadMark.store.inFlight = s.store.inFlight := by
  unfold State.testHeadMark; dsimp only; (repeat' split) <;> simp

@[simp] theorem State.testHeadMark_store_memory (s : State) : s.testHeadMark.store.memory = s.store.memory := by
  unfold State.testHeadMark; dsimp only; (repeat' split) <;> simp

@[simp] theorem State.testHeadMark_store_readsDone (s : State) : s.testHeadMark.store.readsDone = s.store.readsDone := by
  unfold State.testHeadMark; dsimp only; (repeat' split) <;> simp

@[simp] theorem State.testHeadMark_power (s : State) : s.testHeadMark.power = s.power := by
  unfold State.testHeadMark; dsimp only; (repeat' split) <;> simp

@[simp] theorem State.testHeadMark_pending (s : State) : s.testHeadMark.pending = s.pending := by
  unfold State.testHeadMark; dsimp only; (repeat' split) <;> simp

/-! ### `State.loseContents` -/

@[simp] theorem State.loseContents_ring (s : State) (g : Fin 16) : (s.loseContents g).ring = s.ring := by
  simp [State.loseContents]

@[simp] theorem State.loseContents_link (s : State) (g : Fin 16) : (s.loseContents g).link = s.link := by
  simp [State.loseContents]

@[simp] theorem State.loseContents_assembler (s : State) (g : Fin 16) : (s.loseContents g).assembler = s.assembler := by
  simp [State.loseContents]

@[simp] theorem State.loseContents_index (s : State) (g : Fin 16) : (s.loseContents g).index = s.index := by
  simp [State.loseContents]

@[simp] theorem State.loseContents_control (s : State) (g : Fin 16) : (s.loseContents g).control = s.control := by
  simp [State.loseContents]

@[simp] theorem State.loseContents_drain (s : State) (g : Fin 16) : (s.loseContents g).drain = s.drain := by
  simp [State.loseContents]

@[simp] theorem State.loseContents_pins (s : State) (g : Fin 16) : (s.loseContents g).pins = s.pins := by
  simp [State.loseContents]

@[simp] theorem State.loseContents_store_admission (s : State) (g : Fin 16) : (s.loseContents g).store.admission = s.store.admission := by
  simp [State.loseContents]

@[simp] theorem State.loseContents_store_archiveQueue (s : State) (g : Fin 16) : (s.loseContents g).store.archiveQueue = s.store.archiveQueue := by
  simp [State.loseContents]

@[simp] theorem State.loseContents_store_viewerQueue (s : State) (g : Fin 16) : (s.loseContents g).store.viewerQueue = s.store.viewerQueue := by
  simp [State.loseContents]

@[simp] theorem State.loseContents_store_turn (s : State) (g : Fin 16) : (s.loseContents g).store.turn = s.store.turn := by
  simp [State.loseContents]

@[simp] theorem State.loseContents_store_inFlight (s : State) (g : Fin 16) : (s.loseContents g).store.inFlight = s.store.inFlight := by
  simp [State.loseContents]

@[simp] theorem State.loseContents_store_readsDone (s : State) (g : Fin 16) : (s.loseContents g).store.readsDone = s.store.readsDone := by
  simp [State.loseContents]

@[simp] theorem State.loseContents_power (s : State) (g : Fin 16) : (s.loseContents g).power = s.power := by
  simp [State.loseContents]

@[simp] theorem State.loseContents_flags (s : State) (g : Fin 16) : (s.loseContents g).flags = s.flags := by
  simp [State.loseContents]

@[simp] theorem State.loseContents_viewerPort (s : State) (g : Fin 16) : (s.loseContents g).viewerPort = s.viewerPort := by
  simp [State.loseContents]

@[simp] theorem State.loseContents_archivePort (s : State) (g : Fin 16) : (s.loseContents g).archivePort = s.archivePort := by
  simp [State.loseContents]

@[simp] theorem State.loseContents_sent (s : State) (g : Fin 16) : (s.loseContents g).sent = s.sent := by
  simp [State.loseContents]

@[simp] theorem State.loseContents_pending (s : State) (g : Fin 16) : (s.loseContents g).pending = s.pending := by
  simp [State.loseContents]

/-! ### `State.settleGroup` -/

@[simp] theorem State.settleGroup_ring (s : State) (g : Fin 16) (a b : GroupPower) : (s.settleGroup g a b).ring = s.ring := by
  unfold State.settleGroup; dsimp only; (repeat' split) <;> simp

@[simp] theorem State.settleGroup_link (s : State) (g : Fin 16) (a b : GroupPower) : (s.settleGroup g a b).link = s.link := by
  unfold State.settleGroup; dsimp only; (repeat' split) <;> simp

@[simp] theorem State.settleGroup_assembler (s : State) (g : Fin 16) (a b : GroupPower) : (s.settleGroup g a b).assembler = s.assembler := by
  unfold State.settleGroup; dsimp only; (repeat' split) <;> simp

@[simp] theorem State.settleGroup_index (s : State) (g : Fin 16) (a b : GroupPower) : (s.settleGroup g a b).index = s.index := by
  unfold State.settleGroup; dsimp only; (repeat' split) <;> simp

@[simp] theorem State.settleGroup_control (s : State) (g : Fin 16) (a b : GroupPower) : (s.settleGroup g a b).control = s.control := by
  unfold State.settleGroup; dsimp only; (repeat' split) <;> simp

@[simp] theorem State.settleGroup_drain (s : State) (g : Fin 16) (a b : GroupPower) : (s.settleGroup g a b).drain = s.drain := by
  unfold State.settleGroup; dsimp only; (repeat' split) <;> simp

@[simp] theorem State.settleGroup_pins (s : State) (g : Fin 16) (a b : GroupPower) : (s.settleGroup g a b).pins = s.pins := by
  unfold State.settleGroup; dsimp only; (repeat' split) <;> simp

@[simp] theorem State.settleGroup_store_admission (s : State) (g : Fin 16) (a b : GroupPower) : (s.settleGroup g a b).store.admission = s.store.admission := by
  unfold State.settleGroup; dsimp only; (repeat' split) <;> simp

@[simp] theorem State.settleGroup_store_archiveQueue (s : State) (g : Fin 16) (a b : GroupPower) : (s.settleGroup g a b).store.archiveQueue = s.store.archiveQueue := by
  unfold State.settleGroup; dsimp only; (repeat' split) <;> simp

@[simp] theorem State.settleGroup_store_viewerQueue (s : State) (g : Fin 16) (a b : GroupPower) : (s.settleGroup g a b).store.viewerQueue = s.store.viewerQueue := by
  unfold State.settleGroup; dsimp only; (repeat' split) <;> simp

@[simp] theorem State.settleGroup_store_turn (s : State) (g : Fin 16) (a b : GroupPower) : (s.settleGroup g a b).store.turn = s.store.turn := by
  unfold State.settleGroup; dsimp only; (repeat' split) <;> simp

@[simp] theorem State.settleGroup_store_inFlight (s : State) (g : Fin 16) (a b : GroupPower) : (s.settleGroup g a b).store.inFlight = s.store.inFlight := by
  unfold State.settleGroup; dsimp only; (repeat' split) <;> simp

@[simp] theorem State.settleGroup_store_readsDone (s : State) (g : Fin 16) (a b : GroupPower) : (s.settleGroup g a b).store.readsDone = s.store.readsDone := by
  unfold State.settleGroup; dsimp only; (repeat' split) <;> simp

@[simp] theorem State.settleGroup_pending (s : State) (g : Fin 16) (a b : GroupPower) : (s.settleGroup g a b).pending = s.pending := by
  unfold State.settleGroup; dsimp only; (repeat' split) <;> simp

/-! ### `State.endDraining` -/

@[simp] theorem State.endDraining_ring (s : State) (g : Fin 16) : (s.endDraining g).ring = s.ring := by
  unfold State.endDraining; (repeat' split) <;> simp

@[simp] theorem State.endDraining_link (s : State) (g : Fin 16) : (s.endDraining g).link = s.link := by
  unfold State.endDraining; (repeat' split) <;> simp

@[simp] theorem State.endDraining_assembler (s : State) (g : Fin 16) : (s.endDraining g).assembler = s.assembler := by
  unfold State.endDraining; (repeat' split) <;> simp

@[simp] theorem State.endDraining_index (s : State) (g : Fin 16) : (s.endDraining g).index = s.index := by
  unfold State.endDraining; (repeat' split) <;> simp

@[simp] theorem State.endDraining_control (s : State) (g : Fin 16) : (s.endDraining g).control = s.control := by
  unfold State.endDraining; (repeat' split) <;> simp

@[simp] theorem State.endDraining_drain (s : State) (g : Fin 16) : (s.endDraining g).drain = s.drain := by
  unfold State.endDraining; (repeat' split) <;> simp

@[simp] theorem State.endDraining_pins (s : State) (g : Fin 16) : (s.endDraining g).pins = s.pins := by
  unfold State.endDraining; (repeat' split) <;> simp

@[simp] theorem State.endDraining_store_admission (s : State) (g : Fin 16) : (s.endDraining g).store.admission = s.store.admission := by
  unfold State.endDraining; (repeat' split) <;> simp

@[simp] theorem State.endDraining_store_archiveQueue (s : State) (g : Fin 16) : (s.endDraining g).store.archiveQueue = s.store.archiveQueue := by
  unfold State.endDraining; (repeat' split) <;> simp

@[simp] theorem State.endDraining_store_viewerQueue (s : State) (g : Fin 16) : (s.endDraining g).store.viewerQueue = s.store.viewerQueue := by
  unfold State.endDraining; (repeat' split) <;> simp

@[simp] theorem State.endDraining_store_turn (s : State) (g : Fin 16) : (s.endDraining g).store.turn = s.store.turn := by
  unfold State.endDraining; (repeat' split) <;> simp

@[simp] theorem State.endDraining_store_inFlight (s : State) (g : Fin 16) : (s.endDraining g).store.inFlight = s.store.inFlight := by
  unfold State.endDraining; (repeat' split) <;> simp

@[simp] theorem State.endDraining_store_readsDone (s : State) (g : Fin 16) : (s.endDraining g).store.readsDone = s.store.readsDone := by
  unfold State.endDraining; (repeat' split) <;> simp

@[simp] theorem State.endDraining_pending (s : State) (g : Fin 16) : (s.endDraining g).pending = s.pending := by
  unfold State.endDraining; (repeat' split) <;> simp

/-! ### `State.checkDrain` -/

@[simp] theorem State.checkDrain_ring (s : State) (g : Fin 16) : (s.checkDrain g).ring = s.ring := by
  unfold State.checkDrain; (repeat' split) <;> simp

@[simp] theorem State.checkDrain_link (s : State) (g : Fin 16) : (s.checkDrain g).link = s.link := by
  unfold State.checkDrain; (repeat' split) <;> simp

@[simp] theorem State.checkDrain_assembler (s : State) (g : Fin 16) : (s.checkDrain g).assembler = s.assembler := by
  unfold State.checkDrain; (repeat' split) <;> simp

@[simp] theorem State.checkDrain_index (s : State) (g : Fin 16) : (s.checkDrain g).index = s.index := by
  unfold State.checkDrain; (repeat' split) <;> simp

@[simp] theorem State.checkDrain_control (s : State) (g : Fin 16) : (s.checkDrain g).control = s.control := by
  unfold State.checkDrain; (repeat' split) <;> simp

@[simp] theorem State.checkDrain_drain (s : State) (g : Fin 16) : (s.checkDrain g).drain = s.drain := by
  unfold State.checkDrain; (repeat' split) <;> simp

@[simp] theorem State.checkDrain_pins (s : State) (g : Fin 16) : (s.checkDrain g).pins = s.pins := by
  unfold State.checkDrain; (repeat' split) <;> simp

@[simp] theorem State.checkDrain_store_admission (s : State) (g : Fin 16) : (s.checkDrain g).store.admission = s.store.admission := by
  unfold State.checkDrain; (repeat' split) <;> simp

@[simp] theorem State.checkDrain_store_archiveQueue (s : State) (g : Fin 16) : (s.checkDrain g).store.archiveQueue = s.store.archiveQueue := by
  unfold State.checkDrain; (repeat' split) <;> simp

@[simp] theorem State.checkDrain_store_viewerQueue (s : State) (g : Fin 16) : (s.checkDrain g).store.viewerQueue = s.store.viewerQueue := by
  unfold State.checkDrain; (repeat' split) <;> simp

@[simp] theorem State.checkDrain_store_turn (s : State) (g : Fin 16) : (s.checkDrain g).store.turn = s.store.turn := by
  unfold State.checkDrain; (repeat' split) <;> simp

@[simp] theorem State.checkDrain_store_inFlight (s : State) (g : Fin 16) : (s.checkDrain g).store.inFlight = s.store.inFlight := by
  unfold State.checkDrain; (repeat' split) <;> simp

@[simp] theorem State.checkDrain_store_readsDone (s : State) (g : Fin 16) : (s.checkDrain g).store.readsDone = s.store.readsDone := by
  unfold State.checkDrain; (repeat' split) <;> simp

@[simp] theorem State.checkDrain_pending (s : State) (g : Fin 16) : (s.checkDrain g).pending = s.pending := by
  unfold State.checkDrain; (repeat' split) <;> simp

/-! ### `State.mapPinCounts` -/

@[simp] theorem State.mapPinCounts_ring_head (s : State) (r : PinRange) (f : Nat → Nat) : (s.mapPinCounts r f).ring.head = s.ring.head := by
  simp [State.mapPinCounts]

@[simp] theorem State.mapPinCounts_ring_tail (s : State) (r : PinRange) (f : Nat → Nat) : (s.mapPinCounts r f).ring.tail = s.ring.tail := by
  simp [State.mapPinCounts]

@[simp] theorem State.mapPinCounts_ring_band (s : State) (r : PinRange) (f : Nat → Nat) : (s.mapPinCounts r f).ring.band = s.ring.band := by
  simp [State.mapPinCounts]

@[simp] theorem State.mapPinCounts_link (s : State) (r : PinRange) (f : Nat → Nat) : (s.mapPinCounts r f).link = s.link := by
  simp [State.mapPinCounts]

@[simp] theorem State.mapPinCounts_assembler (s : State) (r : PinRange) (f : Nat → Nat) : (s.mapPinCounts r f).assembler = s.assembler := by
  simp [State.mapPinCounts]

@[simp] theorem State.mapPinCounts_index (s : State) (r : PinRange) (f : Nat → Nat) : (s.mapPinCounts r f).index = s.index := by
  simp [State.mapPinCounts]

@[simp] theorem State.mapPinCounts_control (s : State) (r : PinRange) (f : Nat → Nat) : (s.mapPinCounts r f).control = s.control := by
  simp [State.mapPinCounts]

@[simp] theorem State.mapPinCounts_drain (s : State) (r : PinRange) (f : Nat → Nat) : (s.mapPinCounts r f).drain = s.drain := by
  simp [State.mapPinCounts]

@[simp] theorem State.mapPinCounts_pins (s : State) (r : PinRange) (f : Nat → Nat) : (s.mapPinCounts r f).pins = s.pins := by
  simp [State.mapPinCounts]

@[simp] theorem State.mapPinCounts_store (s : State) (r : PinRange) (f : Nat → Nat) : (s.mapPinCounts r f).store = s.store := by
  simp [State.mapPinCounts]

@[simp] theorem State.mapPinCounts_power (s : State) (r : PinRange) (f : Nat → Nat) : (s.mapPinCounts r f).power = s.power := by
  simp [State.mapPinCounts]

@[simp] theorem State.mapPinCounts_flags (s : State) (r : PinRange) (f : Nat → Nat) : (s.mapPinCounts r f).flags = s.flags := by
  simp [State.mapPinCounts]

@[simp] theorem State.mapPinCounts_viewerPort (s : State) (r : PinRange) (f : Nat → Nat) : (s.mapPinCounts r f).viewerPort = s.viewerPort := by
  simp [State.mapPinCounts]

@[simp] theorem State.mapPinCounts_archivePort (s : State) (r : PinRange) (f : Nat → Nat) : (s.mapPinCounts r f).archivePort = s.archivePort := by
  simp [State.mapPinCounts]

@[simp] theorem State.mapPinCounts_sent (s : State) (r : PinRange) (f : Nat → Nat) : (s.mapPinCounts r f).sent = s.sent := by
  simp [State.mapPinCounts]

@[simp] theorem State.mapPinCounts_pending (s : State) (r : PinRange) (f : Nat → Nat) : (s.mapPinCounts r f).pending = s.pending := by
  simp [State.mapPinCounts]

/-! ### `State.dropPin` -/

@[simp] theorem State.dropPin_ring_head (s : State) (i : Fin 8) : (s.dropPin i).ring.head = s.ring.head := by
  unfold State.dropPin; (repeat' split) <;> simp

@[simp] theorem State.dropPin_ring_tail (s : State) (i : Fin 8) : (s.dropPin i).ring.tail = s.ring.tail := by
  unfold State.dropPin; (repeat' split) <;> simp

@[simp] theorem State.dropPin_ring_band (s : State) (i : Fin 8) : (s.dropPin i).ring.band = s.ring.band := by
  unfold State.dropPin; (repeat' split) <;> simp

@[simp] theorem State.dropPin_link (s : State) (i : Fin 8) : (s.dropPin i).link = s.link := by
  unfold State.dropPin; (repeat' split) <;> simp

@[simp] theorem State.dropPin_assembler (s : State) (i : Fin 8) : (s.dropPin i).assembler = s.assembler := by
  unfold State.dropPin; (repeat' split) <;> simp

@[simp] theorem State.dropPin_index (s : State) (i : Fin 8) : (s.dropPin i).index = s.index := by
  unfold State.dropPin; (repeat' split) <;> simp

@[simp] theorem State.dropPin_control (s : State) (i : Fin 8) : (s.dropPin i).control = s.control := by
  unfold State.dropPin; (repeat' split) <;> simp

@[simp] theorem State.dropPin_drain (s : State) (i : Fin 8) : (s.dropPin i).drain = s.drain := by
  unfold State.dropPin; (repeat' split) <;> simp

@[simp] theorem State.dropPin_store (s : State) (i : Fin 8) : (s.dropPin i).store = s.store := by
  unfold State.dropPin; (repeat' split) <;> simp

@[simp] theorem State.dropPin_power (s : State) (i : Fin 8) : (s.dropPin i).power = s.power := by
  unfold State.dropPin; (repeat' split) <;> simp

@[simp] theorem State.dropPin_flags (s : State) (i : Fin 8) : (s.dropPin i).flags = s.flags := by
  unfold State.dropPin; (repeat' split) <;> simp

@[simp] theorem State.dropPin_viewerPort (s : State) (i : Fin 8) : (s.dropPin i).viewerPort = s.viewerPort := by
  unfold State.dropPin; (repeat' split) <;> simp

@[simp] theorem State.dropPin_archivePort (s : State) (i : Fin 8) : (s.dropPin i).archivePort = s.archivePort := by
  unfold State.dropPin; (repeat' split) <;> simp

@[simp] theorem State.dropPin_sent (s : State) (i : Fin 8) : (s.dropPin i).sent = s.sent := by
  unfold State.dropPin; (repeat' split) <;> simp

@[simp] theorem State.dropPin_pending (s : State) (i : Fin 8) : (s.dropPin i).pending = s.pending := by
  unfold State.dropPin; (repeat' split) <;> simp

/-! ### `State.issueWrite` -/

@[simp] theorem State.issueWrite_ring (s : State) (n m : Nat) (d : List Byte) : (s.issueWrite n m d).ring = s.ring := by
  simp [State.issueWrite]

@[simp] theorem State.issueWrite_link (s : State) (n m : Nat) (d : List Byte) : (s.issueWrite n m d).link = s.link := by
  simp [State.issueWrite]

@[simp] theorem State.issueWrite_assembler (s : State) (n m : Nat) (d : List Byte) : (s.issueWrite n m d).assembler = s.assembler := by
  simp [State.issueWrite]

@[simp] theorem State.issueWrite_index (s : State) (n m : Nat) (d : List Byte) : (s.issueWrite n m d).index = s.index := by
  simp [State.issueWrite]

@[simp] theorem State.issueWrite_control (s : State) (n m : Nat) (d : List Byte) : (s.issueWrite n m d).control = s.control := by
  simp [State.issueWrite]

@[simp] theorem State.issueWrite_drain (s : State) (n m : Nat) (d : List Byte) : (s.issueWrite n m d).drain = s.drain := by
  simp [State.issueWrite]

@[simp] theorem State.issueWrite_pins (s : State) (n m : Nat) (d : List Byte) : (s.issueWrite n m d).pins = s.pins := by
  simp [State.issueWrite]

@[simp] theorem State.issueWrite_store_admission (s : State) (n m : Nat) (d : List Byte) : (s.issueWrite n m d).store.admission = s.store.admission := by
  simp [State.issueWrite]

@[simp] theorem State.issueWrite_store_archiveQueue (s : State) (n m : Nat) (d : List Byte) : (s.issueWrite n m d).store.archiveQueue = s.store.archiveQueue := by
  simp [State.issueWrite]

@[simp] theorem State.issueWrite_store_viewerQueue (s : State) (n m : Nat) (d : List Byte) : (s.issueWrite n m d).store.viewerQueue = s.store.viewerQueue := by
  simp [State.issueWrite]

@[simp] theorem State.issueWrite_store_turn (s : State) (n m : Nat) (d : List Byte) : (s.issueWrite n m d).store.turn = s.store.turn := by
  simp [State.issueWrite]

@[simp] theorem State.issueWrite_store_memory (s : State) (n m : Nat) (d : List Byte) : (s.issueWrite n m d).store.memory = s.store.memory := by
  simp [State.issueWrite]

@[simp] theorem State.issueWrite_store_readsDone (s : State) (n m : Nat) (d : List Byte) : (s.issueWrite n m d).store.readsDone = s.store.readsDone := by
  simp [State.issueWrite]

@[simp] theorem State.issueWrite_power (s : State) (n m : Nat) (d : List Byte) : (s.issueWrite n m d).power = s.power := by
  simp [State.issueWrite]

@[simp] theorem State.issueWrite_flags (s : State) (n m : Nat) (d : List Byte) : (s.issueWrite n m d).flags = s.flags := by
  simp [State.issueWrite]

@[simp] theorem State.issueWrite_viewerPort (s : State) (n m : Nat) (d : List Byte) : (s.issueWrite n m d).viewerPort = s.viewerPort := by
  simp [State.issueWrite]

@[simp] theorem State.issueWrite_archivePort (s : State) (n m : Nat) (d : List Byte) : (s.issueWrite n m d).archivePort = s.archivePort := by
  simp [State.issueWrite]

@[simp] theorem State.issueWrite_sent (s : State) (n m : Nat) (d : List Byte) : (s.issueWrite n m d).sent = s.sent := by
  simp [State.issueWrite]

@[simp] theorem State.issueWrite_pending (s : State) (n m : Nat) (d : List Byte) : (s.issueWrite n m d).pending = s.pending := by
  simp [State.issueWrite]

/-! ### `State.leaveIntake` -/

@[simp] theorem State.leaveIntake_ring (s : State) : s.leaveIntake.ring = s.ring := by
  simp [State.leaveIntake]

@[simp] theorem State.leaveIntake_link_locked (s : State) : s.leaveIntake.link.locked = s.link.locked := by
  simp [State.leaveIntake]

@[simp] theorem State.leaveIntake_link_expected (s : State) : s.leaveIntake.link.expected = s.link.expected := by
  simp [State.leaveIntake]

@[simp] theorem State.leaveIntake_link_pendingLoss (s : State) : s.leaveIntake.link.pendingLoss = s.link.pendingLoss := by
  simp [State.leaveIntake]

@[simp] theorem State.leaveIntake_link_captureEnable (s : State) : s.leaveIntake.link.captureEnable = s.link.captureEnable := by
  simp [State.leaveIntake]

@[simp] theorem State.leaveIntake_link_haltLine (s : State) : s.leaveIntake.link.haltLine = s.link.haltLine := by
  simp [State.leaveIntake]

@[simp] theorem State.leaveIntake_link_counts (s : State) : s.leaveIntake.link.counts = s.link.counts := by
  simp [State.leaveIntake]

@[simp] theorem State.leaveIntake_assembler (s : State) : s.leaveIntake.assembler = s.assembler := by
  simp [State.leaveIntake]

@[simp] theorem State.leaveIntake_index (s : State) : s.leaveIntake.index = s.index := by
  simp [State.leaveIntake]

@[simp] theorem State.leaveIntake_control (s : State) : s.leaveIntake.control = s.control := by
  simp [State.leaveIntake]

@[simp] theorem State.leaveIntake_drain (s : State) : s.leaveIntake.drain = s.drain := by
  simp [State.leaveIntake]

@[simp] theorem State.leaveIntake_pins (s : State) : s.leaveIntake.pins = s.pins := by
  simp [State.leaveIntake]

@[simp] theorem State.leaveIntake_store (s : State) : s.leaveIntake.store = s.store := by
  simp [State.leaveIntake]

@[simp] theorem State.leaveIntake_power (s : State) : s.leaveIntake.power = s.power := by
  simp [State.leaveIntake]

@[simp] theorem State.leaveIntake_flags (s : State) : s.leaveIntake.flags = s.flags := by
  simp [State.leaveIntake]

@[simp] theorem State.leaveIntake_viewerPort (s : State) : s.leaveIntake.viewerPort = s.viewerPort := by
  simp [State.leaveIntake]

@[simp] theorem State.leaveIntake_archivePort (s : State) : s.leaveIntake.archivePort = s.archivePort := by
  simp [State.leaveIntake]

@[simp] theorem State.leaveIntake_sent (s : State) : s.leaveIntake.sent = s.sent := by
  simp [State.leaveIntake]

@[simp] theorem State.leaveIntake_pending (s : State) : s.leaveIntake.pending = s.pending := by
  simp [State.leaveIntake]

/-! ### `State.countPlaced` -/

@[simp] theorem State.countPlaced_ring (s : State) (f : Frame) : (s.countPlaced f).ring = s.ring := by
  simp [State.countPlaced]

@[simp] theorem State.countPlaced_link_locked (s : State) (f : Frame) : (s.countPlaced f).link.locked = s.link.locked := by
  simp [State.countPlaced]

@[simp] theorem State.countPlaced_link_expected (s : State) (f : Frame) : (s.countPlaced f).link.expected = s.link.expected := by
  simp [State.countPlaced]

@[simp] theorem State.countPlaced_link_pendingLoss (s : State) (f : Frame) : (s.countPlaced f).link.pendingLoss = s.link.pendingLoss := by
  simp [State.countPlaced]

@[simp] theorem State.countPlaced_link_captureEnable (s : State) (f : Frame) : (s.countPlaced f).link.captureEnable = s.link.captureEnable := by
  simp [State.countPlaced]

@[simp] theorem State.countPlaced_link_haltLine (s : State) (f : Frame) : (s.countPlaced f).link.haltLine = s.link.haltLine := by
  simp [State.countPlaced]

@[simp] theorem State.countPlaced_assembler (s : State) (f : Frame) : (s.countPlaced f).assembler = s.assembler := by
  simp [State.countPlaced]

@[simp] theorem State.countPlaced_control (s : State) (f : Frame) : (s.countPlaced f).control = s.control := by
  simp [State.countPlaced]

@[simp] theorem State.countPlaced_drain (s : State) (f : Frame) : (s.countPlaced f).drain = s.drain := by
  simp [State.countPlaced]

@[simp] theorem State.countPlaced_pins (s : State) (f : Frame) : (s.countPlaced f).pins = s.pins := by
  simp [State.countPlaced]

@[simp] theorem State.countPlaced_store (s : State) (f : Frame) : (s.countPlaced f).store = s.store := by
  simp [State.countPlaced]

@[simp] theorem State.countPlaced_power (s : State) (f : Frame) : (s.countPlaced f).power = s.power := by
  simp [State.countPlaced]

@[simp] theorem State.countPlaced_flags (s : State) (f : Frame) : (s.countPlaced f).flags = s.flags := by
  simp [State.countPlaced]

@[simp] theorem State.countPlaced_viewerPort (s : State) (f : Frame) : (s.countPlaced f).viewerPort = s.viewerPort := by
  simp [State.countPlaced]

@[simp] theorem State.countPlaced_archivePort (s : State) (f : Frame) : (s.countPlaced f).archivePort = s.archivePort := by
  simp [State.countPlaced]

@[simp] theorem State.countPlaced_sent (s : State) (f : Frame) : (s.countPlaced f).sent = s.sent := by
  simp [State.countPlaced]

@[simp] theorem State.countPlaced_pending (s : State) (f : Frame) : (s.countPlaced f).pending = s.pending := by
  simp [State.countPlaced]

/-! ### `State.appendPayload` -/

@[simp] theorem State.appendPayload_ring_head (s : State) (b : Block) (f : Frame) : (s.appendPayload b f).ring.head = s.ring.head := by
  simp [State.appendPayload]

@[simp] theorem State.appendPayload_ring_tail (s : State) (b : Block) (f : Frame) : (s.appendPayload b f).ring.tail = s.ring.tail := by
  simp [State.appendPayload]

@[simp] theorem State.appendPayload_ring_band (s : State) (b : Block) (f : Frame) : (s.appendPayload b f).ring.band = s.ring.band := by
  simp [State.appendPayload]

@[simp] theorem State.appendPayload_link (s : State) (b : Block) (f : Frame) : (s.appendPayload b f).link = s.link := by
  simp [State.appendPayload]

@[simp] theorem State.appendPayload_assembler (s : State) (b : Block) (f : Frame) : (s.appendPayload b f).assembler = s.assembler := by
  simp [State.appendPayload]

@[simp] theorem State.appendPayload_index (s : State) (b : Block) (f : Frame) : (s.appendPayload b f).index = s.index := by
  simp [State.appendPayload]

@[simp] theorem State.appendPayload_control (s : State) (b : Block) (f : Frame) : (s.appendPayload b f).control = s.control := by
  simp [State.appendPayload]

@[simp] theorem State.appendPayload_drain (s : State) (b : Block) (f : Frame) : (s.appendPayload b f).drain = s.drain := by
  simp [State.appendPayload]

@[simp] theorem State.appendPayload_pins (s : State) (b : Block) (f : Frame) : (s.appendPayload b f).pins = s.pins := by
  simp [State.appendPayload]

@[simp] theorem State.appendPayload_store_admission (s : State) (b : Block) (f : Frame) : (s.appendPayload b f).store.admission = s.store.admission := by
  simp [State.appendPayload]

@[simp] theorem State.appendPayload_store_archiveQueue (s : State) (b : Block) (f : Frame) : (s.appendPayload b f).store.archiveQueue = s.store.archiveQueue := by
  simp [State.appendPayload]

@[simp] theorem State.appendPayload_store_viewerQueue (s : State) (b : Block) (f : Frame) : (s.appendPayload b f).store.viewerQueue = s.store.viewerQueue := by
  simp [State.appendPayload]

@[simp] theorem State.appendPayload_store_turn (s : State) (b : Block) (f : Frame) : (s.appendPayload b f).store.turn = s.store.turn := by
  simp [State.appendPayload]

@[simp] theorem State.appendPayload_store_memory (s : State) (b : Block) (f : Frame) : (s.appendPayload b f).store.memory = s.store.memory := by
  simp [State.appendPayload]

@[simp] theorem State.appendPayload_store_readsDone (s : State) (b : Block) (f : Frame) : (s.appendPayload b f).store.readsDone = s.store.readsDone := by
  simp [State.appendPayload]

@[simp] theorem State.appendPayload_power (s : State) (b : Block) (f : Frame) : (s.appendPayload b f).power = s.power := by
  simp [State.appendPayload]

@[simp] theorem State.appendPayload_flags (s : State) (b : Block) (f : Frame) : (s.appendPayload b f).flags = s.flags := by
  simp [State.appendPayload]

@[simp] theorem State.appendPayload_viewerPort (s : State) (b : Block) (f : Frame) : (s.appendPayload b f).viewerPort = s.viewerPort := by
  simp [State.appendPayload]

@[simp] theorem State.appendPayload_archivePort (s : State) (b : Block) (f : Frame) : (s.appendPayload b f).archivePort = s.archivePort := by
  simp [State.appendPayload]

@[simp] theorem State.appendPayload_sent (s : State) (b : Block) (f : Frame) : (s.appendPayload b f).sent = s.sent := by
  simp [State.appendPayload]

@[simp] theorem State.appendPayload_pending (s : State) (b : Block) (f : Frame) : (s.appendPayload b f).pending = s.pending := by
  simp [State.appendPayload]

/-! ### `State.openBlock` -/

@[simp] theorem State.openBlock_ring_tail (s : State) (n : Nat) (a : Bool) (f : Frame) : (s.openBlock n a f).ring.tail = s.ring.tail := by
  simp [State.openBlock]

@[simp] theorem State.openBlock_ring_band (s : State) (n : Nat) (a : Bool) (f : Frame) : (s.openBlock n a f).ring.band = s.ring.band := by
  simp [State.openBlock]

@[simp] theorem State.openBlock_link (s : State) (n : Nat) (a : Bool) (f : Frame) : (s.openBlock n a f).link = s.link := by
  simp [State.openBlock]

@[simp] theorem State.openBlock_assembler (s : State) (n : Nat) (a : Bool) (f : Frame) : (s.openBlock n a f).assembler = s.assembler := by
  simp [State.openBlock]

@[simp] theorem State.openBlock_index (s : State) (n : Nat) (a : Bool) (f : Frame) : (s.openBlock n a f).index = s.index := by
  simp [State.openBlock]

@[simp] theorem State.openBlock_control (s : State) (n : Nat) (a : Bool) (f : Frame) : (s.openBlock n a f).control = s.control := by
  simp [State.openBlock]

@[simp] theorem State.openBlock_drain (s : State) (n : Nat) (a : Bool) (f : Frame) : (s.openBlock n a f).drain = s.drain := by
  simp [State.openBlock]

@[simp] theorem State.openBlock_pins (s : State) (n : Nat) (a : Bool) (f : Frame) : (s.openBlock n a f).pins = s.pins := by
  simp [State.openBlock]

@[simp] theorem State.openBlock_store_admission (s : State) (n : Nat) (a : Bool) (f : Frame) : (s.openBlock n a f).store.admission = s.store.admission := by
  simp [State.openBlock]

@[simp] theorem State.openBlock_store_archiveQueue (s : State) (n : Nat) (a : Bool) (f : Frame) : (s.openBlock n a f).store.archiveQueue = s.store.archiveQueue := by
  simp [State.openBlock]

@[simp] theorem State.openBlock_store_viewerQueue (s : State) (n : Nat) (a : Bool) (f : Frame) : (s.openBlock n a f).store.viewerQueue = s.store.viewerQueue := by
  simp [State.openBlock]

@[simp] theorem State.openBlock_store_turn (s : State) (n : Nat) (a : Bool) (f : Frame) : (s.openBlock n a f).store.turn = s.store.turn := by
  simp [State.openBlock]

@[simp] theorem State.openBlock_store_memory (s : State) (n : Nat) (a : Bool) (f : Frame) : (s.openBlock n a f).store.memory = s.store.memory := by
  simp [State.openBlock]

@[simp] theorem State.openBlock_store_readsDone (s : State) (n : Nat) (a : Bool) (f : Frame) : (s.openBlock n a f).store.readsDone = s.store.readsDone := by
  simp [State.openBlock]

@[simp] theorem State.openBlock_power (s : State) (n : Nat) (a : Bool) (f : Frame) : (s.openBlock n a f).power = s.power := by
  simp [State.openBlock]

@[simp] theorem State.openBlock_flags (s : State) (n : Nat) (a : Bool) (f : Frame) : (s.openBlock n a f).flags = s.flags := by
  simp [State.openBlock]

@[simp] theorem State.openBlock_viewerPort (s : State) (n : Nat) (a : Bool) (f : Frame) : (s.openBlock n a f).viewerPort = s.viewerPort := by
  simp [State.openBlock]

@[simp] theorem State.openBlock_archivePort (s : State) (n : Nat) (a : Bool) (f : Frame) : (s.openBlock n a f).archivePort = s.archivePort := by
  simp [State.openBlock]

@[simp] theorem State.openBlock_sent (s : State) (n : Nat) (a : Bool) (f : Frame) : (s.openBlock n a f).sent = s.sent := by
  simp [State.openBlock]

@[simp] theorem State.openBlock_pending (s : State) (n : Nat) (a : Bool) (f : Frame) : (s.openBlock n a f).pending = s.pending := by
  simp [State.openBlock]

/-! ### `State.recordTrigger` -/

@[simp] theorem State.recordTrigger_ring (s : State) (f : Frame) : (s.recordTrigger f).ring = s.ring := by
  unfold State.recordTrigger; (repeat' split) <;> simp

@[simp] theorem State.recordTrigger_link (s : State) (f : Frame) : (s.recordTrigger f).link = s.link := by
  unfold State.recordTrigger; (repeat' split) <;> simp

@[simp] theorem State.recordTrigger_assembler (s : State) (f : Frame) : (s.recordTrigger f).assembler = s.assembler := by
  unfold State.recordTrigger; (repeat' split) <;> simp

@[simp] theorem State.recordTrigger_control (s : State) (f : Frame) : (s.recordTrigger f).control = s.control := by
  unfold State.recordTrigger; (repeat' split) <;> simp

@[simp] theorem State.recordTrigger_drain (s : State) (f : Frame) : (s.recordTrigger f).drain = s.drain := by
  unfold State.recordTrigger; (repeat' split) <;> simp

@[simp] theorem State.recordTrigger_pins (s : State) (f : Frame) : (s.recordTrigger f).pins = s.pins := by
  unfold State.recordTrigger; (repeat' split) <;> simp

@[simp] theorem State.recordTrigger_store (s : State) (f : Frame) : (s.recordTrigger f).store = s.store := by
  unfold State.recordTrigger; (repeat' split) <;> simp

@[simp] theorem State.recordTrigger_power (s : State) (f : Frame) : (s.recordTrigger f).power = s.power := by
  unfold State.recordTrigger; (repeat' split) <;> simp

@[simp] theorem State.recordTrigger_flags (s : State) (f : Frame) : (s.recordTrigger f).flags = s.flags := by
  unfold State.recordTrigger; (repeat' split) <;> simp

@[simp] theorem State.recordTrigger_viewerPort (s : State) (f : Frame) : (s.recordTrigger f).viewerPort = s.viewerPort := by
  unfold State.recordTrigger; (repeat' split) <;> simp

@[simp] theorem State.recordTrigger_archivePort (s : State) (f : Frame) : (s.recordTrigger f).archivePort = s.archivePort := by
  unfold State.recordTrigger; (repeat' split) <;> simp

@[simp] theorem State.recordTrigger_sent (s : State) (f : Frame) : (s.recordTrigger f).sent = s.sent := by
  unfold State.recordTrigger; (repeat' split) <;> simp

@[simp] theorem State.recordTrigger_pending (s : State) (f : Frame) : (s.recordTrigger f).pending = s.pending := by
  unfold State.recordTrigger; (repeat' split) <;> simp

/-! ### `State.spendFrame` -/

@[simp] theorem State.spendFrame_ring (s : State) (f : Frame) : (s.spendFrame f).ring = s.ring := by
  simp [State.spendFrame]

@[simp] theorem State.spendFrame_link (s : State) (f : Frame) : (s.spendFrame f).link = s.link := by
  simp [State.spendFrame]

@[simp] theorem State.spendFrame_assembler_continuation (s : State) (f : Frame) : (s.spendFrame f).assembler.continuation = s.assembler.continuation := by
  simp [State.spendFrame]

@[simp] theorem State.spendFrame_assembler_nextSegment (s : State) (f : Frame) : (s.spendFrame f).assembler.nextSegment = s.assembler.nextSegment := by
  simp [State.spendFrame]

@[simp] theorem State.spendFrame_assembler_stage (s : State) (f : Frame) : (s.spendFrame f).assembler.stage = s.assembler.stage := by
  simp [State.spendFrame]

@[simp] theorem State.spendFrame_index (s : State) (f : Frame) : (s.spendFrame f).index = s.index := by
  simp [State.spendFrame]

@[simp] theorem State.spendFrame_control (s : State) (f : Frame) : (s.spendFrame f).control = s.control := by
  simp [State.spendFrame]

@[simp] theorem State.spendFrame_drain (s : State) (f : Frame) : (s.spendFrame f).drain = s.drain := by
  simp [State.spendFrame]

@[simp] theorem State.spendFrame_pins (s : State) (f : Frame) : (s.spendFrame f).pins = s.pins := by
  simp [State.spendFrame]

@[simp] theorem State.spendFrame_store (s : State) (f : Frame) : (s.spendFrame f).store = s.store := by
  simp [State.spendFrame]

@[simp] theorem State.spendFrame_power (s : State) (f : Frame) : (s.spendFrame f).power = s.power := by
  simp [State.spendFrame]

@[simp] theorem State.spendFrame_flags (s : State) (f : Frame) : (s.spendFrame f).flags = s.flags := by
  simp [State.spendFrame]

@[simp] theorem State.spendFrame_viewerPort (s : State) (f : Frame) : (s.spendFrame f).viewerPort = s.viewerPort := by
  simp [State.spendFrame]

@[simp] theorem State.spendFrame_archivePort (s : State) (f : Frame) : (s.spendFrame f).archivePort = s.archivePort := by
  simp [State.spendFrame]

@[simp] theorem State.spendFrame_sent (s : State) (f : Frame) : (s.spendFrame f).sent = s.sent := by
  simp [State.spendFrame]

@[simp] theorem State.spendFrame_pending (s : State) (f : Frame) : (s.spendFrame f).pending = s.pending := by
  simp [State.spendFrame]

/-! ### `State.sealFull` -/

@[simp] theorem State.sealFull_ring_head (s : State) : s.sealFull.ring.head = s.ring.head := by
  unfold State.sealFull; (repeat' split) <;> simp

@[simp] theorem State.sealFull_ring_tail (s : State) : s.sealFull.ring.tail = s.ring.tail := by
  unfold State.sealFull; (repeat' split) <;> simp

@[simp] theorem State.sealFull_ring_band (s : State) : s.sealFull.ring.band = s.ring.band := by
  unfold State.sealFull; (repeat' split) <;> simp

@[simp] theorem State.sealFull_link_locked (s : State) : s.sealFull.link.locked = s.link.locked := by
  unfold State.sealFull; (repeat' split) <;> simp

@[simp] theorem State.sealFull_link_expected (s : State) : s.sealFull.link.expected = s.link.expected := by
  unfold State.sealFull; (repeat' split) <;> simp

@[simp] theorem State.sealFull_link_intake (s : State) : s.sealFull.link.intake = s.link.intake := by
  unfold State.sealFull; (repeat' split) <;> simp

@[simp] theorem State.sealFull_link_pendingLoss (s : State) : s.sealFull.link.pendingLoss = s.link.pendingLoss := by
  unfold State.sealFull; (repeat' split) <;> simp

@[simp] theorem State.sealFull_link_pause (s : State) : s.sealFull.link.pause = s.link.pause := by
  unfold State.sealFull; (repeat' split) <;> simp

@[simp] theorem State.sealFull_link_captureEnable (s : State) : s.sealFull.link.captureEnable = s.link.captureEnable := by
  unfold State.sealFull; (repeat' split) <;> simp

@[simp] theorem State.sealFull_link_haltLine (s : State) : s.sealFull.link.haltLine = s.link.haltLine := by
  unfold State.sealFull; (repeat' split) <;> simp

@[simp] theorem State.sealFull_assembler (s : State) : s.sealFull.assembler = s.assembler := by
  unfold State.sealFull; (repeat' split) <;> simp

@[simp] theorem State.sealFull_index (s : State) : s.sealFull.index = s.index := by
  unfold State.sealFull; (repeat' split) <;> simp

@[simp] theorem State.sealFull_control (s : State) : s.sealFull.control = s.control := by
  unfold State.sealFull; (repeat' split) <;> simp

@[simp] theorem State.sealFull_drain_contexts (s : State) : s.sealFull.drain.contexts = s.drain.contexts := by
  unfold State.sealFull; (repeat' split) <;> simp

@[simp] theorem State.sealFull_pins (s : State) : s.sealFull.pins = s.pins := by
  unfold State.sealFull; (repeat' split) <;> simp

@[simp] theorem State.sealFull_store (s : State) : s.sealFull.store = s.store := by
  unfold State.sealFull; (repeat' split) <;> simp

@[simp] theorem State.sealFull_power (s : State) : s.sealFull.power = s.power := by
  unfold State.sealFull; (repeat' split) <;> simp

@[simp] theorem State.sealFull_pending (s : State) : s.sealFull.pending = s.pending := by
  unfold State.sealFull; (repeat' split) <;> simp

/-! ### `State.endFrame` -/

@[simp] theorem State.endFrame_ring_head (s : State) (f : Frame) : (s.endFrame f).ring.head = s.ring.head := by
  unfold State.endFrame; (repeat' split) <;> simp

@[simp] theorem State.endFrame_ring_tail (s : State) (f : Frame) : (s.endFrame f).ring.tail = s.ring.tail := by
  unfold State.endFrame; (repeat' split) <;> simp

@[simp] theorem State.endFrame_link_locked (s : State) (f : Frame) : (s.endFrame f).link.locked = s.link.locked := by
  unfold State.endFrame; (repeat' split) <;> simp

@[simp] theorem State.endFrame_link_expected (s : State) (f : Frame) : (s.endFrame f).link.expected = s.link.expected := by
  unfold State.endFrame; (repeat' split) <;> simp

@[simp] theorem State.endFrame_link_haltLine (s : State) (f : Frame) : (s.endFrame f).link.haltLine = s.link.haltLine := by
  unfold State.endFrame; (repeat' split) <;> simp

@[simp] theorem State.endFrame_assembler_nextSegment (s : State) (f : Frame) : (s.endFrame f).assembler.nextSegment = s.assembler.nextSegment := by
  unfold State.endFrame; (repeat' split) <;> simp

@[simp] theorem State.endFrame_control_staged (s : State) (f : Frame) : (s.endFrame f).control.staged = s.control.staged := by
  unfold State.endFrame; (repeat' split) <;> simp

@[simp] theorem State.endFrame_control_headMark (s : State) (f : Frame) : (s.endFrame f).control.headMark = s.control.headMark := by
  unfold State.endFrame; (repeat' split) <;> simp

@[simp] theorem State.endFrame_control_archiveMark (s : State) (f : Frame) : (s.endFrame f).control.archiveMark = s.control.archiveMark := by
  unfold State.endFrame; (repeat' split) <;> simp

@[simp] theorem State.endFrame_drain_contexts (s : State) (f : Frame) : (s.endFrame f).drain.contexts = s.drain.contexts := by
  unfold State.endFrame; (repeat' split) <;> simp

@[simp] theorem State.endFrame_pins (s : State) (f : Frame) : (s.endFrame f).pins = s.pins := by
  unfold State.endFrame; (repeat' split) <;> simp

@[simp] theorem State.endFrame_store_archiveQueue (s : State) (f : Frame) : (s.endFrame f).store.archiveQueue = s.store.archiveQueue := by
  unfold State.endFrame; (repeat' split) <;> simp

@[simp] theorem State.endFrame_store_viewerQueue (s : State) (f : Frame) : (s.endFrame f).store.viewerQueue = s.store.viewerQueue := by
  unfold State.endFrame; (repeat' split) <;> simp

@[simp] theorem State.endFrame_store_turn (s : State) (f : Frame) : (s.endFrame f).store.turn = s.store.turn := by
  unfold State.endFrame; (repeat' split) <;> simp

@[simp] theorem State.endFrame_store_inFlight (s : State) (f : Frame) : (s.endFrame f).store.inFlight = s.store.inFlight := by
  unfold State.endFrame; (repeat' split) <;> simp

@[simp] theorem State.endFrame_store_memory (s : State) (f : Frame) : (s.endFrame f).store.memory = s.store.memory := by
  unfold State.endFrame; (repeat' split) <;> simp

@[simp] theorem State.endFrame_store_readsDone (s : State) (f : Frame) : (s.endFrame f).store.readsDone = s.store.readsDone := by
  unfold State.endFrame; (repeat' split) <;> simp

@[simp] theorem State.endFrame_power (s : State) (f : Frame) : (s.endFrame f).power = s.power := by
  unfold State.endFrame; (repeat' split) <;> simp

@[simp] theorem State.endFrame_pending (s : State) (f : Frame) : (s.endFrame f).pending = s.pending := by
  unfold State.endFrame; (repeat' split) <;> simp

/-! ### `State.afterPlaced` -/

@[simp] theorem State.afterPlaced_ring_head (s : State) (f : Frame) : (s.afterPlaced f).ring.head = s.ring.head := by
  simp [State.afterPlaced]

@[simp] theorem State.afterPlaced_ring_tail (s : State) (f : Frame) : (s.afterPlaced f).ring.tail = s.ring.tail := by
  simp [State.afterPlaced]

@[simp] theorem State.afterPlaced_link_locked (s : State) (f : Frame) : (s.afterPlaced f).link.locked = s.link.locked := by
  simp [State.afterPlaced]

@[simp] theorem State.afterPlaced_link_expected (s : State) (f : Frame) : (s.afterPlaced f).link.expected = s.link.expected := by
  simp [State.afterPlaced]

@[simp] theorem State.afterPlaced_link_haltLine (s : State) (f : Frame) : (s.afterPlaced f).link.haltLine = s.link.haltLine := by
  simp [State.afterPlaced]

@[simp] theorem State.afterPlaced_assembler_nextSegment (s : State) (f : Frame) : (s.afterPlaced f).assembler.nextSegment = s.assembler.nextSegment := by
  simp [State.afterPlaced]

@[simp] theorem State.afterPlaced_control_staged (s : State) (f : Frame) : (s.afterPlaced f).control.staged = s.control.staged := by
  simp [State.afterPlaced]

@[simp] theorem State.afterPlaced_control_headMark (s : State) (f : Frame) : (s.afterPlaced f).control.headMark = s.control.headMark := by
  simp [State.afterPlaced]

@[simp] theorem State.afterPlaced_control_archiveMark (s : State) (f : Frame) : (s.afterPlaced f).control.archiveMark = s.control.archiveMark := by
  simp [State.afterPlaced]

@[simp] theorem State.afterPlaced_drain_contexts (s : State) (f : Frame) : (s.afterPlaced f).drain.contexts = s.drain.contexts := by
  simp [State.afterPlaced]

@[simp] theorem State.afterPlaced_pins (s : State) (f : Frame) : (s.afterPlaced f).pins = s.pins := by
  simp [State.afterPlaced]

@[simp] theorem State.afterPlaced_store_archiveQueue (s : State) (f : Frame) : (s.afterPlaced f).store.archiveQueue = s.store.archiveQueue := by
  simp [State.afterPlaced]

@[simp] theorem State.afterPlaced_store_viewerQueue (s : State) (f : Frame) : (s.afterPlaced f).store.viewerQueue = s.store.viewerQueue := by
  simp [State.afterPlaced]

@[simp] theorem State.afterPlaced_store_turn (s : State) (f : Frame) : (s.afterPlaced f).store.turn = s.store.turn := by
  simp [State.afterPlaced]

@[simp] theorem State.afterPlaced_store_inFlight (s : State) (f : Frame) : (s.afterPlaced f).store.inFlight = s.store.inFlight := by
  simp [State.afterPlaced]

@[simp] theorem State.afterPlaced_store_memory (s : State) (f : Frame) : (s.afterPlaced f).store.memory = s.store.memory := by
  simp [State.afterPlaced]

@[simp] theorem State.afterPlaced_store_readsDone (s : State) (f : Frame) : (s.afterPlaced f).store.readsDone = s.store.readsDone := by
  simp [State.afterPlaced]

@[simp] theorem State.afterPlaced_power (s : State) (f : Frame) : (s.afterPlaced f).power = s.power := by
  simp [State.afterPlaced]

@[simp] theorem State.afterPlaced_pending (s : State) (f : Frame) : (s.afterPlaced f).pending = s.pending := by
  simp [State.afterPlaced]

/-! ### `State.dropFront` -/

@[simp] theorem State.dropFront_ring (s : State) : s.dropFront.ring = s.ring := by
  simp [State.dropFront]

@[simp] theorem State.dropFront_link_locked (s : State) : s.dropFront.link.locked = s.link.locked := by
  simp [State.dropFront]

@[simp] theorem State.dropFront_link_expected (s : State) : s.dropFront.link.expected = s.link.expected := by
  simp [State.dropFront]

@[simp] theorem State.dropFront_link_pendingLoss (s : State) : s.dropFront.link.pendingLoss = s.link.pendingLoss := by
  simp [State.dropFront]

@[simp] theorem State.dropFront_link_captureEnable (s : State) : s.dropFront.link.captureEnable = s.link.captureEnable := by
  simp [State.dropFront]

@[simp] theorem State.dropFront_link_haltLine (s : State) : s.dropFront.link.haltLine = s.link.haltLine := by
  simp [State.dropFront]

@[simp] theorem State.dropFront_assembler (s : State) : s.dropFront.assembler = s.assembler := by
  simp [State.dropFront]

@[simp] theorem State.dropFront_index (s : State) : s.dropFront.index = s.index := by
  simp [State.dropFront]

@[simp] theorem State.dropFront_control (s : State) : s.dropFront.control = s.control := by
  simp [State.dropFront]

@[simp] theorem State.dropFront_drain (s : State) : s.dropFront.drain = s.drain := by
  simp [State.dropFront]

@[simp] theorem State.dropFront_pins (s : State) : s.dropFront.pins = s.pins := by
  simp [State.dropFront]

@[simp] theorem State.dropFront_store (s : State) : s.dropFront.store = s.store := by
  simp [State.dropFront]

@[simp] theorem State.dropFront_power (s : State) : s.dropFront.power = s.power := by
  simp [State.dropFront]

@[simp] theorem State.dropFront_flags (s : State) : s.dropFront.flags = s.flags := by
  simp [State.dropFront]

@[simp] theorem State.dropFront_viewerPort (s : State) : s.dropFront.viewerPort = s.viewerPort := by
  simp [State.dropFront]

@[simp] theorem State.dropFront_archivePort (s : State) : s.dropFront.archivePort = s.archivePort := by
  simp [State.dropFront]

@[simp] theorem State.dropFront_sent (s : State) : s.dropFront.sent = s.sent := by
  simp [State.dropFront]

@[simp] theorem State.dropFront_pending (s : State) : s.dropFront.pending = s.pending := by
  simp [State.dropFront]

/-! ### `State.dropContinuation` -/

@[simp] theorem State.dropContinuation_ring (s : State) : s.dropContinuation.ring = s.ring := by
  simp [State.dropContinuation]

@[simp] theorem State.dropContinuation_link (s : State) : s.dropContinuation.link = s.link := by
  simp [State.dropContinuation]

@[simp] theorem State.dropContinuation_assembler_sliceCounter (s : State) : s.dropContinuation.assembler.sliceCounter = s.assembler.sliceCounter := by
  simp [State.dropContinuation]

@[simp] theorem State.dropContinuation_assembler_idleFlush (s : State) : s.dropContinuation.assembler.idleFlush = s.assembler.idleFlush := by
  simp [State.dropContinuation]

@[simp] theorem State.dropContinuation_assembler_nextSegment (s : State) : s.dropContinuation.assembler.nextSegment = s.assembler.nextSegment := by
  simp [State.dropContinuation]

@[simp] theorem State.dropContinuation_assembler_stage (s : State) : s.dropContinuation.assembler.stage = s.assembler.stage := by
  simp [State.dropContinuation]

@[simp] theorem State.dropContinuation_index (s : State) : s.dropContinuation.index = s.index := by
  simp [State.dropContinuation]

@[simp] theorem State.dropContinuation_control (s : State) : s.dropContinuation.control = s.control := by
  simp [State.dropContinuation]

@[simp] theorem State.dropContinuation_drain (s : State) : s.dropContinuation.drain = s.drain := by
  simp [State.dropContinuation]

@[simp] theorem State.dropContinuation_pins (s : State) : s.dropContinuation.pins = s.pins := by
  simp [State.dropContinuation]

@[simp] theorem State.dropContinuation_store (s : State) : s.dropContinuation.store = s.store := by
  simp [State.dropContinuation]

@[simp] theorem State.dropContinuation_power (s : State) : s.dropContinuation.power = s.power := by
  simp [State.dropContinuation]

@[simp] theorem State.dropContinuation_flags (s : State) : s.dropContinuation.flags = s.flags := by
  simp [State.dropContinuation]

@[simp] theorem State.dropContinuation_viewerPort (s : State) : s.dropContinuation.viewerPort = s.viewerPort := by
  simp [State.dropContinuation]

@[simp] theorem State.dropContinuation_archivePort (s : State) : s.dropContinuation.archivePort = s.archivePort := by
  simp [State.dropContinuation]

@[simp] theorem State.dropContinuation_sent (s : State) : s.dropContinuation.sent = s.sent := by
  simp [State.dropContinuation]

@[simp] theorem State.dropContinuation_pending (s : State) : s.dropContinuation.pending = s.pending := by
  simp [State.dropContinuation]

/-! ### `State.present` -/

@[simp] theorem State.present_ring (s : State) : s.present.ring = s.ring := by
  simp [State.present]

@[simp] theorem State.present_link (s : State) : s.present.link = s.link := by
  simp [State.present]

@[simp] theorem State.present_assembler (s : State) : s.present.assembler = s.assembler := by
  simp [State.present]

@[simp] theorem State.present_index (s : State) : s.present.index = s.index := by
  simp [State.present]

@[simp] theorem State.present_control (s : State) : s.present.control = s.control := by
  simp [State.present]

@[simp] theorem State.present_drain (s : State) : s.present.drain = s.drain := by
  simp [State.present]

@[simp] theorem State.present_pins (s : State) : s.present.pins = s.pins := by
  simp [State.present]

@[simp] theorem State.present_store_archiveQueue (s : State) : s.present.store.archiveQueue = s.store.archiveQueue := by
  simp [State.present]

@[simp] theorem State.present_store_viewerQueue (s : State) : s.present.store.viewerQueue = s.store.viewerQueue := by
  simp [State.present]

@[simp] theorem State.present_store_turn (s : State) : s.present.store.turn = s.store.turn := by
  simp [State.present]

@[simp] theorem State.present_store_inFlight (s : State) : s.present.store.inFlight = s.store.inFlight := by
  simp [State.present]

@[simp] theorem State.present_store_memory (s : State) : s.present.store.memory = s.store.memory := by
  simp [State.present]

@[simp] theorem State.present_store_readsDone (s : State) : s.present.store.readsDone = s.store.readsDone := by
  simp [State.present]

@[simp] theorem State.present_power (s : State) : s.present.power = s.power := by
  simp [State.present]

@[simp] theorem State.present_flags (s : State) : s.present.flags = s.flags := by
  simp [State.present]

@[simp] theorem State.present_viewerPort (s : State) : s.present.viewerPort = s.viewerPort := by
  simp [State.present]

@[simp] theorem State.present_archivePort (s : State) : s.present.archivePort = s.archivePort := by
  simp [State.present]

@[simp] theorem State.present_sent (s : State) : s.present.sent = s.sent := by
  simp [State.present]

@[simp] theorem State.present_pending (s : State) : s.present.pending = s.pending := by
  simp [State.present]

/-! ### `State.waitAtFront` -/

@[simp] theorem State.waitAtFront_ring (s : State) (x : Stage) : (s.waitAtFront x).ring = s.ring := by
  simp [State.waitAtFront]

@[simp] theorem State.waitAtFront_link (s : State) (x : Stage) : (s.waitAtFront x).link = s.link := by
  simp [State.waitAtFront]

@[simp] theorem State.waitAtFront_assembler_continuation (s : State) (x : Stage) : (s.waitAtFront x).assembler.continuation = s.assembler.continuation := by
  simp [State.waitAtFront]

@[simp] theorem State.waitAtFront_assembler_sliceCounter (s : State) (x : Stage) : (s.waitAtFront x).assembler.sliceCounter = s.assembler.sliceCounter := by
  simp [State.waitAtFront]

@[simp] theorem State.waitAtFront_assembler_idleFlush (s : State) (x : Stage) : (s.waitAtFront x).assembler.idleFlush = s.assembler.idleFlush := by
  simp [State.waitAtFront]

@[simp] theorem State.waitAtFront_assembler_nextSegment (s : State) (x : Stage) : (s.waitAtFront x).assembler.nextSegment = s.assembler.nextSegment := by
  simp [State.waitAtFront]

@[simp] theorem State.waitAtFront_index (s : State) (x : Stage) : (s.waitAtFront x).index = s.index := by
  simp [State.waitAtFront]

@[simp] theorem State.waitAtFront_control (s : State) (x : Stage) : (s.waitAtFront x).control = s.control := by
  simp [State.waitAtFront]

@[simp] theorem State.waitAtFront_drain (s : State) (x : Stage) : (s.waitAtFront x).drain = s.drain := by
  simp [State.waitAtFront]

@[simp] theorem State.waitAtFront_pins (s : State) (x : Stage) : (s.waitAtFront x).pins = s.pins := by
  simp [State.waitAtFront]

@[simp] theorem State.waitAtFront_store (s : State) (x : Stage) : (s.waitAtFront x).store = s.store := by
  simp [State.waitAtFront]

@[simp] theorem State.waitAtFront_power (s : State) (x : Stage) : (s.waitAtFront x).power = s.power := by
  simp [State.waitAtFront]

@[simp] theorem State.waitAtFront_flags (s : State) (x : Stage) : (s.waitAtFront x).flags = s.flags := by
  simp [State.waitAtFront]

@[simp] theorem State.waitAtFront_viewerPort (s : State) (x : Stage) : (s.waitAtFront x).viewerPort = s.viewerPort := by
  simp [State.waitAtFront]

@[simp] theorem State.waitAtFront_archivePort (s : State) (x : Stage) : (s.waitAtFront x).archivePort = s.archivePort := by
  simp [State.waitAtFront]

@[simp] theorem State.waitAtFront_sent (s : State) (x : Stage) : (s.waitAtFront x).sent = s.sent := by
  simp [State.waitAtFront]

@[simp] theorem State.waitAtFront_pending (s : State) (x : Stage) : (s.waitAtFront x).pending = s.pending := by
  simp [State.waitAtFront]

end Sys2Proof.Machine
end

