-- ==== Sys2Proof/Laws/Memory.lean ====
section
/-!
SUPPORT. The stacked DRAM: every operation keeps the canonical form, a byte reads as it was last written, and every other byte reads as before.
-/
namespace Sys2Proof.Machine

/-- The canonical form: addresses strictly rising. -/
theorem Memory.wf_iff (m : List Host.Cell) : Memory.wf m = true ↔ (m.map Prod.fst).Pairwise (· < ·) := by
  simp [Memory.wf]

/-- The cells of bytes at consecutive addresses. -/
theorem cells_fst (bytes : List Byte) (a : Nat) :
    ((bytes.zipIdx a).map fun p => (p.2, p.1)).map Prod.fst = List.range' a bytes.length := by
  induction bytes generalizing a with
  | nil => rfl
  | cons b bs ih =>
    simp only [List.zipIdx_cons, List.map_cons, List.length_cons, List.range'_succ]
    rw [ih]

/-- A part of a memory in canonical form is in canonical form. -/
theorem Memory.wf_filter {m : List Host.Cell} (f : Host.Cell → Bool) (h : Memory.wf m = true) :
    Memory.wf (m.filter f) = true := by
  rw [Memory.wf_iff] at *
  exact h.sublist (List.filter_sublist.map _)

/-- A write keeps the canonical form. -/
theorem Memory.wf_write {m : List Host.Cell} (a : Nat) (bytes : List Byte) (h : Memory.wf m = true) :
    Memory.wf (Memory.write m a bytes) = true := by
  have h1 := Memory.wf_filter (fun c => decide (c.1 < a)) h
  have h2 := Memory.wf_filter (fun c => decide (a + bytes.length ≤ c.1)) h
  rw [Memory.wf_iff] at *
  simp only [Memory.write, List.map_append, cells_fst]
  rw [List.pairwise_append, List.pairwise_append]
  refine ⟨⟨h1, List.pairwise_lt_range', ?_⟩, h2, ?_⟩
  · intro x hx y hy
    simp only [List.mem_map, List.mem_filter, decide_eq_true_eq] at hx
    obtain ⟨c, ⟨_, hc⟩, rfl⟩ := hx
    rw [List.mem_range'_1] at hy
    omega
  · intro x hx y hy
    simp only [List.mem_map, List.mem_filter, decide_eq_true_eq] at hy
    obtain ⟨c, ⟨_, hc⟩, rfl⟩ := hy
    rw [List.mem_append] at hx
    rcases hx with hx | hx
    · simp only [List.mem_map, List.mem_filter, decide_eq_true_eq] at hx
      obtain ⟨d, ⟨_, hd⟩, rfl⟩ := hx
      omega
    · rw [List.mem_range'_1] at hx
      omega

/-- Forgetting contents keeps the canonical form. -/
theorem Memory.wf_forget {m : List Host.Cell} (lo hi : Nat) (h : Memory.wf m = true) :
    Memory.wf (Memory.forget m lo hi) = true :=
  Memory.wf_filter _ h

/-- Searching a memory for an address. -/
theorem Memory.read_append (l r : List Host.Cell) (a : Nat) :
    Memory.read (l ++ r) a = (Memory.read l a).or (Memory.read r a) := by
  simp only [Memory.read, List.find?_append]
  cases l.find? fun c => decide (c.1 = a) <;> rfl

/-- A filter that keeps every cell of an address keeps what it reads. -/
theorem Memory.read_filter_keep {m : List Host.Cell} {f : Host.Cell → Bool} {a : Nat} (h : ∀ b, f (a, b) = true) :
    Memory.read (m.filter f) a = Memory.read m a := by
  simp only [Memory.read, List.find?_filter]
  congr 2
  funext c
  by_cases hc : c.1 = a
  · obtain ⟨x, b⟩ := c
    simp only at hc
    subst hc
    simp [h b]
  · simp [hc]

/-- A filter that keeps no cell of an address leaves it undefined. -/
theorem Memory.read_filter_drop {m : List Host.Cell} {f : Host.Cell → Bool} {a : Nat} (h : ∀ b, f (a, b) = false) :
    Memory.read (m.filter f) a = none := by
  simp only [Memory.read, List.find?_filter, Option.map_eq_none_iff, List.find?_eq_none]
  rintro ⟨x, b⟩ _
  by_cases hx : x = a
  · subst hx
    simp [h b]
  · simp [hx]

/-- The cells of a run of bytes, read at an address. -/
theorem Memory.read_cells (bytes : List Byte) (a x : Nat) :
    Memory.read ((bytes.zipIdx a).map fun p => (p.2, p.1)) x = if a ≤ x then bytes[x - a]? else none := by
  induction bytes generalizing a with
  | nil => simp [Memory.read]
  | cons b bs ih =>
    rw [List.zipIdx_cons, List.map_cons]
    by_cases hx : a = x
    · subst hx
      simp [Memory.read]
    · have ih' := ih (a + 1)
      simp only [Memory.read] at ih' ⊢
      rw [List.find?_cons_of_neg (by simpa using hx), ih']
      by_cases hl : a ≤ x
      · have hs : x - a = (x - (a + 1)) + 1 := by omega
        rw [if_pos hl, if_pos (by omega), hs, List.getElem?_cons_succ]
      · rw [if_neg hl, if_neg (by omega)]

/-- After a write, an address of the run reads the byte written there. -/
theorem Memory.read_write_inside {m : List Host.Cell} {a x : Nat} {bytes : List Byte} (h1 : a ≤ x)
    (h2 : x < a + bytes.length) : Memory.read (Memory.write m a bytes) x = bytes[x - a]? := by
  rw [Memory.write, Memory.read_append, Memory.read_append, Memory.read_filter_drop (by intro b; simp; omega),
    Memory.read_cells, if_pos h1, Memory.read_filter_drop (by intro b; simp; omega)]
  cases bytes[x - a]? <;> rfl

/-- After a write, every other address reads as before. -/
theorem Memory.read_write_outside {m : List Host.Cell} {a x : Nat} {bytes : List Byte}
    (h : x < a ∨ a + bytes.length ≤ x) : Memory.read (Memory.write m a bytes) x = Memory.read m x := by
  rw [Memory.write, Memory.read_append, Memory.read_append, Memory.read_cells]
  rcases h with h | h
  · rw [Memory.read_filter_keep (by intro b; simpa using h), if_neg (by omega),
      Memory.read_filter_drop (by intro b; simp; omega)]
    cases Memory.read m x <;> rfl
  · rw [Memory.read_filter_drop (by intro b; simp; omega), Memory.read_filter_keep (by intro b; simpa using h)]
    by_cases hl : a ≤ x
    · rw [if_pos hl, List.getElem?_eq_none (by omega)]
      rfl
    · rw [if_neg hl]
      rfl

/-- After its contents are forgotten an address holds none; every other address reads as before. -/
theorem Memory.read_forget (m : List Host.Cell) (lo hi x : Nat) :
    Memory.read (Memory.forget m lo hi) x = if lo ≤ x ∧ x < hi then none else Memory.read m x := by
  unfold Memory.forget
  split
  · exact Memory.read_filter_drop (by intro b; simp; omega)
  · exact Memory.read_filter_keep (by intro b; simp; omega)

/-- The store's contents after device reset are in canonical form: none is defined. -/
theorem Memory.wf_reset : Memory.wf State.reset.store.memory = true := rfl

end Sys2Proof.Machine
end

