-- ==== Sys2Proof/Laws/Wire.lean ====
section
/-!
SUPPORT. Little-endian fields (R203): their length, and that a field read back gives the number written.
-/
namespace Sys2Proof

@[simp] theorem leBytes_length (width n : Nat) : (leBytes width n).length = width := by
  induction width generalizing n with
  | zero => rfl
  | succ width ih => simp [leBytes, ih]

theorem leNat_leBytes (width n : Nat) : leNat (leBytes width n) = n % 256 ^ width := by
  induction width generalizing n with
  | zero => simp [leBytes, leNat, Nat.mod_one]
  | succ width ih =>
    simp only [leBytes, leNat, ih, BitVec.toNat_ofNat]
    rw [Nat.pow_succ 256 width, Nat.mul_comm (256 ^ width) 256, Nat.mod_mul]

/-- A field that stands behind `before` is read back whatever follows it. -/
theorem fieldAt_append (before after : List Byte) (width n : Nat) :
    fieldAt (before ++ leBytes width n ++ after) before.length width = n % 256 ^ width := by
  rw [fieldAt, List.append_assoc, List.drop_left, List.take_append_of_le_length (by simp),
    List.take_of_length_le (by simp), leNat_leBytes]

@[simp] theorem bodyOfProfile_length (p : ProfileFields) : (bodyOfProfile p).length = 32 := by
  simp [bodyOfProfile]

end Sys2Proof
end

