-- ==== Sys2Proof/Laws/PerInstr.lean ====
section
/-!
SUPPORT. The families of statements made one command at a time.
-/
namespace Sys2Proof.Laws

-- One theorem at a time: a hundred small ones at once ask for more threads than the memory limit of the check leaves room for.
set_option Elab.async false

/-- A command has a header exactly when it is a message, and the body its encoding writes is as long as its parameter fields (R203). -/
def BodyLength.Statement (i : Instr) : Prop :=
  i.message.isSome = i.header.isSome ∧ ∀ p kind body, i.message = some (p, kind, body) → body.length = i.bodyBytes

theorem BodyLength.start (h : Header) : BodyLength.Statement (.start h) :=
  ⟨rfl, fun _ _ _ h => by simp [Instr.message] at h; simp [← h.2.2, Instr.bodyBytes]⟩

theorem BodyLength.stopAtSegmentEnd (h : Header) (mode : BitVec 8) : BodyLength.Statement (.stopAtSegmentEnd h mode) :=
  ⟨rfl, fun _ _ _ h => by simp [Instr.message] at h; simp [← h.2.2, Instr.bodyBytes]⟩

theorem BodyLength.stopNow (h : Header) (mode : BitVec 8) : BodyLength.Statement (.stopNow h mode) :=
  ⟨rfl, fun _ _ _ h => by simp [Instr.message] at h; simp [← h.2.2, Instr.bodyBytes]⟩

theorem BodyLength.flush (h : Header) : BodyLength.Statement (.flush h) :=
  ⟨rfl, fun _ _ _ h => by simp [Instr.message] at h; simp [← h.2.2, Instr.bodyBytes]⟩

theorem BodyLength.stageProfile (h : Header) (p : ProfileFields) : BodyLength.Statement (.stageProfile h p) :=
  ⟨rfl, fun _ _ _ h => by simp [Instr.message] at h; simp [← h.2.2, Instr.bodyBytes]⟩

theorem BodyLength.readProfile (h : Header) (which : BitVec 8) : BodyLength.Statement (.readProfile h which) :=
  ⟨rfl, fun _ _ _ h => by simp [Instr.message] at h; simp [← h.2.2, Instr.bodyBytes]⟩

theorem BodyLength.setHeadMark (h : Header) (lbn : BitVec 64) (action : BitVec 8) : BodyLength.Statement (.setHeadMark h lbn action) :=
  ⟨rfl, fun _ _ _ h => by simp [Instr.message] at h; simp [← h.2.2, Instr.bodyBytes]⟩

theorem BodyLength.clearHeadMark (h : Header) : BodyLength.Statement (.clearHeadMark h) :=
  ⟨rfl, fun _ _ _ h => by simp [Instr.message] at h; simp [← h.2.2, Instr.bodyBytes]⟩

theorem BodyLength.pin (h : Header) (first : BitVec 64) (count : BitVec 32) : BodyLength.Statement (.pin h first count) :=
  ⟨rfl, fun _ _ _ h => by simp [Instr.message] at h; simp [← h.2.2, Instr.bodyBytes]⟩

theorem BodyLength.unpin (h : Header) : BodyLength.Statement (.unpin h) :=
  ⟨rfl, fun _ _ _ h => by simp [Instr.message] at h; simp [← h.2.2, Instr.bodyBytes]⟩

theorem BodyLength.read (h : Header) (lbn : BitVec 64) (offset : BitVec 32) (length : BitVec 32) : BodyLength.Statement (.read h lbn offset length) :=
  ⟨rfl, fun _ _ _ h => by simp [Instr.message] at h; simp [← h.2.2, Instr.bodyBytes]⟩

theorem BodyLength.setGroupNext (h : Header) (next : BitVec 8) : BodyLength.Statement (.setGroupNext h next) :=
  ⟨rfl, fun _ _ _ h => by simp [Instr.message] at h; simp [← h.2.2, Instr.bodyBytes]⟩

theorem BodyLength.applyGroups (h : Header) : BodyLength.Statement (.applyGroups h) :=
  ⟨rfl, fun _ _ _ h => by simp [Instr.message] at h; simp [← h.2.2, Instr.bodyBytes]⟩

theorem BodyLength.setGroupMap (h : Header) (span : BitVec 8) (groups : List (BitVec 8)) : BodyLength.Statement (.setGroupMap h span groups) :=
  ⟨rfl, fun _ _ _ h => by simp [Instr.message] at h; simp [← h.2.2, Instr.bodyBytes, Nat.add_comm]⟩

theorem BodyLength.reform (h : Header) : BodyLength.Statement (.reform h) :=
  ⟨rfl, fun _ _ _ h => by simp [Instr.message] at h; simp [← h.2.2, Instr.bodyBytes]⟩

theorem BodyLength.openContext (h : Header) (windowFirst : BitVec 64) (windowLength : BitVec 64) : BodyLength.Statement (.openContext h windowFirst windowLength) :=
  ⟨rfl, fun _ _ _ h => by simp [Instr.message] at h; simp [← h.2.2, Instr.bodyBytes]⟩

theorem BodyLength.closeContext (h : Header) : BodyLength.Statement (.closeContext h) :=
  ⟨rfl, fun _ _ _ h => by simp [Instr.message] at h; simp [← h.2.2, Instr.bodyBytes]⟩

theorem BodyLength.take (h : Header) (wait : BitVec 8) : BodyLength.Statement (.take h wait) :=
  ⟨rfl, fun _ _ _ h => by simp [Instr.message] at h; simp [← h.2.2, Instr.bodyBytes]⟩

theorem BodyLength.fetch (h : Header) (lbn : BitVec 64) (offset : BitVec 32) (length : BitVec 32) : BodyLength.Statement (.fetch h lbn offset length) :=
  ⟨rfl, fun _ _ _ h => by simp [Instr.message] at h; simp [← h.2.2, Instr.bodyBytes]⟩

theorem BodyLength.confirm (h : Header) (lbn : BitVec 64) (withLoss : BitVec 8) : BodyLength.Statement (.confirm h lbn withLoss) :=
  ⟨rfl, fun _ _ _ h => by simp [Instr.message] at h; simp [← h.2.2, Instr.bodyBytes]⟩

theorem BodyLength.returnBlock (h : Header) (lbn : BitVec 64) : BodyLength.Statement (.returnBlock h lbn) :=
  ⟨rfl, fun _ _ _ h => by simp [Instr.message] at h; simp [← h.2.2, Instr.bodyBytes]⟩

theorem BodyLength.setArchiveMark (h : Header) (lbn : BitVec 64) : BodyLength.Statement (.setArchiveMark h lbn) :=
  ⟨rfl, fun _ _ _ h => by simp [Instr.message] at h; simp [← h.2.2, Instr.bodyBytes]⟩

theorem BodyLength.clearArchiveMark (h : Header) : BodyLength.Statement (.clearArchiveMark h) :=
  ⟨rfl, fun _ _ _ h => by simp [Instr.message] at h; simp [← h.2.2, Instr.bodyBytes]⟩

theorem BodyLength.setFlagSource (p : Port) (h : Header) (source : BitVec 8) : BodyLength.Statement (.setFlagSource p h source) :=
  ⟨rfl, fun _ _ _ h => by simp [Instr.message] at h; simp [← h.2.2, Instr.bodyBytes]⟩

theorem BodyLength.post (p : Port) (h : Header) : BodyLength.Statement (.post p h) :=
  ⟨rfl, fun _ _ _ h => by simp [Instr.message] at h; simp [← h.2.2, Instr.bodyBytes]⟩

theorem BodyLength.wait (p : Port) (h : Header) (mode : BitVec 8) (timeout : BitVec 32) : BodyLength.Statement (.wait p h mode timeout) :=
  ⟨rfl, fun _ _ _ h => by simp [Instr.message] at h; simp [← h.2.2, Instr.bodyBytes]⟩

theorem BodyLength.clearFlag (p : Port) (h : Header) : BodyLength.Statement (.clearFlag p h) :=
  ⟨rfl, fun _ _ _ h => by simp [Instr.message] at h; simp [← h.2.2, Instr.bodyBytes]⟩

theorem BodyLength.readIndex (p : Port) (h : Header) (first : BitVec 64) (count : BitVec 8) : BodyLength.Statement (.readIndex p h first count) :=
  ⟨rfl, fun _ _ _ h => by simp [Instr.message] at h; simp [← h.2.2, Instr.bodyBytes]⟩

theorem BodyLength.readStatus (p : Port) (h : Header) : BodyLength.Statement (.readStatus p h) :=
  ⟨rfl, fun _ _ _ h => by simp [Instr.message] at h; simp [← h.2.2, Instr.bodyBytes]⟩

theorem BodyLength.readCounts (p : Port) (h : Header) : BodyLength.Statement (.readCounts p h) :=
  ⟨rfl, fun _ _ _ h => by simp [Instr.message] at h; simp [← h.2.2, Instr.bodyBytes]⟩

theorem BodyLength.setNoticeMask (p : Port) (h : Header) (kinds : BitVec 16) : BodyLength.Statement (.setNoticeMask p h kinds) :=
  ⟨rfl, fun _ _ _ h => by simp [Instr.message] at h; simp [← h.2.2, Instr.bodyBytes]⟩

theorem BodyLength.clearNotice (p : Port) (h : Header) (kinds : BitVec 16) : BodyLength.Statement (.clearNotice p h kinds) :=
  ⟨rfl, fun _ _ _ h => by simp [Instr.message] at h; simp [← h.2.2, Instr.bodyBytes]⟩

theorem BodyLength.forceNotice (p : Port) (h : Header) (kinds : BitVec 16) : BodyLength.Statement (.forceNotice p h kinds) :=
  ⟨rfl, fun _ _ _ h => by simp [Instr.message] at h; simp [← h.2.2, Instr.bodyBytes]⟩

theorem BodyLength.resetPort (p : Port) (h : Header) : BodyLength.Statement (.resetPort p h) :=
  ⟨rfl, fun _ _ _ h => by simp [Instr.message] at h; simp [← h.2.2, Instr.bodyBytes]⟩

theorem BodyLength.unsupportedKind (p : Port) (kind : BitVec 8) (h : Header) : BodyLength.Statement (.unsupportedKind p kind h) :=
  ⟨rfl, fun _ _ _ h => by simp [Instr.message] at h; simp [← h.2.2, Instr.bodyBytes]⟩

theorem BodyLength.portLinkDown (p : Port) (cameUp : Bool) : BodyLength.Statement (.portLinkDown p cameUp) :=
  ⟨rfl, fun _ _ _ h => by simp [Instr.message] at h⟩

theorem BodyLength.frameArrival (bytes : List Byte) : BodyLength.Statement (.frameArrival bytes) :=
  ⟨rfl, fun _ _ _ h => by simp [Instr.message] at h⟩

theorem BodyLength.resyncMarker : BodyLength.Statement (.resyncMarker) :=
  ⟨rfl, fun _ _ _ h => by simp [Instr.message] at h⟩

theorem BodyLength.linkLockLoss (relocked : Bool) : BodyLength.Statement (.linkLockLoss relocked) :=
  ⟨rfl, fun _ _ _ h => by simp [Instr.message] at h⟩

theorem BodyLength.haltAssertion : BodyLength.Statement (.haltAssertion) :=
  ⟨rfl, fun _ _ _ h => by simp [Instr.message] at h⟩

theorem BodyLength.haltRelease : BodyLength.Statement (.haltRelease) :=
  ⟨rfl, fun _ _ _ h => by simp [Instr.message] at h⟩

theorem BodyLength.deviceReset (levels : ResetLevels) : BodyLength.Statement (.deviceReset levels) :=
  ⟨rfl, fun _ _ _ h => by simp [Instr.message] at h⟩

theorem BodyLength.idleFlushExpiry : BodyLength.Statement (.idleFlushExpiry) :=
  ⟨rfl, fun _ _ _ h => by simp [Instr.message] at h⟩

theorem BodyLength.waitTimeout (flag : Fin 8) (p : Port) (tag : Byte) : BodyLength.Statement (.waitTimeout flag p tag) :=
  ⟨rfl, fun _ _ _ h => by simp [Instr.message] at h⟩

theorem BodyLength.groupSettle (group : Fin 16) : BodyLength.Statement (.groupSettle group) :=
  ⟨rfl, fun _ _ _ h => by simp [Instr.message] at h⟩

theorem BodyLength.admissionGrant : BodyLength.Statement (.admissionGrant) :=
  ⟨rfl, fun _ _ _ h => by simp [Instr.message] at h⟩

theorem BodyLength.fetchGrant : BodyLength.Statement (.fetchGrant) :=
  ⟨rfl, fun _ _ _ h => by simp [Instr.message] at h⟩

theorem BodyLength.readGrant : BodyLength.Statement (.readGrant) :=
  ⟨rfl, fun _ _ _ h => by simp [Instr.message] at h⟩

theorem BodyLength.haltMarkerWorked : BodyLength.Statement (.haltMarkerWorked) :=
  ⟨rfl, fun _ _ _ h => by simp [Instr.message] at h⟩

theorem BodyLength.resyncMarkerWorked : BodyLength.Statement (.resyncMarkerWorked) :=
  ⟨rfl, fun _ _ _ h => by simp [Instr.message] at h⟩

theorem BodyLength.admissionWriteCompletion : BodyLength.Statement (.admissionWriteCompletion) :=
  ⟨rfl, fun _ _ _ h => by simp [Instr.message] at h⟩

theorem BodyLength.fetchCompletion (units : List UnitResult) : BodyLength.Statement (.fetchCompletion units) :=
  ⟨rfl, fun _ _ _ h => by simp [Instr.message] at h⟩

theorem BodyLength.readCompletion (units : List UnitResult) : BodyLength.Statement (.readCompletion units) :=
  ⟨rfl, fun _ _ _ h => by simp [Instr.message] at h⟩

end Sys2Proof.Laws
end

