-- ==== Sys2Proof/Laws/Requests.lean ====
section
/-!
SUPPORT. What happens to a request at its port, said once: the tests it meets, the state its owning block meets it in, and the state once it has
been answered. Statements about a request cite these and unfold none of the port's operations.
-/
namespace Sys2Proof.Machine

variable {s : State} {p : Port} {h : Header} {k : RequestKind} {n : Nat} {act : State → State}

/-! ## The state the owning block meets a request in -/

@[simp] theorem State.opened_ring (s : State) (p : Port) (h : Header) (k : RequestKind) :
    (s.opened p h k).ring = s.ring := by
  cases p <;> rfl

@[simp] theorem State.opened_link (s : State) (p : Port) (h : Header) (k : RequestKind) :
    (s.opened p h k).link = s.link := by
  cases p <;> rfl

@[simp] theorem State.opened_assembler (s : State) (p : Port) (h : Header) (k : RequestKind) :
    (s.opened p h k).assembler = s.assembler := by
  cases p <;> rfl

@[simp] theorem State.opened_index (s : State) (p : Port) (h : Header) (k : RequestKind) :
    (s.opened p h k).index = s.index := by
  cases p <;> rfl

@[simp] theorem State.opened_control (s : State) (p : Port) (h : Header) (k : RequestKind) :
    (s.opened p h k).control = s.control := by
  cases p <;> rfl

@[simp] theorem State.opened_drain (s : State) (p : Port) (h : Header) (k : RequestKind) :
    (s.opened p h k).drain = s.drain := by
  cases p <;> rfl

@[simp] theorem State.opened_pins (s : State) (p : Port) (h : Header) (k : RequestKind) :
    (s.opened p h k).pins = s.pins := by
  cases p <;> rfl

@[simp] theorem State.opened_store (s : State) (p : Port) (h : Header) (k : RequestKind) :
    (s.opened p h k).store = s.store := by
  cases p <;> rfl

@[simp] theorem State.opened_power (s : State) (p : Port) (h : Header) (k : RequestKind) :
    (s.opened p h k).power = s.power := by
  cases p <;> rfl

@[simp] theorem State.opened_flags (s : State) (p : Port) (h : Header) (k : RequestKind) :
    (s.opened p h k).flags = s.flags := by
  cases p <;> rfl

@[simp] theorem State.opened_pending (s : State) (p : Port) (h : Header) (k : RequestKind) :
    (s.opened p h k).pending = s.pending := by
  cases p <;> rfl

@[simp] theorem State.opened_sent (s : State) (p : Port) (h : Header) (k : RequestKind) : (s.opened p h k).sent = [] := by
  cases p <;> rfl

@[simp] theorem State.opened_mapControl (s : State) (p : Port) (h : Header) (k : RequestKind) (f : Control → Control) :
    (s.opened p h k).mapControl f = (s.mapControl f).opened p h k := by
  cases p <;> rfl

@[simp] theorem State.opened_mapAssembler (s : State) (p : Port) (h : Header) (k : RequestKind) (f : Assembler → Assembler) :
    (s.opened p h k).mapAssembler f = (s.mapAssembler f).opened p h k := by
  cases p <;> rfl

@[simp] theorem State.opened_mapLink (s : State) (p : Port) (h : Header) (k : RequestKind) (f : Link → Link) :
    (s.opened p h k).mapLink f = (s.mapLink f).opened p h k := by
  cases p <;> rfl

@[simp] theorem State.opened_mapStore (s : State) (p : Port) (h : Header) (k : RequestKind) (f : Store → Store) :
    (s.opened p h k).mapStore f = (s.mapStore f).opened p h k := by
  cases p <;> rfl

@[simp] theorem State.opened_mapRing (s : State) (p : Port) (h : Header) (k : RequestKind) (f : Ring → Ring) :
    (s.opened p h k).mapRing f = (s.mapRing f).opened p h k := by
  cases p <;> rfl

@[simp] theorem State.opened_mapDrain (s : State) (p : Port) (h : Header) (k : RequestKind) (f : Drain → Drain) :
    (s.opened p h k).mapDrain f = (s.mapDrain f).opened p h k := by
  cases p <;> rfl

@[simp] theorem State.opened_mapOpen (s : State) (p : Port) (h : Header) (k : RequestKind) (f : Entry → Entry) :
    (s.opened p h k).mapOpen f = (s.mapOpen f).opened p h k := by
  cases p <;> rfl

@[simp] theorem State.opened_count (s : State) (p : Port) (h : Header) (k : RequestKind) (f : StreamCounts → StreamCounts) :
    (s.opened p h k).count f = (s.count f).opened p h k := by
  cases p <;> rfl

@[simp] theorem State.opened_mapBlock (s : State) (p : Port) (h : Header) (k : RequestKind) (n : Nat) (f : Block → Block) :
    (s.opened p h k).mapBlock n f = (s.mapBlock n f).opened p h k := by
  cases p <;> rfl

@[simp] theorem State.opened_mapEntry (s : State) (p : Port) (h : Header) (k : RequestKind) (n : Nat) (f : Entry → Entry) :
    (s.opened p h k).mapEntry n f = (s.mapEntry n f).opened p h k := by
  cases p <;> rfl

@[simp] theorem State.opened_putFlag (s : State) (p : Port) (h : Header) (k : RequestKind) (i : Fin 8) (x : SyncFlag) :
    (s.opened p h k).putFlag i x = (s.putFlag i x).opened p h k := by
  cases p <;> rfl

@[simp] theorem State.opened_putPin (s : State) (p : Port) (h : Header) (k : RequestKind) (i : Fin 8) (r : Option PinRange) :
    (s.opened p h k).putPin i r = (s.putPin i r).opened p h k := by
  cases p <;> rfl

@[simp] theorem State.opened_putGroup (s : State) (p : Port) (h : Header) (k : RequestKind) (g : Fin 16) (r : Group) :
    (s.opened p h k).putGroup g r = (s.putGroup g r).opened p h k := by
  cases p <;> rfl

@[simp] theorem State.opened_putContext (s : State) (p : Port) (h : Header) (k : RequestKind) (c : Fin 4) (w : Option Window) :
    (s.opened p h k).putContext c w = (s.putContext c w).opened p h k := by
  cases p <;> rfl

@[simp] theorem State.opened_claimBlock (s : State) (p : Port) (h : Header) (k : RequestKind) (n : Nat) (c : Fin 4) :
    (s.opened p h k).claimBlock n c = (s.claimBlock n c).opened p h k := by
  cases p <;> rfl

@[simp] theorem State.opened_openEntry (s : State) (p : Port) (h : Header) (k : RequestKind) :
    (s.opened p h k).openEntry = s.openEntry := by
  cases p <;> rfl

@[simp] theorem State.opened_fillingBlock (s : State) (p : Port) (h : Header) (k : RequestKind) :
    (s.opened p h k).fillingBlock = s.fillingBlock := by
  cases p <;> rfl

@[simp] theorem State.opened_occupancy (s : State) (p : Port) (h : Header) (k : RequestKind) :
    (s.opened p h k).occupancy = s.occupancy := by
  cases p <;> rfl

@[simp] theorem State.opened_archiveFront (s : State) (p : Port) (h : Header) (k : RequestKind) :
    (s.opened p h k).archiveFront = s.archiveFront := by
  cases p <;> rfl

@[simp] theorem State.opened_holdFloor (s : State) (p : Port) (h : Header) (k : RequestKind) :
    (s.opened p h k).holdFloor = s.holdFloor := by
  cases p <;> rfl

@[simp] theorem State.opened_headroom (s : State) (p : Port) (h : Header) (k : RequestKind) :
    (s.opened p h k).headroom = s.headroom := by
  cases p <;> rfl

@[simp] theorem State.opened_capacity (s : State) (p : Port) (h : Header) (k : RequestKind) :
    (s.opened p h k).capacity = s.capacity := by
  cases p <;> rfl

@[simp] theorem State.opened_mapActive (s : State) (p : Port) (h : Header) (k : RequestKind) :
    (s.opened p h k).mapActive = s.mapActive := by
  cases p <;> rfl

@[simp] theorem State.opened_reformBlocked (s : State) (p : Port) (h : Header) (k : RequestKind) :
    (s.opened p h k).reformBlocked = s.reformBlocked := by
  cases p <;> rfl

@[simp] theorem State.opened_anyChanging (s : State) (p : Port) (h : Header) (k : RequestKind) :
    (s.opened p h k).anyChanging = s.anyChanging := by
  cases p <;> rfl

@[simp] theorem State.opened_wanting (s : State) (p : Port) (h : Header) (k : RequestKind) :
    (s.opened p h k).wanting = s.wanting := by
  cases p <;> rfl

@[simp] theorem State.opened_refusedGroup (s : State) (p : Port) (h : Header) (k : RequestKind) :
    (s.opened p h k).refusedGroup = s.refusedGroup := by
  cases p <;> rfl

@[simp] theorem State.opened_freePin (s : State) (p : Port) (h : Header) (k : RequestKind) :
    (s.opened p h k).freePin = s.freePin := by
  cases p <;> rfl

@[simp] theorem State.opened_findBlock (s : State) (p : Port) (h : Header) (k : RequestKind) (n : Nat) :
    (s.opened p h k).findBlock n = s.findBlock n := by
  cases p <;> rfl

@[simp] theorem State.opened_findEntry (s : State) (p : Port) (h : Header) (k : RequestKind) (n : Nat) :
    (s.opened p h k).findEntry n = s.findEntry n := by
  cases p <;> rfl

@[simp] theorem State.opened_claims (s : State) (p : Port) (h : Header) (k : RequestKind) (c : Fin 4) :
    (s.opened p h k).claims c = s.claims c := by
  cases p <;> rfl

@[simp] theorem State.opened_blockActive (s : State) (p : Port) (h : Header) (k : RequestKind) (n : Nat) :
    (s.opened p h k).blockActive n = s.blockActive n := by
  cases p <;> rfl

@[simp] theorem State.opened_groupActive (s : State) (p : Port) (h : Header) (k : RequestKind) (g : Fin 16) :
    (s.opened p h k).groupActive g = s.groupActive g := by
  cases p <;> rfl

@[simp] theorem State.opened_chosenBlock (s : State) (p : Port) (h : Header) (k : RequestKind) (w : Window) :
    (s.opened p h k).chosenBlock w = s.chosenBlock w := by
  cases p <;> rfl

@[simp] theorem State.opened_parkedTakeOf (s : State) (p : Port) (h : Header) (k : RequestKind) (c : Fin 4) :
    (s.opened p h k).parkedTakeOf c = s.parkedTakeOf c := by
  cases p <;> rfl

@[simp] theorem State.opened_claimRecord (s : State) (p : Port) (h : Header) (k : RequestKind) (b : Block) :
    (s.opened p h k).claimRecord b = s.claimRecord b := by
  cases p <;> rfl

@[simp] theorem State.opened_claimedBlock (s : State) (p : Port) (h : Header) (k : RequestKind) (c : Fin 4) (n : Nat) :
    (s.opened p h k).claimedBlock c n = s.claimedBlock c n := by
  cases p <;> rfl

@[simp] theorem State.opened_contextOpen (s : State) (p : Port) (h : Header) (k : RequestKind) (c : Fin 4) :
    (s.opened p h k).contextOpen c = s.contextOpen c := by
  cases p <;> rfl

@[simp] theorem State.opened_pinRange (s : State) (p : Port) (h : Header) (k : RequestKind) (a b : Nat) :
    (s.opened p h k).pinRange a b = s.pinRange a b := by
  cases p <;> rfl

@[simp] theorem State.opened_indexAnswer (s : State) (p : Port) (h : Header) (k : RequestKind) (a b : Nat) :
    (s.opened p h k).indexAnswer a b = s.indexAnswer a b := by
  cases p <;> rfl

@[simp] theorem State.opened_ringSlot (s : State) (p : Port) (h : Header) (k : RequestKind) (g : Fin 16) :
    (s.opened p h k).ringSlot g = s.ringSlot g := by
  cases p <;> rfl

@[simp] theorem State.opened_takerOf (s : State) (p : Port) (h : Header) (k : RequestKind) (n : Nat) :
    (s.opened p h k).takerOf n = s.takerOf n := by
  cases p <;> rfl

@[simp] theorem State.opened_servedBySet (s : State) (p : Port) (h : Header) (k : RequestKind) (i : Fin 8) :
    (s.opened p h k).servedBySet i = s.servedBySet i := by
  cases p <;> rfl

/-! ## The tests of the port (R195) -/

theorem State.request_taken (ht : Taken s p h n) : s.request p k h n act = (act (s.opened p h k)).endAct := by
  obtain ⟨h1, h2, h3, h4⟩ := ht
  have h5 : ¬ 16 ≤ (s.port p).slots.length := Nat.not_le.mpr h3
  have h6 : ((s.port p).slots.any fun x => decide (x.tag = h.tag)) = false := by
    simpa using h4
  have hp : ((s.arrive p).port p).slots = (s.port p).slots := by cases p <;> rfl
  simp only [State.request, hp, h1, h2, h5, h6, State.opened, ne_eq, not_true_eq_false, if_false, Bool.false_eq_true]

theorem State.reject_arrive (s : State) (p : Port) (tag : Byte) (kind : BitVec 8) (status : Status) :
    ((s.arrive p).reject p tag kind status).endAct = s.respond p tag kind status .none := by
  cases p <;> rfl

/-- The request's slot is freed by its answer, and no other slot with it, because no other has its tag. -/
theorem slots_after_answer {l : List Slot} {x : Slot} (h : ∀ y ∈ l, y.tag ≠ x.tag) :
    (l ++ [x]).filter (fun y => y.tag ≠ x.tag) = l := by
  rw [List.filter_append, List.filter_eq_self.mpr (by simpa using h)]
  simp

/-- An answer given in the act of the request's arrival leaves the state of `State.answered`. -/
theorem State.opened_answer {status : Status} {result : Result} (h4 : ∀ x ∈ (s.port p).slots, x.tag ≠ h.tag) :
    ((s.opened p h k).answer p h.tag k status result).endAct = s.answered p h k status result := by
  have hs := slots_after_answer (x := { tag := h.tag, kind := k, progress := .answering }) h4
  cases p <;>
    simp only [State.opened, State.arrive, State.occupy, State.answer, State.answerWith, State.freeSlot, State.mapPort,
      State.beginAct, State.send, State.endAct, State.answered, State.respond, State.port, List.nil_append,
      List.map_cons, List.map_nil] at hs ⊢ <;>
    rw [hs]

/-- A request taken and answered at once by an act that reaches no port leaves the state its act leaves, answered. -/
theorem State.request_answer {u : State} {status : Status} {result : Result} (ht : Taken s p h n)
    (hu : ∀ x ∈ (u.port p).slots, x.tag ≠ h.tag)
    (ha : act (s.opened p h k) = (u.opened p h k).answer p h.tag k status result) :
    s.request p k h n act = u.answered p h k status result := by
  rw [State.request_taken ht, ha, State.opened_answer hu]

/-- A request taken and refused changes nothing. -/
theorem State.request_refuse {status : Status} (ht : Taken s p h n)
    (ha : act (s.opened p h k) = (s.opened p h k).refuse p h.tag k status) :
    s.request p k h n act = s.refused p h k status := by
  rw [State.request_taken ht, ha]
  exact State.opened_answer ht.2.2.2

theorem State.request_misframed (hf : h.bodyLength.toNat ≠ h.received) :
    s.request p k h n act = s.respond p h.tag k.code .badParam .none := by
  rw [State.request, if_pos hf]
  exact State.reject_arrive s p h.tag k.code .badParam

theorem State.request_busy (hf : h.bodyLength.toNat = h.received) (hs : 16 ≤ (s.port p).slots.length) :
    s.request p k h n act = s.respond p h.tag k.code .busy .none := by
  have hp : ((s.arrive p).port p).slots = (s.port p).slots := by cases p <;> rfl
  rw [State.request, if_neg (by simp [hf]), hp, if_pos hs]
  exact State.reject_arrive s p h.tag k.code .busy

theorem State.request_duplicate (hf : h.bodyLength.toNat = h.received) (hs : (s.port p).slots.length < 16)
    (hd : ∃ x ∈ (s.port p).slots, x.tag = h.tag) :
    s.request p k h n act = s.respond p h.tag k.code .duplicateTag .none := by
  have hp : ((s.arrive p).port p).slots = (s.port p).slots := by cases p <;> rfl
  have hd' : ((s.port p).slots.any fun x => decide (x.tag = h.tag)) = true := by simpa using hd
  rw [State.request, if_neg (by simp [hf]), hp, if_neg (Nat.not_le.mpr hs), hd', if_pos rfl]
  exact State.reject_arrive s p h.tag k.code .duplicateTag

theorem State.request_wrong_length (hf : h.bodyLength.toNat = h.received) (hs : (s.port p).slots.length < 16)
    (hd : ∀ x ∈ (s.port p).slots, x.tag ≠ h.tag) (hn : h.received ≠ n) :
    s.request p k h n act = s.refused p h k .badParam := by
  have hp : ((s.arrive p).port p).slots = (s.port p).slots := by cases p <;> rfl
  have hd' : ((s.port p).slots.any fun x => decide (x.tag = h.tag)) = false := by simpa using hd
  rw [State.request, if_neg (by simp [hf]), hp, if_neg (Nat.not_le.mpr hs), hd', if_neg (by simp), if_pos hn]
  exact State.opened_answer hd

end Sys2Proof.Machine
end

