-- ==== Sys2Proof/Tests/Slice0.lean ====
section
/-!
SUPPORT. The model's own tests: the smoke test of well-formedness, values the spec works out or a hand calculation from its tables gives, and for
each statement with hypotheses a state and operands that meet them.
-/
namespace Sys2Proof.Tests
open Sys2Proof.Machine

-- One theorem at a time: each evaluation in the kernel waits for the ones before it, and a thread that waits is a thread too many.
set_option Elab.async false

/-! ## Small states -/

/-- A header whose body length is as it says. -/
def hdr (target n : Nat) : Header where
  tag := 7
  target := BitVec.ofNat 8 target
  bodyLength := BitVec.ofNat 32 n
  received := n

/-- Group 0 Active and the ring formed on it, empty: capture is Idle. -/
def formed : State :=
  { State.reset with
    power := { groups := State.reset.power.groups.set 0 { state := .settled .active, next := .active }, groupMap := [0] }
    control := { State.reset.control with capture := .idle } }

/-- Capture runs, nothing captured. -/
def running : State :=
  { formed with
    control := { formed.control with capture := .running }
    link := { formed.link with captureEnable := true } }

/-- Segment 0, open on block 0: bpp 4 and D 2, first tick 1,000,000, 40,960 points. -/
def segment0 : Entry where
  number := 0
  closeReason := none
  firstLbn := 0
  blockCount := 1
  presentFrom := 0
  byteLength := 163840
  bpp := 4
  tickStep := 2
  archiveRequired := true
  firstTick := 1000000
  trigger := none
  triggerCount := 0
  triggerIgnored := 0
  gaps := []
  gapOverflow := false
  totalLost := 0
  evictedUnarchived := 0
  startLost := false
  noStamp := false
  stampConflict := false
  frontEvicted := false
  archivedWithLoss := false
  damaged := false

/-- Block 0 of segment 0 in a state. -/
def block0 (st : BlockState) : Block where
  lbn := 0
  state := st
  fillBytes := 163840
  segment := 0
  archiveRequired := true
  pinCount := 0
  readsInFlight := 0
  damaged := false

/-- Capture runs with segment 0 open and block 0, its only block, in a state. -/
def holding (st : BlockState) : State :=
  { running with
    ring := { running.ring with head := 1, blocks := [block0 st] }
    index := [segment0]
    assembler := { running.assembler with nextSegment := 1, idleFlush := some 10 } }

/-- Capture runs and block 0 fills. -/
def filling : State := holding .filling

/-- Capture is Stopped with block 0 held in a state and segment 0 closed. -/
def stopped (st : BlockState) : State :=
  { holding st with
    index := [{ segment0 with closeReason := some .stop }]
    assembler := { running.assembler with nextSegment := 1 }
    link := formed.link
    control := { running.control with capture := .stopped, stopReason := .stop } }

/-- Stopping for a Stop(AtSegmentEnd), block 0 filling. -/
def stopping : State :=
  { filling with control := { filling.control with capture := .stopping, stoppingReason := some .stop } }

/-- A frame of 64 payload bytes without flags or stamp. -/
def frame : Frame where
  sequence := 0
  startFlag := false
  triggerFlag := false
  endFlag := false
  triggerOffset := 0
  triggerKind := 0
  stamp := none
  payload := List.replicate 64 0

/-- The state with an item at the front of intake, and with the admission request it makes. -/
def withFront (s : State) (x : IntakeItem) : State :=
  { s with link := { s.link with intake := [x] }, store := { s.store with admission := x.isFrame } }

/-- The state with drain context 0 Open on an unbounded window from 0. -/
def withContext (s : State) : State :=
  { s with drain := { s.drain with contexts := s.drain.contexts.set 0 (some { first := 0, length := 0 }) } }

/-- The state with pin 0 Live on block 0. -/
def withPin (s : State) : State :=
  { s with
    pins := s.pins.set 0 (some { first := 0, rangeEnd := 1 })
    ring := { s.ring with blocks := s.ring.blocks.map fun b => { b with pinCount := 1 } } }

/-- The state with operations in flight. -/
def withFlight (s : State) (es : List InFlight) : State :=
  { s with store := { s.store with inFlight := es } }

/-- The state with a flag replaced. -/
def withFlag (s : State) (i : Fin 8) (f : SyncFlag) : State :=
  { s with flags := s.flags.set i f }

/-- The state with a group replaced. -/
def withGroup (s : State) (g : Fin 16) (x : Group) : State :=
  { s with power := { s.power with groups := s.power.groups.set g x } }

/-- A Fetch of the first 64 bytes of block 0. -/
def fetch0 : FetchRequest where
  tag := 3
  lbn := 0
  offset := 0
  length := 64
  clamped := false

/-- A Read of the first 64 bytes of block 0 under pin 0. -/
def read0 : ReadRequest where
  tag := 4
  pin := 0
  lbn := 0
  offset := 0
  length := 64

/-- The Fetch in flight. -/
def fetchInFlight : InFlight where
  op := .archiveRead fetch0
  lbn := 0
  group := 0
  address := 0
  length := 64
  requester := .request .archive 3

/-- The Read in flight. -/
def readInFlight : InFlight where
  op := .viewerRead read0 163840 true
  lbn := 0
  group := 0
  address := 0
  length := 64
  requester := .request .viewer 4

/-- An admission write in flight. -/
def writeInFlight : InFlight where
  op := .admissionWrite frame.payload
  lbn := 0
  group := 0
  address := 0
  length := 64
  requester := .absent

/-- The Fetch and the Read queued, in a band and with a Turn. -/
def queued (band : Band) (turn : ReadClass) : State :=
  { filling with
    ring := { filling.ring with band := band }
    store := { filling.store with archiveQueue := [fetch0], viewerQueue := [read0], turn := turn } }

/-- A parked wait. -/
def parked (p : Port) (tag : Byte) (mode : WaitMode) (timeLeft : Option Nat) : ParkedWait where
  port := p
  tag := tag
  mode := mode
  timeout := timeLeft.getD 0
  timeLeft := timeLeft

/-- The state after a command. -/
def after (c : Instr) (s : State) : State :=
  match exec c s with
  | .next t => t
  | .fault _ => s
  | .refused _ => s

/-! ## Well-formedness refuses (one ill-formed command for each check) -/

theorem test_refuses_body_length_not_received :
    (Instr.start { tag := 0, target := 0, bodyLength := 1, received := 0 }).wellFormed = false := by decide
theorem test_refuses_body_of_wrong_length : (Instr.start (hdr 0 1)).wellFormed = false := by decide
theorem test_refuses_stop_now_mode_in_other_row : (Instr.stopAtSegmentEnd (hdr 0 1) 1).wellFormed = false := by decide
theorem test_refuses_segment_end_mode_in_now_row : (Instr.stopNow (hdr 0 1) 0).wellFormed = false := by decide
theorem test_refuses_supported_kind_as_unsupported : (Instr.unsupportedKind .viewer 1 (hdr 0 0)).wellFormed = false := by
  decide
theorem test_refuses_units_beyond_a_fetch : (Instr.fetchCompletion (List.replicate 1025 .clean)).wellFormed = false := by
  decide +kernel
theorem test_refuses_units_beyond_a_read : (Instr.readCompletion (List.replicate 1025 .clean)).wellFormed = false := by
  decide +kernel
theorem test_accepts_a_start : (Instr.start (hdr 0 0)).wellFormed = true := by decide

/-! ## The wire -/

/-- The published check value of this check for the nine digits 1 to 9 (the spec's parameters, R204, are those of CRC-32C's polynomial). -/
theorem test_link_check_of_nine_digits : linkCheck [0x31, 0x32, 0x33, 0x34, 0x35, 0x36, 0x37, 0x38, 0x39] = 0xE3069283 := by
  decide +kernel

/-- Kinds, Targets and fields from the tables of R198 and R203, written out byte by byte. -/
theorem test_message_stop_now :
    decodeMessage .viewer [7, 2, 0, 0, 1, 0, 0, 0, 1] = some (.stopNow (hdr 0 1) 1) := by decide +kernel
theorem test_message_pin :
    decodeMessage .viewer [7, 8, 0, 0, 12, 0, 0, 0, 0x34, 0x12, 0, 0, 0, 0, 0, 0, 0x10, 0, 0, 0]
      = some (.pin (hdr 0 12) 0x1234 16) := by decide +kernel
theorem test_message_set_group_next :
    decodeMessage .viewer [7, 11, 6, 0, 1, 0, 0, 0, 2] = some (.setGroupNext (hdr 6 1) 2) := by decide +kernel
theorem test_message_set_group_map :
    decodeMessage .viewer [7, 13, 0, 0, 3, 0, 0, 0, 2, 5, 9] = some (.setGroupMap (hdr 0 3) 2 [5, 9]) := by decide +kernel
theorem test_message_fetch :
    decodeMessage .archive [7, 35, 3, 0, 16, 0, 0, 0, 5, 0, 0, 0, 0, 0, 0, 0, 0x40, 0, 0, 0, 0, 0, 1, 0]
      = some (.fetch (hdr 3 16) 5 64 65536) := by decide +kernel
theorem test_message_wait :
    decodeMessage .archive [7, 66, 5, 0, 5, 0, 0, 0, 1, 40, 0, 0, 0] = some (.wait .archive (hdr 5 5) 1 40) := by decide +kernel
theorem test_message_start_at_the_archive_port :
    decodeMessage .archive [7, 1, 0, 0, 0, 0, 0, 0] = some (.unsupportedKind .archive 1 (hdr 0 0)) := by decide +kernel

/-! ## The spec's worked cases -/

/-- Chapter 1, position and address: span 2 on groups 5 and 9. -/
theorem test_store_addresses :
    let s := { formed with power := { formed.power with groupMap := [5, 9] } }
    s.storeAddress 10500 0 = 22565355520 ∧ s.storeAddress 11800 0 = 40902852608 ∧ s.storeAddress 11800 8192 = 40902860800
      ∧ s.storeAddress 12548 0 = 22565355520 := by decide +kernel

/-- Section 1.7: Headroom and band. -/
theorem test_band_moves :
    bandMove .pressed 148 512 128 32 = .pressed ∧ bandMove .pressed 248 512 128 32 = .pressed
      ∧ bandMove .pressed 648 512 128 32 = .relaxed ∧ bandMove .critical 89 256 64 16 = .pressed
      ∧ bandMove .pressed 289 256 64 16 = .relaxed ∧ bandMove .relaxed 139 256 64 16 = .pressed := by decide

/-- Section 2.7: a frame three beyond the one expected after 0 is two frames late, and one behind it is stale. -/
theorem test_sequence_gap_and_stale :
    let s := { running with link := { running.link with expected := some 1 } }
    s.gapBefore { frame with sequence := 3 } = some 2
      ∧ State.gapBefore { s with link := { s.link with expected := some 4 } } { frame with sequence := 2 } = none := by decide

/-- Section 2.7: frame 102 dropped at intake, then 105 with a gap of two. -/
theorem test_loss_records_merge :
    (let first := addLoss none .intake 0 8192
     (addGapLoss (some first) 2).map fun r => addLoss (some r) .intake 0 8192)
      = some { firstCause := .intake, missingFrames := 2, droppedBytes := 16384, parts := 3 } := by decide +kernel

/-- Section 3.8: the trigger at offset 1,002 of the third frame. -/
theorem test_trigger_position_and_tick :
    (segment0.recordTrigger { frame with triggerOffset := 1002, triggerKind := 3, payload := List.replicate 1024 0 } 4096).trigger
      = some { position := 4346, tick := 1008692, kind := 3 } := by decide +kernel

/-- Section 3.8: three missing frames at point 10,240, by stamp. -/
theorem test_losses_by_stamp :
    let e := { segment0 with byteLength := 40960 }
    let r : LossRecord := { firstCause := .sequence, missingFrames := 3, droppedBytes := 0, parts := 1 }
    e.lossOf r none = (6144, false) ∧ e.lossOf r (some 1030000) = (4760, false) ∧ e.lossOf r (some 1030001) = (4760, false)
      ∧ e.lossOf r (some 1018000) = (6144, true) := by decide +kernel

/-- Section 3.8: a carried record at point 40,960, and an overrun merged into its gap. -/
theorem test_carried_record_and_merge :
    let r : LossRecord := { firstCause := .intake, missingFrames := 2, droppedBytes := 16384, parts := 3 }
    segment0.lossOf r none = (8192, false) ∧ segment0.lossOf r (some 1100000) = (9040, false)
      ∧ segment0.lossOf r (some 1085000) = (8192, true)
      ∧ ((segment0.addGap 8192 .intake true).addGap 1024 .overrun false).gaps
          = [{ position := 40960, pointsLost := 9216, cause := .intake, mixed := true }] := by decide +kernel

/-- Section 3.8: the carried values of the slice boundaries, L 5,000. -/
theorem test_carried_values :
    carriedValue (-1144) 5000 = 3856 ∧ carriedValue (-240) 5000 = 4760 ∧ carriedValue (-1384) 5000 = 3616
      ∧ carriedValue (-12480) 5000 = 2520 := by decide

/-- Section 10.3: the seal serves the Peek wait and the first Consume wait. -/
theorem test_seal_serves_waits_in_order :
    let a10 := parked .archive 10 .peek none
    let v3 := parked .viewer 3 .consume (some 40)
    let a11 := parked .archive 11 .consume none
    let v4 := parked .viewer 4 .peek (some 20)
    serveWaits [a10, v3, a11, v4] = { served := [(a10, true), (v3, false)], kept := [a11, v4], value := false } := by decide

/-- Section 8.7: the archive request first in Pressed, held reads in Critical, Turn in Relaxed. -/
theorem test_read_choice_by_band :
    (queued .relaxed .archive).readChoice = some .archive ∧ (queued .relaxed .viewer).readChoice = some .viewer
      ∧ (queued .pressed .viewer).readChoice = some .archive ∧ (queued .critical .viewer).readChoice = some .archive
      ∧ State.readChoice { queued .critical .viewer with store := { filling.store with viewerQueue := [read0] } } = none := by
  decide

/-! ## One step each -/

/-- R91. -/
theorem test_start_runs : (after (.start (hdr 0 0)) formed).control.capture = .running := by decide +kernel
theorem test_start_unformed_refused :
    (after (.start (hdr 0 0)) State.reset).sent.map Response.status = [.wrongState] := by decide +kernel
/-- R53. -/
theorem test_flush_seals : (after (.flush (hdr 0 0)) filling).ring.blocks = [block0 .sealed] := by decide +kernel
/-- R42, R97. -/
theorem test_orderly_halt_queues_a_marker : (after .haltAssertion filling).link.intake = [.haltMarker none] := by decide +kernel
/-- R49: 64 more bytes at offset 163,840 of block 0. -/
theorem test_grant_appends :
    ((after .admissionGrant (withFront filling (.frame frame none))).store.inFlight.map InFlight.address) = [163840] := by
  decide +kernel
/-- Section 7.8: a pin of the oldest block holds it; its Unpin gives it back. -/
theorem test_pin_and_unpin :
    (after (.pin (hdr 0 12) 0 1) (stopped .archived)).ring.blocks.map Block.pinCount = [1]
      ∧ (after (.unpin (hdr 0 0)) (withPin (stopped .archived))).ring.blocks.map Block.pinCount = [0] := by decide +kernel
/-- Section 6.12: a Take of the oldest block, and its Confirm. -/
theorem test_take_claims :
    (after (.take (hdr 0 1) 0) (withContext (stopped .sealed))).ring.blocks = [block0 (.claimed 0)] := by decide +kernel
theorem test_confirm_archives :
    (after (.confirm (hdr 0 9) 0 0) (withContext (stopped (.claimed 0)))).ring.blocks = [block0 .archived] := by decide +kernel
/-- Section 9.7: ApplyGroups makes a recorded change Changing, Timing 2 ms. -/
theorem test_apply_groups_times_two_milliseconds :
    (after (.applyGroups (hdr 0 0)) (withGroup State.reset 2 { state := .settled .off, next := .active })).power.groups[2].state
      = .changing .off .active (.timing 2000) := by decide +kernel
/-- R124: a Fetch delivers a written byte as it stands in the store. -/
theorem test_fetch_delivers_written_bytes :
    let s := withFlight (withContext (stopped (.claimed 0))) [fetchInFlight]
    ((after (.fetchCompletion []) { s with store := { s.store with memory := [(0, 9)] } }).sent.flatMap fun r => r.data.take 1) = [9] := by
  decide +kernel
/-- R5, R160: the bytes of a completed write stand in the store. -/
theorem test_write_completion_stores :
    Memory.read (after .admissionWriteCompletion (withFlight filling [writeInFlight])).store.memory 63 = some 0 := by
  decide +kernel

/-! ## States and operands that meet the hypotheses of the statements

Each theorem shows, clause by clause, a state and operands that meet the hypotheses of the statement it is named after. -/

theorem witness_StepRunsTheFrontCommand :
    ({ filling with pending := [.resyncMarker, .haltRelease] } : State).pending = .resyncMarker :: [.haltRelease]
      ∧ filling.pending = [] := by decide +kernel

theorem witness_ResponsesCarryTheTopNotice :
    (after (.start (hdr 0 0)) formed).sent ≠ []
      ∧ ({ pending := 6, mask := 5, line := true } : NoticeUnit).top = some .overrunLoss
      ∧ ({ pending := 6, mask := 1, line := false } : NoticeUnit).top = none := by decide +kernel

/-- The slots of sixteen parked waits, with tags 0 to 15. -/
def fullSlots : List Slot :=
  (List.range 16).map fun n => { tag := BitVec.ofNat 8 n, kind := .wait, progress := .parked }

theorem witness_PortTestsRefuse :
    (let i := Instr.take { tag := 7, target := 0, bodyLength := 1, received := 0 } 0
     i.inRow = true ∧ i.message = some (.archive, 34, [0]) ∧ Port.supportsCode .archive 34 = true
       ∧ (34 : BitVec 8) ≠ RequestKind.code .resetPort ∧ (1 : BitVec 32).toNat ≠ 0)
      ∧ (16 ≤ fullSlots.length ∧ ∃ x ∈ fullSlots.take 15, x.tag = (hdr 0 1).tag)
      ∧ ((fullSlots.take 7).length < 16 ∧ (∀ x ∈ fullSlots.take 7, x.tag ≠ (hdr 0 2).tag)
          ∧ (hdr 0 2).received ≠ (Instr.take (hdr 0 2) 0).bodyBytes)
      ∧ Port.supportsCode .viewer 15 = false ∧ Port.supportsCode .archive 75 = false
      ∧ (hdr 0 1).received ≠ 0 := by decide +kernel

theorem witness_ArchivePortReset : (hdr 0 0).bodyLength.toNat = (hdr 0 0).received ∧ (hdr 0 0).received = 0 := by decide

theorem witness_ViewerPortReset :
    (hdr 0 0).bodyLength.toNat = (hdr 0 0).received ∧ (hdr 0 0).received = 0
      ∧ RingForm (withPin (stopped .archived)) ∧ PinForm (withPin (stopped .archived)) := by
  unfold RingForm PinForm; decide +kernel

theorem witness_LinkLossIsAPortReset :
    (filling.port .viewer).linkUp = true ∧ (hdr 0 0).bodyLength.toNat = (hdr 0 0).received ∧ (hdr 0 0).received = 0
      ∧ (({ filling with viewerPort := { filling.viewerPort with linkUp := false } } : State).port .viewer).linkUp = false := by
  decide +kernel

theorem witness_MessagesDecodeToTheirRequests :
    (Instr.wait .archive (hdr 7 5) 255 0xFFFFFFFF).wellFormed = true
      ∧ encodeMessage (.wait .archive (hdr 7 5) 255 0xFFFFFFFF)
          = some (.archive, [7, 66, 7, 0, 5, 0, 0, 0, 255, 255, 255, 255, 255]) := by decide +kernel

theorem witness_FramesAndRecordsHaveTheirLayout :
    (1 ≤ (1 : Byte).toNat ∧ (128 : Byte).toNat ≤ 128 ∧ frame.payload.length = 64 * (1 : Byte).toNat)
      ∧ ∀ covered : List Byte, ∃ check : BitVec 32, check ≠ linkCheck covered := by
  exact ⟨by decide +kernel, fun covered => ⟨linkCheck covered + 1, by bv_omega⟩⟩

theorem bandForm_filling : BandForm filling := by
  unfold BandForm Band.agrees; decide +kernel

theorem witness_ReadsAnswerAndChangeNothing :
    (Taken filling .viewer (hdr 0 9) 9 ∧ 16 < (17 : BitVec 8).toNat ∧ (16 : BitVec 8).toNat ≤ 16
      ∧ running.index = [] ∧ segment0.number < (281474976710656 : BitVec 64).toNat
      ∧ filling.index.head? = some segment0 ∧ filling.index.getLast? = some segment0
      ∧ segment0.number < (1 : BitVec 64).toNat ∧ segment0.number ≤ (0 : BitVec 64).toNat
      ∧ (0 : BitVec 64).toNat < ({ segment0 with number := 1 } : Entry).number
      ∧ Taken filling .archive (hdr 0 0) 0 ∧ Taken filling .viewer (hdr 0 1) 1)
      ∧ (RingForm filling ∧ PinForm filling) ∧ BandForm filling := by
  unfold Taken RingForm PinForm
  exact ⟨by decide +kernel, by decide +kernel, bandForm_filling⟩

theorem witness_StartAnswers :
    Taken filling .viewer (hdr 0 0) 0 ∧ filling.capturing ∧ State.reset.control.capture = .unformed
      ∧ (formed.control.capture = .idle ∧ ∀ g ∈ formed.power.groupMap, formed.power.groups[g].state = .settled .active)
      ∧ ((withGroup formed 0 { state := .settled .retain, next := .retain }).control.capture = .idle
          ∧ ∃ g ∈ (withGroup formed 0 { state := .settled .retain, next := .retain }).power.groupMap,
              (withGroup formed 0 { state := .settled .retain, next := .retain }).power.groups[g].state
                ≠ .settled .active) := by
  unfold Taken State.capturing; decide +kernel

theorem witness_StopEndsCapture :
    Taken filling .viewer (hdr 0 1) 1 ∧ (2 : BitVec 8) ≠ 0 ∧ (2 : BitVec 8) ≠ 1 ∧ ¬ (stopped .sealed).capturing
      ∧ (filling.control.capture = .running ∧ filling.openEntry.isSome = true) ∧ stopping.control.capture = .stopping
      ∧ (running.control.capture = .running ∧ running.openEntry = none) ∧ stopping.capturing ∧ RingForm stopping := by
  unfold Taken State.capturing RingForm; decide +kernel

/-- The profile fields at the upper ends of their ranges. -/
def widest : ProfileFields where
  sampleWidth := 2
  channelCount := 8
  tickStep := 65536
  archiveRequired := 1
  overrunPolicy := 2
  pressedThreshold := 16384
  criticalThreshold := 16383
  hysteresis := 255
  pauseOnCritical := 1
  sliceMode := 1
  sliceLength := 1099511627775
  idleFlushTime := 10000
  haltMode := 1

theorem witness_StageProfileValidates :
    (validateProfile widest).isSome = true ∧ Taken filling .viewer (hdr 0 32) 32
      ∧ validateProfile { widest with criticalThreshold := 16384 } = none := by
  unfold Taken; decide +kernel

theorem witness_StageProfileIsTaken :
    Taken filling .viewer (hdr 0 32) 32 ∧ (∃ q, validateProfile widest = some q) ∧ filling.capturing ∧ ¬ formed.capturing := by
  unfold Taken State.capturing
  exact ⟨by decide +kernel, ⟨_, rfl⟩, by decide +kernel, by decide +kernel⟩

theorem witness_MarkRequests :
    Taken filling .viewer (hdr 0 9) 9 ∧ 2 ^ 40 - 1 < (1099511627776 : BitVec 64).toNat
      ∧ (1099511627775 : BitVec 64).toNat ≤ 2 ^ 40 - 1 ∧ filling.ring.head < (2 : BitVec 64).toNat
      ∧ (1 : BitVec 64).toNat ≤ filling.ring.head ∧ (stopped .sealed).control.capture ≠ .running
      ∧ (filling.control.capture = .running ∧ filling.openEntry.isSome = true)
      ∧ (running.control.capture = .running ∧ running.openEntry = none ∧ (0 : BitVec 64).toNat ≤ running.ring.head)
      ∧ Taken filling .viewer (hdr 0 0) 0 ∧ Taken filling .archive (hdr 0 8) 8 ∧ filling.archiveFront < (1 : BitVec 64).toNat
      ∧ (0 : BitVec 64).toNat ≤ filling.archiveFront ∧ Taken filling .archive (hdr 0 0) 0 := by
  unfold Taken; decide +kernel

/-- The bytes of the frame of sequence number 0 and 64 zeros, without its Link Check. -/
def covered0 : List Byte :=
  [0, 0, 0, 1, 0, 0, 0, 0] ++ List.replicate 64 0

/-- The bytes of the frame of sequence number 0 and 64 zeros. -/
def bytes0 : List Byte :=
  covered0 ++ [101, 164, 148, 182]

theorem check_of_covered0 : linkCheck covered0 = 3063194725 := by
  have h : covered0
      = [0, 0, 0, 1, 0, 0, 0, 0]
          ++ ([0, 0, 0, 0, 0, 0, 0, 0] ++ ([0, 0, 0, 0, 0, 0, 0, 0] ++ ([0, 0, 0, 0, 0, 0, 0, 0] ++ ([0, 0, 0, 0, 0, 0, 0, 0]
          ++ ([0, 0, 0, 0, 0, 0, 0, 0] ++ ([0, 0, 0, 0, 0, 0, 0, 0] ++ ([0, 0, 0, 0, 0, 0, 0, 0] ++ [0, 0, 0, 0, 0, 0, 0, 0]))))))) := by
    decide +kernel
  have r1 : [0, 0, 0, 1, 0, 0, 0, 0].foldl linkCheckByte 0xFFFFFFFF#32 = 2604950482 := by decide +kernel
  have r2 : [0, 0, 0, 0, 0, 0, 0, 0].foldl linkCheckByte 2604950482 = 247118513 := by decide +kernel
  have r3 : [0, 0, 0, 0, 0, 0, 0, 0].foldl linkCheckByte 247118513 = 1064726638 := by decide +kernel
  have r4 : [0, 0, 0, 0, 0, 0, 0, 0].foldl linkCheckByte 1064726638 = 239119681 := by decide +kernel
  have r5 : [0, 0, 0, 0, 0, 0, 0, 0].foldl linkCheckByte 239119681 = 27042714 := by decide +kernel
  have r6 : [0, 0, 0, 0, 0, 0, 0, 0].foldl linkCheckByte 27042714 = 4018653085 := by decide +kernel
  have r7 : [0, 0, 0, 0, 0, 0, 0, 0].foldl linkCheckByte 4018653085 = 3496193476 := by decide +kernel
  have r8 : [0, 0, 0, 0, 0, 0, 0, 0].foldl linkCheckByte 3496193476 = 729511724 := by decide +kernel
  have r9 : [0, 0, 0, 0, 0, 0, 0, 0].foldl linkCheckByte 729511724 = 1507514002 := by decide +kernel
  rw [linkCheck, h]
  simp only [List.foldl_append, r1, r2, r3, r4, r5, r6, r7, r8, r9]
  decide +kernel

theorem parse_of_bytes0 : parseFrame bytes0 = some frame := by
  have h : linkCheck (bytes0.take 72) = BitVec.ofNat 32 (fieldAt bytes0 72 4) := by
    rw [show bytes0.take 72 = covered0 by decide +kernel, check_of_covered0]; decide +kernel
  rw [parseFrame]
  exact (if_pos ⟨by decide +kernel, by decide +kernel, by decide +kernel, h⟩).trans (by decide +kernel)

/-- Capture runs and the frame of a sequence number is expected. -/
def expecting (sequence : BitVec 16) : State :=
  { filling with link := { filling.link with expected := some sequence } }

theorem witness_BadAndStaleFramesAreDiscarded :
    parseFrame [] = none ∧ parseFrame bytes0 = some frame ∧ (expecting 32768).gapBefore frame = none :=
  ⟨by decide +kernel, parse_of_bytes0, by decide +kernel⟩

theorem witness_GoodFramesAreOfferedToIntake :
    parseFrame bytes0 = some frame ∧ filling.gapBefore frame = some 0 ∧ (expecting 32769).gapBefore frame = some 32767
      ∧ ¬ formed.capturing ∧ (filling.capturing ∧ filling.control.orderlyHalt = false ∧ filling.occupancy < 64)
      ∧ 64 ≤ ({ filling with link := { filling.link with intake := List.replicate 64 (.frame frame none) } } : State).occupancy := by
  unfold State.capturing
  exact ⟨parse_of_bytes0, by decide +kernel⟩

/-- A loss record of two parts: a gap of three frames after a dropped one of 512 bytes. -/
def loss1 : LossRecord where
  firstCause := .intake
  missingFrames := 3
  droppedBytes := 512
  parts := 2

theorem witness_LossesBecomeGaps :
    (18446744073709551614 + 1 < 2 ^ 64) ∧ (0 : Nat) = ({ firstCause := .sequence, missingFrames := 3, droppedBytes := 0, parts := 1 }
          : LossRecord).droppedBytes / segment0.bpp
      ∧ segment0.nextTick ≤ (1081920 : Tick) ∧ (1081919 : Tick) < segment0.nextTick
      ∧ (4 ≤ ((1081928 : Tick).toNat - segment0.nextTick.toNat) / segment0.tickStep)
      ∧ ((1081920 : Tick).toNat - segment0.nextTick.toNat) / segment0.tickStep < 4
      ∧ segment0.gaps = [] ∧ (segment0.addGap 1 .sequence false).gaps
          = [] ++ [{ position := segment0.byteLength / segment0.bpp, pointsLost := 1, cause := .sequence, mixed := false }]
      ∧ running.openEntry = none ∧ filling.openEntry = some segment0 ∧ (200, false) = segment0.lossOf loss1 (some 1082320) := by
  decide +kernel

theorem witness_LinkResyncIsTaken :
    filling.link.locked = true ∧ (filling.capturing ∧ filling.control.orderlyHalt = false)
      ∧ (∃ l, (withFront filling (.resyncMarker none)).link.intake.getLast? = some (.resyncMarker l))
      ∧ (∀ l, filling.link.intake.getLast? ≠ some (.resyncMarker l)) ∧ ¬ formed.capturing
      ∧ ({ filling with link := { filling.link with locked := false } } : State).link.locked = false := by
  unfold State.capturing
  exact ⟨rfl, by decide +kernel, ⟨none, rfl⟩, (fun l h => nomatch h), by decide +kernel, rfl⟩

theorem witness_HaltLineActs :
    ({ filling with link := { filling.link with haltLine := true } } : State).link.haltLine = true
      ∧ filling.link.haltLine = false ∧ ¬ formed.capturing ∧ filling.capturing
      ∧ filling.control.active.haltMode = .orderly ∧ filling.control.orderlyHalt = false
      ∧ ({ filling.control with orderlyHalt := true } : Control).orderlyHalt = true
      ∧ ({ filling.control.active with haltMode := .immediate } : Profile).haltMode = .immediate ∧ RingForm filling := by
  unfold State.capturing RingForm; decide +kernel

theorem frame_wellSized : frame.wellSized := by unfold Frame.wellSized; decide +kernel

/-- The assembly form of a state whose intake holds frames of the payload above: what is decided, clause by clause. -/
theorem assemblyForm_of {s : State}
    (frames : ∀ x ∈ s.link.intake, ∃ (f : Frame) (l : Option LossRecord), x = .frame f l ∧ f.payload = frame.payload)
    (h : (¬ s.capturing → s.link.intake = [] ∧ s.openEntry = none) ∧ (s.control.capture = .stopping → s.openEntry.isSome = true)
      ∧ (s.fillingBlock.isSome = true → s.openEntry.isSome = true)
      ∧ (s.assembler.idleFlush.isSome = true → s.openEntry.isSome = true)
      ∧ (s.assembler.continuation.isSome = true → s.openEntry = none)
      ∧ (s.assembler.stage.isSome = true → (s.link.intake.head?.map IntakeItem.isFrame) = some true)
      ∧ (s.assembler.stage = some .nextBlock → s.openEntry.isSome = true ∧ s.fillingBlock = none)
      ∧ (s.assembler.stage = some .makeRoom ∨ s.assembler.stage = some .openBlock → s.openEntry = none)
      ∧ (s.control.orderlyHalt = s.link.intake.any IntakeItem.isHaltMarker)) : AssemblyForm s := by
  obtain ⟨h1, h2, h3, h4, h5, h7, h8, h9, h10⟩ := h
  refine ⟨h1, h2, h3, h4, h5, fun x hx => ?_, h7, h8, h9, h10⟩
  obtain ⟨f, l, rfl, hf⟩ := frames x hx
  show f.wellSized
  unfold Frame.wellSized
  rw [hf]
  exact frame_wellSized

theorem oneFrame (f : Frame) (l : Option LossRecord) (h : f.payload = frame.payload) :
    ∀ x ∈ [IntakeItem.frame f l], ∃ (f : Frame) (l : Option LossRecord), x = .frame f l ∧ f.payload = frame.payload :=
  fun _ hx => ⟨f, l, List.mem_singleton.mp hx, h⟩

/-- Capture runs and block 0 fills up to a number of bytes. -/
def fillingTo (n : Nat) : State :=
  { filling with ring := { filling.ring with blocks := [{ block0 .filling with fillBytes := n }] } }

theorem witness_GrantAppendsToTheFillingBlock :
    (let s := withFront filling (.frame frame none)
     s.store.admission = true ∧ s.store.inFlight.length < 3 ∧ s.assembler.stage = none
       ∧ s.link.intake = .frame frame none :: [] ∧ s.openEntry = some segment0 ∧ s.fillingBlock = some (block0 .filling)
       ∧ frame.startFlag = false ∧ frame.endFlag = false ∧ (block0 .filling).fillBytes + frame.payload.length < blockBytes
       ∧ (∀ c ∈ s.assembler.sliceCounter, ((frame.payload.length / segment0.bpp : Nat) : Int) < c) ∧ RingForm s)
      ∧ (let s := withFront (fillingTo 4194240) (.frame frame (some loss1))
         s.store.admission = true ∧ s.store.inFlight.length < 3 ∧ s.assembler.stage = none
           ∧ s.link.intake = .frame frame (some loss1) :: [] ∧ s.openEntry.isSome = true
           ∧ s.fillingBlock = some { block0 .filling with fillBytes := 4194240 }
           ∧ 4194240 + frame.payload.length ≤ blockBytes ∧ RingForm s) := by
  unfold RingForm; decide +kernel

theorem witness_GrantOpensASegment :
    let s := withFront running (.frame frame none)
    (s.store.admission = true ∧ s.store.inFlight.length < 3 ∧ s.assembler.stage = none
      ∧ s.link.intake = .frame frame none :: [] ∧ s.openEntry = none ∧ s.fillingBlock = none ∧ s.control.swapPending = false
      ∧ s.assembler.nextSegment < 2 ^ 48 - 1 ∧ s.index.length < 4096 ∧ s.ring.head < 2 ^ 40 - 1
      ∧ s.ring.head - s.ring.tail < s.capacity ∧ frame.endFlag = false ∧ s.control.active.sliceMode = .off
      ∧ s.control.headMark = none ∧ s.control.archiveMark = none ∧ s.drain.parkedTakes = [])
      ∧ RingForm s ∧ frame.wellSized ∧ AssemblyForm s := by
  refine ⟨by decide +kernel, by unfold RingForm; decide +kernel, frame_wellSized, assemblyForm_of (oneFrame frame none rfl) ?_⟩
  unfold State.capturing; decide +kernel

/-- A full ring whose Tail block 0 is in a state, with segment 0 open and a frame in front that needs a new block. -/
def fullRing (b : Block) : State :=
  withFront { filling with ring := { filling.ring with head := 1024, blocks := [b] } } (.frame frame none)

theorem witness_FullRingExaminesTheTail :
    (let s := fullRing (block0 .archived)
     s.store.admission = true ∧ s.store.inFlight.length < 3 ∧ s.assembler.stage = none
       ∧ s.link.intake = .frame frame none :: [] ∧ s.openEntry = some segment0 ∧ s.fillingBlock = none
       ∧ frame.startFlag = false ∧ s.ring.head < 2 ^ 40 - 1 ∧ s.ring.head - s.ring.tail = s.capacity
       ∧ s.ring.blocks.head? = some (block0 .archived)
       ∧ (block0 .archived).classify s.control.active.overrunPolicy = .recyclable ∧ frame.wellSized ∧ frame.endFlag = false
       ∧ s.assembler.sliceCounter = none ∧ s.control.headMark = none ∧ s.control.archiveMark = none
       ∧ s.drain.parkedTakes = []
       ∧ (block0 .sealed).classify s.control.active.overrunPolicy = .held ∧ s.control.active.overrunPolicy ≠ .stop
       ∧ (block0 .sealed).classify .stop = .held ∧ (block0 .sealed).classify .overwrite = .evictable
       ∧ ({ block0 .archived with readsInFlight := 1 } : Block).classify s.control.active.overrunPolicy = .readBound)
      ∧ (let s := withFront (fillingTo 4194304) (.frame frame (some loss1))
         (s.store.admission = true ∧ s.store.inFlight.length < 3 ∧ s.assembler.stage = none
           ∧ s.link.intake = .frame frame (some loss1) :: [] ∧ s.openEntry.isSome = true ∧ frame.startFlag = false
           ∧ (∀ b ∈ s.fillingBlock, blockBytes < b.fillBytes + frame.payload.length) ∧ RingForm s) ∧ AssemblyForm s) := by
  refine ⟨by unfold Frame.wellSized; decide +kernel, by unfold RingForm; decide +kernel,
    assemblyForm_of (oneFrame frame (some loss1) rfl) ?_⟩
  unfold State.capturing; decide +kernel

/-- A frame that begins a segment. -/
def starting : Frame :=
  { frame with startFlag := true }

/-- A frame that waits at the front, at a step of its working. -/
def waitingAt (s : State) (stage : Stage) : State :=
  { withFront s (.frame frame none) with assembler := { s.assembler with stage := some stage } }

theorem witness_GrantPlacesDropsDiscardsOrWaits :
    (let s := withFront filling (.frame frame none)
     (s.store.admission = true ∧ s.store.inFlight.length < 3 ∧ s.link.intake = .frame frame none :: [] ∧ RingForm s
       ∧ (0, 163840) = s.placeOf frame) ∧ AssemblyForm s)
      ∧ (∀ s ∈ [withFront filling (.frame starting none), withFront stopping (.frame starting none)],
          (s.store.admission = true ∧ s.store.inFlight.length < 3 ∧ s.assembler.stage = none
            ∧ s.link.intake = .frame starting none :: [] ∧ starting.startFlag = true ∧ s.openEntry.isSome = true ∧ RingForm s)
            ∧ AssemblyForm s)
      ∧ (filling.control.capture ≠ .stopping ∧ stopping.control.capture = .stopping)
      ∧ ∀ x ∈ [(running, Stage.makeRoom), (running, Stage.openBlock), (holding .sealed, Stage.nextBlock)],
          ((waitingAt x.1 x.2).store.admission = true ∧ (waitingAt x.1 x.2).store.inFlight.length < 3
            ∧ (waitingAt x.1 x.2).assembler.stage = some x.2
            ∧ (waitingAt x.1 x.2).link.intake = .frame frame none :: [] ∧ RingForm (waitingAt x.1 x.2))
            ∧ AssemblyForm (waitingAt x.1 x.2) := by
  unfold RingForm
  refine ⟨⟨by decide +kernel, assemblyForm_of (oneFrame frame none rfl) (by unfold State.capturing; decide +kernel)⟩,
    fun s hs => ?_, by decide +kernel, fun x hx => ?_⟩
  · obtain rfl | rfl : s = withFront filling (.frame starting none) ∨ s = withFront stopping (.frame starting none) := by
      simpa using hs
    all_goals
      exact ⟨by decide +kernel, assemblyForm_of (oneFrame starting none rfl) (by unfold State.capturing; decide +kernel)⟩
  · obtain rfl | rfl | rfl : x = (running, Stage.makeRoom) ∨ x = (running, Stage.openBlock) ∨ x = (holding .sealed, Stage.nextBlock) := by
      simpa using hx
    all_goals
      exact ⟨by decide +kernel, assemblyForm_of (oneFrame frame none rfl) (by unfold State.capturing; decide +kernel)⟩

theorem witness_TailBlockIsClassified : (block0 .sealed).state ≠ .filling := by decide

/-- Block 0 fills, and context 1 has a parked take on an unbounded window from 0. -/
def fillingAndParked : State :=
  { filling with
    drain := { contexts := (Vector.replicate 4 none).set 1 (some { first := 0, length := 0 }), parkedTakes := [{ ctx := 1, tag := 9 }] } }

/-- The premises of SealAnswered, for the statements of a Flush, an expiry and a resync marker. -/
theorem witness_SealAnswered :
    RingForm fillingAndParked ∧ fillingAndParked.fillingBlock = some (block0 .filling) ∧ (block0 .filling).archiveRequired = true
      ∧ fillingAndParked.takerOf (block0 .filling).lbn = some { ctx := 1, tag := 9 }
      ∧ fillingAndParked.findEntry (block0 .filling).segment = some segment0 := by
  unfold RingForm; decide +kernel

theorem witness_FlushAndIdleFlushSeal :
    Taken filling .viewer (hdr 0 0) 0 ∧ running.fillingBlock = none ∧ filling.fillingBlock = some (block0 .filling)
      ∧ running.assembler.idleFlush = none ∧ filling.assembler.idleFlush.isSome = true
      ∧ ((holding .sealed).assembler.idleFlush.isSome = true ∧ (holding .sealed).fillingBlock = none) := by
  unfold Taken; decide +kernel

theorem witness_MarkersAreWorked :
    ((withFront filling (.haltMarker none)).link.intake = .haltMarker none :: []
        ∧ RingForm (withFront filling (.haltMarker none)))
      ∧ (withFront running (.resyncMarker none)).openEntry = none
      ∧ ((withFront stopping (.resyncMarker none)).openEntry.isSome = true
          ∧ (withFront stopping (.resyncMarker none)).control.capture = .stopping
          ∧ RingForm (withFront stopping (.resyncMarker none)))
      ∧ ((withFront filling (.resyncMarker none)).openEntry.isSome = true
          ∧ (withFront filling (.resyncMarker none)).control.capture ≠ .stopping) := by
  unfold RingForm; decide +kernel

theorem witness_SlicesCarryAndTriggersAreRecorded :
    ((0 : Int) ≤ 0 ∧ 1 ≤ 1) ∧ 64 = ({ frame with triggerOffset := 64 } : Frame).triggerOffset.toNat / segment0.bpp * segment0.bpp
      ∧ frame.payload.length ≤ 64
      ∧ 60 = ({ frame with triggerOffset := 63 } : Frame).triggerOffset.toNat / segment0.bpp * segment0.bpp
      ∧ 60 < frame.payload.length ∧ 0 < segment0.bpp := by decide +kernel

theorem witness_BandFollowsHeadroom :
    ((255 : Nat) < 256 ∧ (255 : Nat) ≤ 255 ∧ (256 : Nat) ≤ 256 ∧ 256 + 16 < (273 : Nat))
      ∧ (let s : State := { filling with pending := [.flush (hdr 0 0)] }
         RingForm s ∧ AssemblyForm s ∧ BandForm s ∧ ∃ t, step s = .next t) := by
  unfold RingForm
  exact ⟨by decide, by decide +kernel,
    assemblyForm_of (fun x h => nomatch h) (by unfold State.capturing; decide +kernel), bandForm_filling, _, rfl⟩

theorem witness_GroupChangesAreRecordedAndTested :
    Taken filling .viewer (hdr 0 1) 1 ∧ 15 < (hdr 16 1).target.toNat ∧ (hdr 15 1).target.toNat = (15 : Fin 16).val
      ∧ Taken filling .viewer (hdr 0 0) 0
      ∧ (∃ g : Fin 16, (withGroup filling 3 { state := .changing .off .active (.timing 2000), next := .active }).changing g)
      ∧ (let s := withGroup filling 0 { state := .settled .active, next := .retain }
         (∀ j : Fin 16, ¬ s.changing j) ∧ 0 ∈ s.power.groupMap
           ∧ s.power.groups[(0 : Fin 16)].state ≠ .settled s.power.groups[(0 : Fin 16)].next ∧ s.capturing) := by
  unfold Taken State.capturing
  refine ⟨by decide +kernel, by decide, by decide, by decide +kernel, ⟨3, .off, .active, .timing 2000, rfl⟩, ?_, by decide +kernel,
    by decide +kernel, by decide +kernel⟩
  rintro j ⟨a, b, c, h⟩
  revert h
  fin_cases j <;> intro h <;> nomatch h

theorem witness_ApplyGroupsStartsTheChanges :
    let s := withGroup (stopped .sealed) 0 { state := .settled .active, next := .retain }
    Taken s .viewer (hdr 0 0) 0 ∧ (∀ g : Fin 16, ¬ s.changing g)
      ∧ (∀ g ∈ s.power.groupMap, s.power.groups[g].state ≠ .settled s.power.groups[g].next →
          ¬ s.capturing ∧ (s.control.capture = .stopped → s.power.groups[g].next ≠ .off)) := by
  unfold Taken State.capturing
  refine ⟨by decide +kernel, ?_, by decide +kernel⟩
  rintro j ⟨a, b, c, h⟩
  revert h
  fin_cases j <;> intro h <;> nomatch h

theorem witness_GroupsSettleWhenTheirTimeRunsOut :
    (withGroup filling 3 { state := .changing .off .active (.timing 2000), next := .active }).power.groups[(3 : Fin 16)].state
        = .changing .off .active (.timing 2000)
      ∧ ∀ (start target : GroupPower) (left : Nat), filling.power.groups[(3 : Fin 16)].state ≠ .changing start target (.timing left) :=
  ⟨rfl, fun _ _ _ h => nomatch h⟩

theorem witness_SetGroupMapTakesTheMap :
    Taken formed .viewer (hdr 0 3) (1 + ([0, 15] : List (BitVec 8)).length)
      ∧ ((2 : BitVec 8).toNat = 2 ∧ ([0, 15] : List (BitVec 8)).length = (2 : BitVec 8).toNat
          ∧ (∀ g ∈ ([0, 15] : List (BitVec 8)), g.toNat ≤ 15) ∧ ([0, 15] : List (BitVec 8)).Nodup)
      ∧ ¬ ([4, 4] : List (BitVec 8)).Nodup ∧ (stopped .sealed).control.capture = .stopped ∧ formed.control.capture = .idle := by
  unfold Taken; decide +kernel

theorem witness_ReformFormsTheRing :
    Taken formed .viewer (hdr 0 0) 0 ∧ filling.capturing
      ∧ ((stopped (.claimed 0)).ring.blocks.map Block.state = [.claimed 0])
      ∧ (¬ (stopped .sealed).capturing ∧ (∀ b ∈ (stopped .sealed).ring.blocks, ∀ c, b.state ≠ .claimed c)
          ∧ (∀ i : Fin 8, (stopped .sealed).pins[i].isSome = false) ∧ (∀ b ∈ (stopped .sealed).ring.blocks, b.readsInFlight = 0)
          ∧ (∀ g ∈ (stopped .sealed).power.groupMap, (stopped .sealed).power.groups[g].state = .settled .active))
      ∧ ∃ g ∈ State.reset.power.groupMap, State.reset.power.groups[g].state ≠ .settled .active := by
  unfold Taken State.capturing; decide +kernel

/-- Block 0 is Claimed by context 0, Open on an unbounded window, and context 1 has a parked take on the same window. -/
def claimedAndParked : State :=
  { stopped (.claimed 0) with
    control := running.control
    drain :=
      { contexts := (Vector.replicate 4 none).set 0 (some { first := 0, length := 0 }) |>.set 1 (some { first := 0, length := 0 })
        parkedTakes := [{ ctx := 1, tag := 9 }] } }

theorem witness_ContextsOpenAndClose :
    Taken filling .archive (hdr 3 16) 16 ∧ 3 < (hdr 4 16).target.toNat ∧ (hdr 3 16).target.toNat = (3 : Fin 4).val
      ∧ (1099511627775 : BitVec 64).toNat ≤ 2 ^ 40 - 1 ∧ (1099511627775 : BitVec 64).toNat + (1 : BitVec 64).toNat ≤ 2 ^ 40
      ∧ filling.drain.contexts[(3 : Fin 4)] = none
      ∧ Taken claimedAndParked .archive (hdr 0 0) 0 ∧ claimedAndParked.drain.contexts[(0 : Fin 4)].isSome = true
      ∧ RingForm claimedAndParked ∧ DrainForm claimedAndParked
      ∧ (block0 (.claimed 0), some { ctx := 1, tag := 9 })
          ∈ (offerInTurn claimedAndParked.drain.contexts (claimedAndParked.drain.parkedTakes.filter fun k => decide (k.ctx ≠ 0))
              (claimedAndParked.ring.blocks.filter fun b => decide (b.state = .claimed 0))).1
      ∧ claimedAndParked.findEntry (block0 (.claimed 0)).segment = some { segment0 with closeReason := some .stop } := by
  unfold Taken RingForm DrainForm; decide +kernel

theorem witness_TakeAnswers :
    let s := withContext (stopped .sealed)
    Taken s .archive (hdr 0 1) 1 ∧ s.drain.contexts[(0 : Fin 4)] = some { first := 0, length := 0 }
      ∧ s.drain.contexts[(3 : Fin 4)] = none
      ∧ 8 ≤ ((List.replicate 8 (block0 (.claimed 0))).filter fun b => b.state = .claimed 0).length
      ∧ (s.ring.blocks.filter fun b => b.state = .claimed 0).length < 8
      ∧ s.ring.blocks.find? (fun b => decide (b.state = .sealed ∧ b.archiveRequired = true
            ∧ ({ first := 0, length := 0 } : Window).covers b.lbn = true)) = some (block0 .sealed)
      ∧ (s.index.find? fun e => e.number = (block0 .sealed).segment).isSome = true
      ∧ s.power.groups[s.groupOf (block0 .sealed).lbn].state = .settled .active
      ∧ (∀ b ∈ (withContext filling).ring.blocks, b.state ≠ .sealed) ∧ filling.control.capture ≠ .stopped
      ∧ (∀ k ∈ (withContext filling).drain.parkedTakes, k.ctx ≠ 0)
      ∧ (∃ k ∈ claimedAndParked.drain.parkedTakes, k.ctx = 1)
      ∧ (({ first := 0, length := 1 } : Window).first + 1 ≤ (stopped .archived).archiveFront) := by
  unfold Taken; decide +kernel

theorem witness_FetchesAndReadsAreQueued :
    (let s := withContext (stopped (.claimed 0))
     Taken s .archive (hdr 0 16) 16 ∧ (163776 : BitVec 32).toNat % 64 = 0 ∧ (65536 : BitVec 32).toNat % 64 = 0
       ∧ s.drain.contexts[(0 : Fin 4)].isSome = true ∧ s.findBlock (0 : BitVec 64).toNat = some (block0 (.claimed 0))
       ∧ (163776 : BitVec 32).toNat < (block0 (.claimed 0)).fillBytes
       ∧ (block0 (.claimed 0)).fillBytes ≤ (163840 : BitVec 32).toNat
       ∧ s.power.groups[s.groupOf (block0 (.claimed 0)).lbn].state = .settled .active)
      ∧ (let s := withPin (stopped .archived)
         Taken s .viewer (hdr 0 16) 16 ∧ s.pins[(0 : Fin 8)] = some { first := 0, rangeEnd := 1 } ∧ s.pins[(7 : Fin 8)] = none
           ∧ (s.findBlock (0 : BitVec 64).toNat).isSome = true ∧ (0 : BitVec 64).toNat < 1 ∧ 1 ≤ (1 : BitVec 64).toNat
           ∧ s.power.groups[s.groupOf 0].state = .settled .active) := by
  unfold Taken; decide +kernel

theorem witness_ConfirmArchives :
    let s := withContext (stopped (.claimed 0))
    Taken s .archive (hdr 0 9) 9 ∧ (hdr 0 9).target.toNat = (0 : Fin 4).val ∧ (0 : BitVec 64).toNat ≤ 2 ^ 40 - 1
      ∧ 2 ^ 40 - 1 < (1099511627776 : BitVec 64).toNat ∧ s.drain.contexts[(0 : Fin 4)].isSome = true
      ∧ s.drain.contexts[(3 : Fin 4)] = none ∧ s.findBlock (0 : BitVec 64).toNat = some (block0 (.claimed 0))
      ∧ (block0 (.claimed 0)).state = .claimed 0 := by
  unfold Taken; decide +kernel

theorem witness_ReturnRejoins :
    Taken claimedAndParked .archive (hdr 0 8) 8 ∧ claimedAndParked.drain.contexts[(0 : Fin 4)].isSome = true
      ∧ RingForm claimedAndParked ∧ claimedAndParked.findBlock (0 : BitVec 64).toNat = some (block0 (.claimed 0))
      ∧ claimedAndParked.drain.parkedTakes = [] ++ { ctx := 1, tag := 9 } :: []
      ∧ (∃ w ∈ claimedAndParked.drain.contexts[(1 : Fin 4)], w.covers (0 : BitVec 64).toNat = true)
      ∧ (RingForm (withContext (stopped (.claimed 0))) ∧ (withContext (stopped (.claimed 0))).drain.parkedTakes = []) := by
  unfold Taken RingForm
  decide +kernel

theorem witness_PinsAreTakenAndRemoved :
    let s := stopped .archived
    Taken s .viewer (hdr 0 12) 12 ∧ 16384 < (16385 : BitVec 32).toNat ∧ (16384 : BitVec 32).toNat ≤ 16384
      ∧ s.pins[(0 : Fin 8)] = none ∧ s.ring.tail < (0 : BitVec 64).toNat + (1 : BitVec 32).toNat
      ∧ max (0 : BitVec 64).toNat s.ring.tail < min ((0 : BitVec 64).toNat + (16384 : BitVec 32).toNat) s.ring.head
      ∧ (∀ i : Fin 8, (Vector.replicate 8 (some ({ first := 0, rangeEnd := 1 } : PinRange)))[i].isSome = true)
      ∧ Taken (withPin s) .viewer (hdr 0 0) 0 ∧ (withPin s).pins[(0 : Fin 8)] = some { first := 0, rangeEnd := 1 }
      ∧ (withPin s).pins[(7 : Fin 8)] = none ∧ 7 < (hdr 8 0).target.toNat := by
  unfold Taken; decide +kernel

theorem witness_HeldBlocksHaveTheirOwnAddresses : RingForm filling ∧ filling.ring.tail ≤ 0 ∧ 0 < filling.ring.head := by
  unfold RingForm; decide +kernel

theorem witness_GrantsFollowTheBand :
    filling.store.admission = false ∧ (withFront filling (.frame frame none)).store.admission = true
      ∧ 3 ≤ (withFlight filling [writeInFlight, writeInFlight, writeInFlight]).store.inFlight.length
      ∧ ((queued .relaxed .archive).store.inFlight.length < 3 ∧ (queued .relaxed .archive).store.archiveQueue = fetch0 :: []
          ∧ (queued .relaxed .archive).store.turn = .archive
          ∧ (∃ b ∈ (queued .relaxed .archive).ring.blocks, b.lbn = fetch0.lbn)
          ∧ (queued .relaxed .archive).power.groups[(queued .relaxed .archive).groupOf fetch0.lbn].state = .settled .active)
      ∧ ((queued .relaxed .viewer).store.viewerQueue = read0 :: [] ∧ (queued .relaxed .viewer).ring.band ≠ .critical
          ∧ (queued .relaxed .viewer).store.turn = .viewer
          ∧ (queued .relaxed .viewer).findBlock read0.lbn = some (block0 .filling))
      ∧ (∀ b ∈ running.ring.blocks, b.lbn ≠ fetch0.lbn) := by decide +kernel

theorem witness_CompletionsDeliver :
    (let s := withFlight filling [writeInFlight]
     s.store.inFlight = writeInFlight :: [] ∧ writeInFlight.op = .admissionWrite frame.payload ∧ ¬ s.drains writeInFlight.group)
      ∧ (let s := withFlight (stopped .sealed) [fetchInFlight, readInFlight]
         s.store.inFlight = fetchInFlight :: [readInFlight] ∧ fetchInFlight.op = .archiveRead fetch0
           ∧ (∃ x ∈ [readInFlight], x.group = fetchInFlight.group)
           ∧ UnitResult.uncorrectable ∉ ([.corrected] : List UnitResult).take (fetchInFlight.length / 64)
           ∧ UnitResult.uncorrectable ∈ ([.uncorrectable] : List UnitResult).take (fetchInFlight.length / 64)
           ∧ s.findBlock fetchInFlight.lbn = some (block0 .sealed) ∧ fetchInFlight.requester = .request .archive 3)
      ∧ (∀ e ∈ filling.store.inFlight.head?, ∀ r, e.op ≠ .archiveRead r) := by
  refine ⟨⟨rfl, rfl, ?_⟩, by decide +kernel, fun e h => nomatch h⟩
  rintro ⟨a, b, h⟩
  exact nomatch h

theorem witness_CompletionsEndADrain :
    (let s := withGroup (withFlight (stopped .sealed) [fetchInFlight]) 0 { state := .changing .active .retain .draining, next := .retain }
     s.store.inFlight = fetchInFlight :: [] ∧ (∀ x ∈ ([] : List InFlight), x.group ≠ fetchInFlight.group)
       ∧ s.power.groups[fetchInFlight.group].state = .changing .active .retain .draining ∧ fetchInFlight.isRead = true
       ∧ UnitResult.uncorrectable ∉ ([.corrected] : List UnitResult).take (fetchInFlight.length / 64)
       ∧ UnitResult.uncorrectable ∈ ([.uncorrectable] : List UnitResult).take (fetchInFlight.length / 64)
       ∧ s.findBlock fetchInFlight.lbn = some (block0 .sealed) ∧ fetchInFlight.requester = .request .archive 3)
      ∧ (let s := withGroup (withFlight (stopped .sealed) [writeInFlight]) 0 { state := .changing .active .off .draining, next := .off }
         s.store.inFlight = writeInFlight :: [] ∧ s.power.groups[writeInFlight.group].state = .changing .active .off .draining
           ∧ writeInFlight.op = .admissionWrite frame.payload ∧ writeInFlight.requester = .absent) := by decide +kernel

theorem witness_FlagSourceAndClear :
    Taken filling .archive (hdr 4 1) 1 ∧ 7 < (hdr 8 1).target.toNat ∧ (hdr 4 1).target.toNat = (4 : Fin 8).val
      ∧ (9 : BitVec 8).toNat ≤ 9 ∧ 9 < (10 : BitVec 8).toNat ∧ Taken filling .viewer (hdr 3 0) 0
      ∧ [FlagSource.none, .segmentClosed, .blockSealed, .bandPressedOrCritical, .bandRelaxed, .headMark, .archiveMark,
          .captureStopped, .mediaError, .groupsSettled][(9 : BitVec 8).toNat]? = some .groupsSettled := by
  unfold Taken; decide +kernel

theorem witness_PostAndWaitUseTheFlag :
    let w := parked .viewer 9 .consume (some 40)
    let s := withFlag filling 7 { value := false, source := .none, waits := [w] }
    Taken s .viewer (hdr 7 0) 0 ∧ s.flags[(7 : Fin 8)].value = false ∧ Taken s .viewer (hdr 7 5) 5
      ∧ (65535 : BitVec 32).toNat ≤ 65535 ∧ 65535 < (65536 : BitVec 32).toNat
      ∧ (withFlag filling 7 { value := true, source := .none, waits := [] }).flags[(7 : Fin 8)].value = true
      ∧ s.flags[(7 : Fin 8)].waits.length < 4 ∧ 4 ≤ (List.replicate 4 w).length
      ∧ (∃ x ∈ s.flags[(7 : Fin 8)].waits, x.port = .viewer ∧ x.tag = 9 ∧ x.timeLeft.isSome = true)
      ∧ (∀ x ∈ s.flags[(7 : Fin 8)].waits, x.port = .viewer → x.tag = 9 → x = w) := by
  unfold Taken; decide +kernel

theorem witness_EventsSetFlagsAndServeWaits :
    (∀ w ∈ [parked .viewer 9 .peek none], w.mode = .peek) ∧ (parked .viewer 8 .consume none).mode = .consume
      ∧ (let s := withFlag filling 7 { value := false, source := .blockSealed, waits := [parked .viewer 9 .peek none] }
         s.flags[(7 : Fin 8)].source = Event.source .blockSealed ∧ s.flags[(7 : Fin 8)].value = false
           ∧ (serveWaits s.flags[(7 : Fin 8)].waits).served ≠ []) := by decide +kernel

theorem witness_NoticeRequestsManageTheirOwnUnit :
    Taken filling .archive (hdr 0 2) 2 ∧ 2 ^ 13 ≤ (8192 : BitVec 16).toNat ∧ (8191 : BitVec 16).toNat < 2 ^ 13 := by
  unfold Taken; decide +kernel

/-- For the nine EveryStepKeeps statements: the forms hold of a state in mid-capture with a command waiting, whose step answers a next
state; and the slots are in form with a Wait parked and a Fetch in flight. -/
theorem witness_EveryStepKeepsTheForms :
    let s : State := { filling with pending := [.flush (hdr 0 0)] }
    FramesBalance s ∧ ControlForm s ∧ RingForm s ∧ AssemblyForm s ∧ IndexForm s ∧ GapForm s ∧ PinForm s ∧ StoreForm s
      ∧ DrainForm s ∧ PowerForm s ∧ SignalForm s
      ∧ (let u := withFlag (withFlight s [fetchInFlight]) 7 { value := false, source := .none, waits := [parked .archive 9 .peek none] }
         SlotForm
           { u with
             archivePort :=
               { u.archivePort with
                 slots :=
                   [{ tag := 3, kind := .fetch, progress := .issued }, { tag := 9, kind := .wait, progress := .parked }] } })
      ∧ ∃ t, step s = .next t := by
  unfold FramesBalance ControlForm RingForm IndexForm GapForm PinForm StoreForm DrainForm PowerForm SignalForm SlotForm
    State.capturing
  refine ⟨by decide +kernel, by decide +kernel, by decide +kernel,
    assemblyForm_of (fun x h => nomatch h) (by unfold State.capturing; decide +kernel), by decide +kernel, by decide +kernel,
    by decide +kernel, by decide +kernel, by decide +kernel, ⟨by decide +kernel, by decide +kernel, by decide +kernel,
      by decide +kernel, (fun e h => nomatch h), by decide +kernel⟩, by decide +kernel, fun p => by cases p <;> decide +kernel, _, rfl⟩

end Sys2Proof.Tests
end

/-!
The balance of the frame counters (R46). A `FrameBook` is what R46 speaks of: the intake order, the frames received and the frames disposed of. First
stands what each change of a book does to its balance, then which change each operation of the model makes, and last the commands.
-/
namespace Sys2Proof.Machine

/-! ## The book of R46 -/

/-- The frames disposed of in one of the five ways R46 sums. -/
def StreamCounts.disposed (c : StreamCounts) : BitVec 64 :=
  c.framesAdmitted + c.framesDroppedIntake + c.framesDroppedOverrun + c.framesDiscarded + c.framesBad

/-- What R46 speaks of: the intake order, Frames Received, and the sum of the counters of frames disposed of. -/
@[ext] structure FrameBook where
  intake : List IntakeItem
  received : BitVec 64
  disposed : BitVec 64

/-- The book the Sample Link Receiver's state stands for. -/
def Link.frameBook (l : Link) : FrameBook where
  intake := l.intake
  received := l.counts.framesReceived
  disposed := l.counts.disposed

namespace FrameBook

/-- The number of frames held. -/
def held (b : FrameBook) : Nat :=
  framesIn b.intake

/-- R46: every frame received is disposed of or held, and at most 64 are held (R35). -/
def Balanced (b : FrameBook) : Prop :=
  b.received = b.disposed + BitVec.ofNat 64 b.held ∧ b.held ≤ 64

/-- A frame is received. -/
def receive (b : FrameBook) : FrameBook :=
  { b with received := b.received + 1 }

/-- A frame is disposed of. -/
def dispose (b : FrameBook) : FrameBook :=
  { b with disposed := b.disposed + 1 }

/-- An item joins the tail of intake. -/
def join (b : FrameBook) (x : IntakeItem) : FrameBook :=
  { b with intake := b.intake ++ [x] }

/-- The item at the front leaves intake. -/
def leave (b : FrameBook) : FrameBook :=
  { b with intake := b.intake.tail }

/-- The whole intake order is discarded (R39). -/
def discard (b : FrameBook) : FrameBook where
  intake := []
  received := b.received
  disposed := b.disposed + BitVec.ofNat 64 b.held

variable {b : FrameBook} {x : IntakeItem} {rest : List IntakeItem}

theorem held_join_frame (hx : x.isFrame = true) : (b.join x).held = b.held + 1 := by
  simp [held, join, framesIn, hx]

theorem held_join_marker (hx : x.isFrame = false) : (b.join x).held = b.held := by
  simp [held, join, framesIn, hx]

theorem held_leave_frame (hb : frameInFront b.intake = true) : b.held = b.leave.held + 1 := by
  obtain ⟨_ | ⟨x, rest⟩, received, disposed⟩ := b
  · cases hb
  · have hx : x.isFrame = true := hb
    simp [held, leave, framesIn, hx]

theorem held_leave_marker (hb : b.intake = x :: rest) (hx : x.isFrame = false) : b.leave.held = b.held := by
  simp [held, leave, framesIn, hb, hx]

/-- Discarding intake turns every frame held into one disposed of. -/
theorem Balanced.discard (h : b.Balanced) : b.discard.Balanced :=
  ⟨by simpa [FrameBook.discard, held, framesIn] using h.1, Nat.zero_le 64⟩

/-- The frame at the front moves from those held to those disposed of. -/
theorem Balanced.dispose_leave (h : b.Balanced) (hb : frameInFront b.intake = true) : b.dispose.leave.Balanced := by
  obtain ⟨hsum, hbound⟩ := h
  have hheld : b.held = b.dispose.leave.held + 1 := held_leave_frame hb
  refine ⟨?_, by omega⟩
  calc b.received = b.disposed + BitVec.ofNat 64 (b.dispose.leave.held + 1) := by rw [hsum, hheld]
    _ = b.disposed + 1 + BitVec.ofNat 64 b.dispose.leave.held := by rw [BitVec.ofNat_add]; ac_rfl

/-- A frame received and disposed of at once. -/
theorem Balanced.receive_dispose (h : b.Balanced) : b.receive.dispose.Balanced := by
  obtain ⟨hsum, hbound⟩ := h
  refine ⟨?_, hbound⟩
  calc b.received + 1 = b.disposed + BitVec.ofNat 64 b.held + 1 := by rw [hsum]
    _ = b.disposed + 1 + BitVec.ofNat 64 b.held := by ac_rfl

/-- A frame received that finds a place in intake. -/
theorem Balanced.receive_join (h : b.Balanced) (hroom : b.held < 64) (hx : x.isFrame = true) :
    (b.receive.join x).Balanced := by
  have hheld : (b.receive.join x).held = b.held + 1 := held_join_frame hx
  refine ⟨?_, by omega⟩
  calc b.received + 1 = b.disposed + BitVec.ofNat 64 b.held + 1 := by rw [h.1]
    _ = b.disposed + BitVec.ofNat 64 (b.receive.join x).held := by rw [hheld, BitVec.ofNat_add]; ac_rfl

/-- A marker occupies no place, so its coming changes no balance. -/
theorem Balanced.join_marker (h : b.Balanced) (hx : x.isFrame = false) : (b.join x).Balanced := by
  have hheld : (b.join x).held = b.held := held_join_marker hx
  rwa [Balanced, hheld]

/-- A marker occupies no place, so its leaving changes no balance. -/
theorem Balanced.leave_marker (h : b.Balanced) (hb : b.intake = x :: rest) (hx : x.isFrame = false) : b.leave.Balanced := by
  have hheld : b.leave.held = b.held := held_leave_marker hb hx
  rwa [Balanced, hheld]

end FrameBook

/-- `FramesBalance` is the balance of the state's book. -/
theorem framesBalance_iff {s : State} : FramesBalance s ↔ s.link.frameBook.Balanced :=
  Iff.rfl

/-- The balance depends on the book alone. -/
theorem FramesBalance.of_frameBook {s t : State} (h : FramesBalance s) (e : t.link.frameBook = s.link.frameBook) :
    FramesBalance t :=
  framesBalance_iff.mpr (e ▸ framesBalance_iff.mp h)

/-! ## Operations that leave the book as it is -/

theorem Link.frameBook_congr {l m : Link} (hi : m.intake = l.intake) (hc : m.counts = l.counts) :
    m.frameBook = l.frameBook := by
  rw [frameBook, frameBook, hi, hc]

@[simp] theorem State.updatePause_frameBook (s : State) : s.updatePause.link.frameBook = s.link.frameBook :=
  Link.frameBook_congr (by simp) (by simp)

@[simp] theorem State.reband_frameBook (s : State) : s.reband.link.frameBook = s.link.frameBook :=
  Link.frameBook_congr (by simp) (by simp)

@[simp] theorem State.rebandFresh_frameBook (s : State) : s.rebandFresh.link.frameBook = s.link.frameBook :=
  Link.frameBook_congr (by simp) (by simp)

@[simp] theorem State.activate_frameBook (s : State) : s.activate.link.frameBook = s.link.frameBook :=
  Link.frameBook_congr (by simp) (by simp)

@[simp] theorem State.settleRing_frameBook (s : State) (n : Nat) : (s.settleRing n).link.frameBook = s.link.frameBook :=
  Link.frameBook_congr (by simp) (by simp)

@[simp] theorem State.evictTail_frameBook (s : State) (b : Block) : (s.evictTail b).link.frameBook = s.link.frameBook := by
  simp [evictTail, Link.frameBook, StreamCounts.disposed]

@[simp] theorem State.sealFilling_frameBook (s : State) : s.sealFilling.link.frameBook = s.link.frameBook := by
  unfold sealFilling
  split
  · rfl
  · dsimp only
    split <;> simp [Link.frameBook, StreamCounts.disposed]

@[simp] theorem State.sealFull_frameBook (s : State) : s.sealFull.link.frameBook = s.link.frameBook := by
  unfold sealFull
  (repeat' split) <;> simp

@[simp] theorem State.closeSegment_frameBook (s : State) (r : CloseReason) :
    (s.closeSegment r).link.frameBook = s.link.frameBook := by
  unfold closeSegment
  split <;> simp

/-! ## Operations that dispose of a frame, and those that discard intake -/

/-- A counter of frames disposed of goes up by one. -/
theorem State.count_frameBook_dispose (s : State) {f : StreamCounts → StreamCounts}
    (hr : ∀ c, (f c).framesReceived = c.framesReceived) (hd : ∀ c, (f c).disposed = c.disposed + 1) :
    (s.count f).link.frameBook = s.link.frameBook.dispose := by
  simp [Link.frameBook, FrameBook.dispose, hr, hd]

theorem State.leaveIntake_frameBook (s : State) : s.leaveIntake.link.frameBook = s.link.frameBook.leave :=
  updatePause_frameBook _

theorem State.dropFront_frameBook (s : State) : s.dropFront.link.frameBook = s.link.frameBook.dispose.leave := by
  rw [dropFront, leaveIntake_frameBook, count_frameBook_dispose]
  · exact fun _ => rfl
  · intro c; simp only [StreamCounts.disposed]; ac_rfl

theorem State.countPlaced_frameBook (s : State) (f : Frame) :
    (s.countPlaced f).link.frameBook = s.link.frameBook.dispose.leave := by
  rw [countPlaced, leaveIntake_frameBook, count_frameBook_dispose, mapOpen_link]
  · exact fun _ => rfl
  · intro c; simp only [StreamCounts.disposed]; ac_rfl

@[simp] theorem State.discardIntake_frameBook (s : State) : s.discardIntake.link.frameBook = s.link.frameBook.discard := by
  refine (updatePause_frameBook _).trans (FrameBook.ext rfl rfl ?_)
  calc
    _ = s.link.counts.framesAdmitted + s.link.counts.framesDroppedIntake + s.link.counts.framesDroppedOverrun
          + (s.link.counts.framesDiscarded + BitVec.ofNat 64 s.link.frameBook.held) + s.link.counts.framesBad := rfl
    _ = s.link.counts.disposed + BitVec.ofNat 64 s.link.frameBook.held := by unfold StreamCounts.disposed; ac_rfl

@[simp] theorem State.enterStopped_frameBook (s : State) (r : StopReason) :
    (s.enterStopped r).link.frameBook = s.link.frameBook.discard := by
  rw [← discardIntake_frameBook]
  unfold enterStopped
  dsimp only
  split <;> simp [Link.frameBook]

namespace FramesBalance

variable {s t : State}

theorem of_discard (h : FramesBalance s) (e : t.link.frameBook = s.link.frameBook.discard) : FramesBalance t := by
  rw [framesBalance_iff, e]
  exact (framesBalance_iff.mp h).discard

theorem enterStopped (h : FramesBalance s) (r : StopReason) : FramesBalance (s.enterStopped r) :=
  h.of_discard (State.enterStopped_frameBook s r)

theorem stopAtOnce (h : FramesBalance s) (c : CloseReason) (r : StopReason) : FramesBalance (s.stopAtOnce c r) :=
  have hd : FramesBalance s.discardIntake := h.of_discard (State.discardIntake_frameBook s)
  (hd.of_frameBook (State.closeSegment_frameBook _ c)).enterStopped r

theorem closeInCourse (h : FramesBalance s) (r : CloseReason) : FramesBalance (s.closeInCourse r) := by
  have hc : FramesBalance (s.closeSegment r) := h.of_frameBook (State.closeSegment_frameBook s r)
  unfold State.closeInCourse
  split
  · exact h
  · dsimp only
    split
    · exact hc.enterStopped _
    · exact hc

theorem testHeadMark (h : FramesBalance s) : FramesBalance s.testHeadMark := by
  have hm (f : Control → Control) : FramesBalance ((s.mapControl f).raise .headMark) := h.of_frameBook (by simp)
  unfold State.testHeadMark
  split
  · exact h
  · dsimp only
    split
    · split
      · split
        · exact h.of_frameBook (by simp)
        · exact (hm _).enterStopped _
      · exact hm _
    · exact h

theorem stopAtEnd (h : FramesBalance s) : FramesBalance s.stopAtEnd := by
  unfold State.stopAtEnd
  split
  · split
    · exact h.of_frameBook (by simp)
    · exact h.enterStopped _
  · exact h

theorem afterPlaced (h : FramesBalance s) (f : Frame) : FramesBalance (s.afterPlaced f) := by
  have hs : FramesBalance ((s.recordTrigger f).spendFrame f).sealFull := h.of_frameBook (by simp)
  unfold State.afterPlaced State.endFrame
  split
  · exact hs.closeInCourse _
  · split
    · exact hs.closeInCourse _
    · exact hs

end FramesBalance

/-- Outside Stopping a close in the course of capture is a close alone (R94). -/
theorem State.closeInCourse_of_not_stopping {s : State} (r : CloseReason) (h : s.control.capture ≠ .stopping) :
    s.closeInCourse r = s.closeSegment r := by
  unfold closeInCourse
  split
  · simp [closeSegment, *]
  · simp [h]

/-! ## Working the frame at the front -/

/-- The frame counters balance and a frame stands at the front of intake, to be placed or dropped. -/
structure FrameAtFront (s : State) : Prop where
  balance : FramesBalance s
  front : frameInFront s.link.intake = true

/-- What the Ring Manager grants has moved the ring alone. -/
theorem State.requestBlock_frameBook {s t : State} (h : s.requestBlock = .granted t) :
    t.link.frameBook = s.link.frameBook := by
  unfold requestBlock at h
  split at h
  · cases h
  split at h
  · cases h; rfl
  split at h
  · cases h
  split at h
  · cases h; simp
  · cases h; simp
  · cases h
  · cases h

/-- The state that making room leaves, whatever it comes to. -/
def RoomAnswer.state : RoomAnswer → State
  | .made s => s
  | .readBound s => s
  | .held s => s

theorem State.makeRoom_frameBook (s : State) (fuel : Nat) : (s.makeRoom fuel).state.link.frameBook = s.link.frameBook := by
  induction fuel generalizing s with
  | zero => unfold makeRoom; split <;> rfl
  | succ fuel ih =>
    unfold makeRoom
    split
    · rfl
    split
    · rfl
    split
    · rw [ih, recycleTail_link]
    · rw [ih, evictTail_frameBook]
    · rfl
    · rfl

namespace FrameAtFront

variable {s t : State}

theorem of_frameBook (h : FrameAtFront s) (e : t.link.frameBook = s.link.frameBook) : FrameAtFront t where
  balance := h.balance.of_frameBook e
  front := (congrArg (fun b => frameInFront b.intake) e).trans h.front

theorem dropFront (h : FrameAtFront s) : FramesBalance s.dropFront := by
  rw [framesBalance_iff, State.dropFront_frameBook]
  exact (framesBalance_iff.mp h.balance).dispose_leave h.front

theorem countPlaced (h : FrameAtFront s) (f : Frame) : FramesBalance (s.countPlaced f) := by
  rw [framesBalance_iff, State.countPlaced_frameBook]
  exact (framesBalance_iff.mp h.balance).dispose_leave h.front

theorem waitAtFront (h : FrameAtFront s) (x : Stage) : FramesBalance (s.waitAtFront x) :=
  h.balance.of_frameBook (by simp)

theorem exhaustLbn (h : FrameAtFront s) : FramesBalance s.exhaustLbn :=
  FramesBalance.enterStopped (h.dropFront.of_frameBook (by simp)) _

theorem overrun (h : FrameAtFront s) (f : Frame) : FramesBalance (s.overrun f) := by
  have hd : FramesBalance (s.dropFront.raiseNotice .overrunLoss) := h.dropFront.of_frameBook (by simp)
  have stops {u : State} (hu : FramesBalance u) :
      FramesBalance (if u.control.active.overrunPolicy = .stop then (u.closeSegment .overrun).enterStopped .overrun else u) := by
    split
    · exact FramesBalance.enterStopped (hu.of_frameBook (by simp)) _
    · exact hu
  unfold State.overrun
  dsimp only
  split
  · exact stops (hd.of_frameBook (by simp))
  · exact stops (hd.of_frameBook (by simp))

theorem indexFull (h : FrameAtFront s) : FramesBalance s.indexFull := by
  have hd : FramesBalance (s.dropFront.raiseNotice .indexFull).dropContinuation := h.dropFront.of_frameBook (by simp)
  unfold State.indexFull
  dsimp only
  split
  · exact hd.enterStopped _
  · exact hd

theorem finishOpening (h : FrameAtFront s) (before : Nat) (f : Frame) : FramesBalance (s.finishOpening before f) :=
  ((h.countPlaced f).of_frameBook (State.settleRing_frameBook _ before)).testHeadMark.afterPlaced f

theorem openWithBlock (h : FrameAtFront s) (before : Nat) (f : Frame) (loss : Option LossRecord) :
    FramesBalance (s.openWithBlock before f loss) := by
  have hs : FrameAtFront (s.settleRing before) := h.of_frameBook (by simp)
  unfold State.openWithBlock
  split
  next u granted =>
    have hu : FrameAtFront u := h.of_frameBook (State.requestBlock_frameBook granted)
    exact finishOpening (hu.of_frameBook (by simp [State.openSegment])) before f
  · exact exhaustLbn (hs.of_frameBook (by simp))
  · exact hs.waitAtFront _
  · exact hs.overrun f

theorem openWithRoom (h : FrameAtFront s) (before : Nat) (f : Frame) (loss : Option LossRecord) :
    FramesBalance (s.openWithRoom before f loss) := by
  have hr : FrameAtFront (s.makeRoom s.ring.blocks.length).state := h.of_frameBook (State.makeRoom_frameBook s _)
  have hs : FrameAtFront ((s.makeRoom s.ring.blocks.length).state.settleRing before) := hr.of_frameBook (by simp)
  unfold State.openWithRoom
  split
  next made => rw [made] at hr; exact hr.openWithBlock before f loss
  next readBound => rw [readBound] at hs; exact hs.waitAtFront _
  next held => rw [held] at hs; exact hs.indexFull

theorem beginSegment (h : FrameAtFront s) (before : Nat) (f : Frame) (loss : Option LossRecord) :
    FramesBalance (s.beginSegment before f loss) := by
  have numbered {u : State} (hu : FrameAtFront u) :
      FramesBalance (if lastSegment ≤ u.assembler.nextSegment then
        ((u.dropFront.raiseNotice .overrunLoss).dropContinuation).enterStopped .segmentNumberExhausted
        else u.openWithRoom before f loss) := by
    split
    · exact FramesBalance.enterStopped (hu.dropFront.of_frameBook (by simp)) _
    · exact hu.openWithRoom before f loss
  unfold State.beginSegment
  dsimp only
  split
  · exact numbered (h.of_frameBook (by simp [State.discardCarried]))
  · exact numbered h

theorem nextBlock (h : FrameAtFront s) (before : Nat) (e : Entry) (f : Frame) : FramesBalance (s.nextBlock before e f) := by
  unfold State.nextBlock
  split
  next u granted =>
    have hu : FrameAtFront u := h.of_frameBook (State.requestBlock_frameBook granted)
    exact finishOpening (hu.of_frameBook (by simp)) before f
  · exact h.exhaustLbn
  · exact h.waitAtFront _
  · exact h.overrun f

theorem placeFrame (h : FrameAtFront s) (before : Nat) (f : Frame) (loss : Option LossRecord) :
    FramesBalance (s.placeFrame before f loss) := by
  unfold State.placeFrame
  split
  next e _ =>
    unfold State.placeInSegment
    split
    next b _ =>
      split
      · exact (countPlaced (h.of_frameBook (t := s.appendPayload b f) (by simp)) f).afterPlaced f
      · exact nextBlock (h.of_frameBook (by simp)) before e f
    · exact h.nextBlock before e f
  · exact h.beginSegment before f loss

/-- A MissingEnd close that ends Stopping has discarded the frame with the rest of intake; after any other the frame still stands at the front. -/
theorem workFrame (h : FrameAtFront s) (f : Frame) (loss : Option LossRecord) : FramesBalance (s.workFrame f loss) := by
  have hl : FrameAtFront (s.recordLoss loss f.stamp) := h.of_frameBook (by simp)
  unfold State.workFrame
  dsimp only
  split
  · split
    · exact hl.balance.closeInCourse _
    next running =>
      rw [State.closeInCourse_of_not_stopping _ (by simpa using running)]
      exact placeFrame (hl.of_frameBook (by simp)) _ f loss
  · exact hl.placeFrame _ f loss

theorem resumeFrame (h : FrameAtFront s) (stage : Stage) (f : Frame) (loss : Option LossRecord) :
    FramesBalance (s.resumeFrame stage f loss) := by
  cases stage with
  | makeRoom => exact h.openWithRoom _ f loss
  | openBlock => exact h.openWithBlock _ f loss
  | nextBlock =>
    unfold State.resumeFrame
    dsimp only
    split
    · exact h.nextBlock _ _ f
    · exact h.balance

end FrameAtFront

theorem FramesBalance.workFront {s : State} (h : FramesBalance s) : FramesBalance s.workFront := by
  unfold State.workFront
  dsimp only
  split
  next f loss rest hfront =>
    have hf : FrameAtFront ((s.mapStore fun t => { t with admission := false }).mapAssembler fun a => { a with stage := none }) :=
      ⟨h.of_frameBook (by simp), by rw [hfront]; rfl⟩
    refine FramesBalance.of_frameBook ?_ (congrArg _ (State.present_link _))
    split
    · exact hf.workFrame f loss
    · exact hf.resumeFrame _ f loss
  · exact h.of_frameBook (by simp)

/-! ## The Sample Link -/

/-- What becomes of a frame that was received: it is disposed of, or it takes a place in intake (R31, R34, R37). -/
def FrameBook.Takes (b b' : FrameBook) : Prop :=
  b' = b.dispose ∨ ∃ x, x.isFrame = true ∧ b.held < 64 ∧ b' = b.join x

theorem State.offerFrame_takes (s : State) (f : Frame) (gap : Nat) :
    s.link.frameBook.Takes (s.offerFrame f gap).link.frameBook := by
  unfold offerFrame
  split
  · exact .inl (s.count_frameBook_dispose (fun _ => rfl) fun c => by simp only [StreamCounts.disposed]; ac_rfl)
  split
  next room =>
    exact .inr ⟨.frame f (addGapLoss s.link.pendingLoss gap), rfl, room, by simp [joinIntake, Link.frameBook, FrameBook.join]⟩
  · exact .inl (s.count_frameBook_dispose (f := fun c => { c with framesDroppedIntake := c.framesDroppedIntake + 1 })
      (fun _ => rfl) fun c => by simp only [StreamCounts.disposed]; ac_rfl)

@[simp] theorem State.expectAfter_frameBook (s : State) (f : Frame) :
    (s.expectAfter f).link.frameBook = s.link.frameBook :=
  rfl

/-- A bad or stale frame is counted and told (R31, R33). -/
theorem State.frameBad_frameBook (s : State) :
    ((s.count fun c => { c with framesBad := c.framesBad + 1 }).raiseNotice .linkFault).link.frameBook
      = s.link.frameBook.dispose := by
  rw [raiseNotice_link, count_frameBook_dispose]
  · exact fun _ => rfl
  · intro c; simp only [StreamCounts.disposed]; ac_rfl

theorem State.sequenceTest_takes (s : State) (f : Frame) :
    s.link.frameBook.Takes (s.sequenceTest f).link.frameBook := by
  have offered {u : State} (gap : Nat) (hu : u.link.frameBook = s.link.frameBook) :
      s.link.frameBook.Takes (u.offerFrame f gap).link.frameBook := hu ▸ u.offerFrame_takes f gap
  unfold sequenceTest
  split
  · exact offered 0 (by simp)
  dsimp only
  split
  · exact offered 0 (by simp)
  split
  · exact offered _ (by rw [State.expectAfter_frameBook, State.raiseNotice_link]; rfl)
  · exact .inl s.frameBad_frameBook

theorem FrameBook.Balanced.receive_takes {b b' : FrameBook} (h : b.Balanced) (ht : b.receive.Takes b') : b'.Balanced := by
  obtain rfl | ⟨x, hx, hroom, rfl⟩ := ht
  · exact h.receive_dispose
  · exact h.receive_join hroom hx

/-- A resync places at most a marker (R43). -/
theorem State.resync_frameBook (s : State) :
    s.resync.link.frameBook = s.link.frameBook
      ∨ ∃ x, x.isFrame = false ∧ s.resync.link.frameBook = s.link.frameBook.join x := by
  unfold resync
  dsimp only
  split
  · unfold placeResync
    split
    · exact .inl (by simp [Link.frameBook, StreamCounts.disposed])
    · exact .inr ⟨.resyncMarker s.link.pendingLoss, rfl, by simp [Link.frameBook, FrameBook.join, StreamCounts.disposed]⟩
  · exact .inl (by simp [Link.frameBook, StreamCounts.disposed])

namespace FramesBalance

variable {s : State}

theorem receive (h : FramesBalance s) (bytes : List Byte) : FramesBalance (s.receive bytes) := by
  have taken {t : State} (ht : s.link.frameBook.receive.Takes t.link.frameBook) : FramesBalance t :=
    framesBalance_iff.mpr ((framesBalance_iff.mp h).receive_takes ht)
  unfold State.receive
  dsimp only
  split
  · exact taken (State.sequenceTest_takes _ _)
  · exact taken (.inl (State.frameBad_frameBook _))

theorem resync (h : FramesBalance s) : FramesBalance s.resync := by
  obtain e | ⟨x, hx, e⟩ := s.resync_frameBook
  · exact h.of_frameBook e
  · rw [framesBalance_iff, e]
    exact (framesBalance_iff.mp h).join_marker hx

theorem startOrderlyHalt (h : FramesBalance s) : FramesBalance s.startOrderlyHalt :=
  framesBalance_iff.mpr ((framesBalance_iff.mp h).join_marker (x := .haltMarker s.link.pendingLoss) rfl)

theorem takeHalt (h : FramesBalance s) : FramesBalance s.takeHalt := by
  unfold State.takeHalt
  split
  · split
    · exact h.stopAtOnce _ _
    · split
      · exact h
      · exact h.startOrderlyHalt
  · exact h

theorem takeMarker (h : FramesBalance s) {x : IntakeItem} {rest : List IntakeItem} (hs : s.link.intake = x :: rest)
    (hx : x.isFrame = false) : FramesBalance s.takeMarker :=
  framesBalance_iff.mpr ((framesBalance_iff.mp h).leave_marker hs hx)

end FramesBalance

/-! ## Acts and requests -/

@[simp] theorem State.reject_link (s : State) (p : Port) (tag : Byte) (kind : BitVec 8) (status : Status) :
    (s.reject p tag kind status).link = s.link :=
  rfl

namespace FramesBalance

variable {s : State} {f : State → State}

theorem act (h : FramesBalance s) (hf : ∀ u, FramesBalance u → FramesBalance (f u)) :
    FramesBalance (s.act f) :=
  (hf s.beginAct h).of_frameBook (by simp [State.act])

/-- A request keeps the balance when its owning block's act does: its port's tests reach no frame. -/
theorem request (h : FramesBalance s) {p : Port} {kind : RequestKind} {hd : Header} {n : Nat}
    (hf : ∀ u, FramesBalance u → FramesBalance (f u)) : FramesBalance (s.request p kind hd n f) := by
  have ha : FramesBalance (s.arrive p) := h.of_frameBook (by simp)
  have ho : FramesBalance ((s.arrive p).occupy p hd.tag kind) := ha.of_frameBook (by simp)
  unfold State.request
  dsimp only
  refine FramesBalance.of_frameBook ?_ (congrArg _ (State.endAct_link _))
  split
  · exact ha.of_frameBook (by simp)
  split
  · exact ha.of_frameBook (by simp)
  split
  · exact ha.of_frameBook (by simp)
  split
  · exact ho.of_frameBook (by simp)
  · exact hf _ ho

theorem act_of_frameBook (h : FramesBalance s) (hf : ∀ u, (f u).link.frameBook = u.link.frameBook) :
    FramesBalance (s.act f) :=
  h.act fun u hu => hu.of_frameBook (hf u)

theorem request_of_frameBook (h : FramesBalance s) {p : Port} {kind : RequestKind} {hd : Header} {n : Nat}
    (hf : ∀ u, (f u).link.frameBook = u.link.frameBook) : FramesBalance (s.request p kind hd n f) :=
  h.request fun u hu => hu.of_frameBook (hf u)

end FramesBalance

/-! ## What the commands' acts do to the book -/

namespace State

@[simp] theorem startCapture_frameBook (s : State) : s.startCapture.link.frameBook = s.link.frameBook :=
  rfl

@[simp] theorem stage_frameBook (s : State) (p : Profile) : (s.stage p).link.frameBook = s.link.frameBook := by
  unfold stage
  dsimp only
  split <;> simp

@[simp] theorem checkRead_link (s : State) (h : Header) (id : Fin 8) (r : PinRange) (lbn offset length : Nat) :
    (s.checkRead h id r lbn offset length).link = s.link := by
  unfold checkRead
  dsimp only
  (repeat' split) <;> simp

@[simp] theorem takePin_frameBook (s : State) (id : Fin 8) (r : PinRange) :
    (s.takePin id r).link.frameBook = s.link.frameBook := by
  simp [takePin]

@[simp] theorem beginChange_link (s : State) (g : Fin 16) : (s.beginChange g).link = s.link := by
  unfold beginChange
  split <;> simp

@[simp] theorem endFirstPhase_link (s : State) (g : Fin 16) : (s.endFirstPhase g).link = s.link := by
  unfold endFirstPhase
  split <;> simp

@[simp] theorem applyChanges_link (s : State) : s.applyChanges.link = s.link := by
  unfold applyChanges
  rw [foldl_keeps _ State.link endFirstPhase_link, foldl_keeps _ State.link beginChange_link]

@[simp] theorem putMap_frameBook (s : State) (map : List (Fin 16)) : (s.putMap map).link.frameBook = s.link.frameBook := by
  simp [putMap]

@[simp] theorem reform_frameBook (s : State) : s.reform.link.frameBook = s.link.frameBook := by
  simp [reform]

@[simp] theorem parkTake_link (s : State) (ctx : Fin 4) (tag : Byte) : (s.parkTake ctx tag).link = s.link := by
  simp [parkTake]

@[simp] theorem takeFrom_link (s : State) (h : Header) (ctx : Fin 4) (w : Window) (wait : Bool) :
    (s.takeFrom h ctx w wait).link = s.link := by
  unfold takeFrom
  (repeat' split) <;> simp

@[simp] theorem confirmBlock_frameBook (s : State) (b : Block) (withLoss : Bool) :
    (s.confirmBlock b withLoss).link.frameBook = s.link.frameBook := by
  unfold confirmBlock markLoss
  split <;> simp

@[simp] theorem returnOne_link (s : State) (b : Block) : (s.returnOne b).link = s.link := by
  simp [returnOne]

@[simp] theorem cancelTake_link (s : State) (ctx : Fin 4) : (s.cancelTake ctx).link = s.link := by
  unfold cancelTake
  split <;> simp

@[simp] theorem closeOne_link (s : State) (ctx : Fin 4) : (s.closeOne ctx).link = s.link := by
  unfold closeOne
  rw [putContext_link, foldl_keeps _ State.link returnOne_link, cancelTake_link]

@[simp] theorem takeWait_link (s : State) (i : Fin 8) (w : ParkedWait) : (s.takeWait i w).link = s.link := by
  unfold takeWait parkWait
  (repeat' split) <;> simp

@[simp] theorem manageNotices_link (s : State) (p : Port) (h : Header) (kind : RequestKind) (kinds : BitVec 16)
    (f : NoticeSet → NoticeUnit → NoticeUnit) : (s.manageNotices p h kind kinds f).link = s.link := by
  unfold manageNotices
  split <;> simp

@[simp] theorem resetOwners_frameBook (s : State) (p : Port) : (s.resetOwners p).link.frameBook = s.link.frameBook := by
  cases p with
  | viewer =>
    simp only [resetOwners, resetViewer, reband_frameBook]
    rw [foldl_keeps _ State.link dropPin_link, mapStore_link]
  | archive => rfl

@[simp] theorem resetPort_frameBook (s : State) (p : Port) : (s.resetPort p).link.frameBook = s.link.frameBook := by
  have hw : ((s.discardSlots p).dropWaits p).link = s.link := s.mapPort_link p _
  simp [resetPort, discardReads, hw]

@[simp] theorem issueRead_link (s : State) (p : Port) (tag : Byte) (op : Operation) (lbn offset length : Nat) :
    (s.issueRead p tag op lbn offset length).link = s.link := by
  simp [issueRead]

@[simp] theorem grantFetch_link (s : State) (r : FetchRequest) : (s.grantFetch r).link = s.link := by
  unfold grantFetch
  (repeat' split) <;> simp

@[simp] theorem grantRead_link (s : State) (r : ReadRequest) : (s.grantRead r).link = s.link := by
  unfold grantRead
  (repeat' split) <;> simp

@[simp] theorem popInFlight_link (s : State) : s.popInFlight.link = s.link :=
  rfl

@[simp] theorem storePayload_link (s : State) (address : Nat) (payload : List Byte) :
    (s.storePayload address payload).link = s.link :=
  rfl

@[simp] theorem countCorrected_frameBook (s : State) (units : List UnitResult) :
    (s.countCorrected units).link.frameBook = s.link.frameBook :=
  rfl

@[simp] theorem answerRead_link (s : State) (e : InFlight) (kind : RequestKind) (clamped failed : Bool) (result : Result)
    (data : List Byte) : (s.answerRead e kind clamped failed result data).link = s.link := by
  unfold answerRead
  (repeat' split) <;> simp

@[simp] theorem markDamaged_frameBook (s : State) (lbn : Nat) : (s.markDamaged lbn).link.frameBook = s.link.frameBook := by
  unfold markDamaged
  dsimp only
  split <;> simp [Link.frameBook, StreamCounts.disposed]

@[simp] theorem endRead_link (s : State) (lbn : Nat) (g : Fin 16) : (s.endRead lbn g).link = s.link := by
  unfold endRead wakeAssembler
  split <;> simp

@[simp] theorem completeRead_frameBook (s : State) (e : InFlight) (units : List UnitResult) (kind : RequestKind)
    (clamped : Bool) (result : Result) : (s.completeRead e units kind clamped result).link.frameBook = s.link.frameBook := by
  unfold completeRead
  dsimp only
  split <;> simp

end State

/-- Stop acts by its Mode: at once, or at the segment's end (R92, R93). -/
theorem FramesBalance.takeStop {s : State} (h : FramesBalance s) (hd : Header) (mode : BitVec 8) :
    FramesBalance (s.takeStop hd mode) := by
  unfold State.takeStop
  split
  · exact h.of_frameBook (by simp)
  dsimp only
  split
  · refine FramesBalance.of_frameBook ?_ (congrArg _ (State.answer_link ..))
    split
    · exact h.stopAtOnce _ _
    · exact h.stopAtEnd
  · exact h.of_frameBook (by simp)

/-! ## The commands -/

/-- Every command keeps the balance: most reach no frame and leave the book as it is, a device reset starts it afresh, and the others are those of
the Sample Link, of the working of intake, and those that may end capture. -/
theorem exec_framesBalance {s : State} (h : FramesBalance s) (c : Instr) :
    ∃ t, exec c s = .next t ∧ FramesBalance t := by
  cases c with
  | start hd | flush hd | stageProfile hd p | readProfile hd which | clearHeadMark hd | unpin hd
  | read hd lbn offset length | setGroupNext hd next | applyGroups hd | setGroupMap hd span groups | reform hd
  | openContext hd first length | closeContext hd | take hd wait | fetch hd lbn offset length | confirm hd lbn withLoss
  | returnBlock hd lbn | setArchiveMark hd lbn | clearArchiveMark hd | setFlagSource p hd source | post p hd
  | wait p hd mode timeout | clearFlag p hd | readIndex p hd first count | readStatus p hd | readCounts p hd
  | setNoticeMask p hd kinds | clearNotice p hd kinds | forceNotice p hd kinds =>
    exact ⟨_, rfl, h.request_of_frameBook fun u => by (repeat' split) <;> simp⟩
  | pin hd first count =>
    exact ⟨_, rfl, h.request_of_frameBook fun u => by dsimp only; (repeat' split) <;> simp⟩
  | portLinkDown p cameUp | idleFlushExpiry | waitTimeout flag p tag | groupSettle group | fetchGrant | readGrant
  | admissionWriteCompletion | fetchCompletion units | readCompletion units =>
    exact ⟨_, rfl, h.act_of_frameBook fun u => by (repeat' split) <;> simp⟩
  | resetPort p hd | unsupportedKind p kind hd =>
    exact ⟨_, rfl, h.of_frameBook (by (repeat' split) <;> simp)⟩
  | haltRelease => exact ⟨_, rfl, h.act_of_frameBook fun u => rfl⟩
  | deviceReset levels => exact ⟨_, rfl, rfl, Nat.zero_le 64⟩
  | stopAtSegmentEnd hd mode | stopNow hd mode => exact ⟨_, rfl, h.request fun u hu => hu.takeStop hd mode⟩
  | setHeadMark hd lbn action =>
    refine ⟨_, rfl, h.request fun u hu => ?_⟩
    split
    · exact (FramesBalance.testHeadMark (hu.of_frameBook (by simp))).of_frameBook (congrArg _ (State.answer_link ..))
    · exact hu.of_frameBook (by simp)
  | frameArrival bytes => exact ⟨_, rfl, h.act fun u hu => hu.receive bytes⟩
  | resyncMarker => exact ⟨_, rfl, h.act fun u hu => FramesBalance.resync (hu.of_frameBook rfl)⟩
  | linkLockLoss relocked =>
    refine ⟨_, rfl, h.act fun u hu => ?_⟩
    split
    · exact FramesBalance.resync (hu.of_frameBook rfl)
    · exact hu
  | haltAssertion =>
    refine ⟨_, rfl, h.act fun u hu => ?_⟩
    split
    · exact hu
    · exact FramesBalance.takeHalt (hu.of_frameBook rfl)
  | admissionGrant =>
    refine ⟨_, rfl, h.act fun u hu => ?_⟩
    split
    · exact hu.workFront
    · exact hu
  | haltMarkerWorked =>
    refine ⟨_, rfl, h.act fun u hu => ?_⟩
    split
    next loss rest front =>
      exact FramesBalance.enterStopped ((hu.takeMarker front rfl).of_frameBook (by simp)) .halt
    · exact hu
  | resyncMarkerWorked =>
    refine ⟨_, rfl, h.act fun u hu => ?_⟩
    split
    next loss rest front =>
      have hm : FramesBalance (u.takeMarker.recordLoss loss none) := (hu.takeMarker front rfl).of_frameBook (by simp)
      exact (hm.closeInCourse .linkReset).of_frameBook (by simp)
    · exact hu

end Sys2Proof.Machine

namespace Sys2Proof.Proofs
open Sys2Proof.Machine

/-- Settles O51, by the book each command leaves: the waiting commands are no part of it, and every command keeps its balance. -/
theorem everyStepKeepsTheFrameBalance : Obligations.EveryStepKeepsTheFrameBalance := by
  intro s t h hst
  unfold step at hst
  split at hst
  · cases hst
    exact h
  next c rest _ =>
    have hq : FramesBalance { s with pending := rest } := h
    obtain ⟨u, hu, hbalance⟩ := exec_framesBalance hq c
    cases hu.symm.trans hst
    exact hbalance

end Sys2Proof.Proofs

/-!
What the four reads answer (R88, R106, R201, R202). First stand the bounds of ArchiveFront, HoldFloor and Headroom under the forms of the ring and of the
pins, which the status record shows; then each read by the rows of its answer.
-/
namespace Sys2Proof.Machine

/-! ## The bounds of ArchiveFront, HoldFloor and Headroom (R13, R14) -/

variable {s : State}

/-- The held blocks are those with LBN in [Tail, Head) (R6). -/
theorem RingForm.held_bounds (h : RingForm s) {b : Block} (hb : b ∈ s.ring.blocks) :
    s.ring.tail ≤ b.lbn ∧ b.lbn < s.ring.head := by
  obtain ⟨-, -, hle, -, -, hlbns, -⟩ := h
  have hmem : b.lbn ∈ List.range' s.ring.tail (s.ring.head - s.ring.tail) := hlbns ▸ List.mem_map_of_mem hb
  rw [List.mem_range'_1] at hmem
  omega

/-- ArchiveFront is the LBN of a held block, or Head (R13). -/
theorem State.archiveFront_cases (s : State) :
    (∃ b ∈ s.ring.blocks, s.archiveFront = b.lbn) ∨ s.archiveFront = s.ring.head := by
  unfold archiveFront
  split
  next b hb => exact .inl ⟨b, List.mem_of_find?_eq_some hb, rfl⟩
  next => exact .inr rfl

theorem RingForm.archiveFront_bounds (h : RingForm s) : s.ring.tail ≤ s.archiveFront ∧ s.archiveFront ≤ s.ring.head := by
  obtain ⟨b, hb, e⟩ | e := s.archiveFront_cases
  · have := h.held_bounds hb
    omega
  · obtain ⟨-, -, hle, -⟩ := h
    omega

theorem le_minWith {a n : Nat} {o : Option Nat} : a ≤ minWith n o ↔ a ≤ n ∧ ∀ m ∈ o, a ≤ m := by
  cases o <;> simp [minWith]

/-- The lower bounds of a number made smaller by each Range First of a list of pins. -/
theorem le_foldl_minWith {a : Nat} (pins : List (Option PinRange)) (n : Nat) :
    a ≤ pins.foldl (fun n p => minWith n (p.map PinRange.first)) n
      ↔ a ≤ n ∧ ∀ r ∈ pins.filterMap id, a ≤ r.first := by
  induction pins generalizing n with
  | nil => simp
  | cons p rest ih =>
    rw [List.foldl_cons, ih, le_minWith]
    cases p <;> simp [and_assoc]

/-- The lower bounds of HoldFloor are those of ArchiveFront and of every Live pin's Range First (R14). -/
theorem State.le_holdFloor {a : Nat} :
    a ≤ s.holdFloor ↔ a ≤ s.archiveFront ∧ ∀ r ∈ s.pins.toList.filterMap id, a ≤ r.first :=
  le_foldl_minWith _ _

theorem State.holdFloor_le_archiveFront (s : State) : s.holdFloor ≤ s.archiveFront :=
  (le_holdFloor.mp le_rfl).1

/-- No pin reaches below Tail, so HoldFloor does not. -/
theorem PinForm.tail_le_holdFloor (hp : PinForm s) (hr : RingForm s) : s.ring.tail ≤ s.holdFloor :=
  State.le_holdFloor.mpr ⟨hr.archiveFront_bounds.1, fun r hmem => (hp.1 r hmem).1⟩

/-- Headroom and the blocks from HoldFloor on make up the ring (R14): no more than C blocks are held, and HoldFloor is not below Tail. -/
theorem PinForm.headroom_add (hp : PinForm s) (hr : RingForm s) : s.headroom + (s.ring.head - s.holdFloor) = s.capacity := by
  have hfloor := hp.tail_le_holdFloor hr
  obtain ⟨-, -, -, hheld, -⟩ := hr
  exact Nat.sub_add_cancel (by omega)

/-! ## ReadIndex (R88) -/

theorem State.indexAnswer_nil (hi : s.index = []) (first count : Nat) : s.indexAnswer first count = (.empty, []) := by
  simp [indexAnswer, hi]

section
variable {oldest newest : Entry} {first : Nat}

theorem State.indexAnswer_above (ho : s.index.head? = some oldest) (hn : s.index.getLast? = some newest)
    (above : newest.number < first) (count : Nat) : s.indexAnswer first count = (.empty, []) := by
  simp [indexAnswer, ho, hn, above]

theorem State.indexAnswer_below (ho : s.index.head? = some oldest) (hn : s.index.getLast? = some newest)
    (hle : first ≤ newest.number) (below : first < oldest.number) (count : Nat) :
    s.indexAnswer first count = (.adjusted, s.index.take count) := by
  simp [indexAnswer, ho, hn, hle.not_gt, below]

theorem State.indexAnswer_within (ho : s.index.head? = some oldest) (hn : s.index.getLast? = some newest)
    (hle : first ≤ newest.number) (hge : oldest.number ≤ first) (count : Nat) :
    s.indexAnswer first count = (.ok, (s.index.filter fun e => first ≤ e.number).take count) := by
  simp [indexAnswer, ho, hn, hle.not_gt, hge.not_gt]

end

theorem exec_readIndex_badParam {p : Port} {h : Header} {first : BitVec 64} {count : BitVec 8} (ht : Taken s p h 9)
    (hc : count.toNat = 0 ∨ 16 < count.toNat) :
    exec (.readIndex p h first count) s = .next (s.refused p h .readIndex .badParam) :=
  congrArg Host.Outcome.next (State.request_refuse ht (if_pos hc))

theorem exec_readIndex {p : Port} {h : Header} {first : BitVec 64} {count : BitVec 8} (ht : Taken s p h 9)
    (hc : 1 ≤ count.toNat) (hc' : count.toNat ≤ 16) :
    exec (.readIndex p h first count) s
      = .next (s.answered p h .readIndex (s.indexAnswer first.toNat count.toNat).1
          (.index s.index.length (s.index.head?.map Entry.number) s.assembler.nextSegment
            (s.indexAnswer first.toNat count.toNat).2)) := by
  refine congrArg Host.Outcome.next (State.request_answer ht ht.2.2.2 ?_)
  dsimp only
  rw [if_neg (by omega)]
  simp

/-! ## ReadStatus and ReadCounts (R201, R202) -/

@[simp] theorem State.opened_statusRecord (s : State) (p : Port) (h : Header) (k : RequestKind) :
    (s.opened p h k).statusRecord p = s.statusRecord p := by
  cases p <;> rfl

theorem exec_readStatus {p : Port} {h : Header} (ht : Taken s p h 0) :
    exec (.readStatus p h) s = .next (s.answered p h .readStatus .ok (.status (s.statusRecord p))) :=
  congrArg Host.Outcome.next (State.request_answer ht ht.2.2.2 (by simp))

theorem exec_readCounts {p : Port} {h : Header} (ht : Taken s p h 0) :
    exec (.readCounts p h) s = .next (s.answered p h .readCounts .ok (.counts s.link.counts s.occupancy)) :=
  congrArg Host.Outcome.next (State.request_answer ht ht.2.2.2 (by simp))

/-! ## ReadProfile (R106) -/

/-- The Clamped set: each of the three fields that R104 can clamp, where its effective value is not the requested one. -/
theorem Profile.mem_clamped {effective requested values : Profile} {c : ClampedField} :
    c ∈ effective.clamped requested values
      ↔ (c = .pressed values.pressed ∧ effective.pressed ≠ requested.pressed)
          ∨ (c = .critical values.critical ∧ effective.critical ≠ requested.critical)
          ∨ (c = .sliceLength values.sliceLength ∧ effective.sliceLength ≠ requested.sliceLength) := by
  have mem_if {p : Prop} [Decidable p] {x : ClampedField} : (c ∈ if p then [x] else []) ↔ c = x ∧ p := by
    split <;> simp [*]
  simp only [clamped, List.mem_append, mem_if, or_assoc]

theorem exec_readProfile_active {h : Header} (ht : Taken s .viewer h 1) :
    exec (.readProfile h 0) s
      = .next (s.answered .viewer h .readProfile
          (if s.control.active.clamped s.control.requested s.control.requested = [] then .ok else .adjusted)
          (.activeProfile s.control.active (s.control.active.clamped s.control.requested s.control.requested))) :=
  congrArg Host.Outcome.next (State.request_answer ht ht.2.2.2 (by simp))

theorem exec_readProfile_staged {h : Header} (ht : Taken s .viewer h 1) :
    exec (.readProfile h 1) s
      = .next (s.answered .viewer h .readProfile .ok (.stagedProfile s.control.staged s.control.swapPending)) :=
  congrArg Host.Outcome.next (State.request_answer ht ht.2.2.2 (by simp))

theorem exec_readProfile_badParam {h : Header} {which : BitVec 8} (ht : Taken s .viewer h 1) (h0 : which ≠ 0)
    (h1 : which ≠ 1) : exec (.readProfile h which) s = .next (s.refused .viewer h .readProfile .badParam) :=
  congrArg Host.Outcome.next (State.request_refuse ht ((if_neg h0).trans (if_neg h1)))

end Sys2Proof.Machine

namespace Sys2Proof.Proofs
open Sys2Proof.Machine

/-- Settles O11. Each read is taken and answered from the state as it stands; the laws of the status record are the bounds of HoldFloor and
ArchiveFront, and those of the band are the state's own band form. -/
theorem readsAnswerAndChangeNothing : Obligations.ReadsAnswerAndChangeNothing := by
  refine ⟨fun p h first count s ht => ⟨exec_readIndex_badParam ht, fun hc hc' => ?_⟩,
    ⟨fun p h s ht => ⟨exec_readStatus ht, exec_readCounts ht⟩, ?_⟩, fun h which s ht => ⟨?_, ?_, exec_readProfile_badParam ht⟩⟩
  · refine ⟨_, _, exec_readIndex ht hc hc', fun hi => Prod.ext_iff.mp (State.indexAnswer_nil hi _ _),
      fun oldest newest ho hn => ⟨fun above => ?_, fun hle below => ?_, fun hle hge => ?_⟩⟩
    · exact Prod.ext_iff.mp (State.indexAnswer_above ho hn above _)
    · exact Prod.ext_iff.mp (State.indexAnswer_below ho hn hle below _)
    · exact Prod.ext_iff.mp (State.indexAnswer_within ho hn hle hge _)
  · rintro p s hr hp _ rfl
    obtain ⟨tail_le_front, front_le_head⟩ := hr.archiveFront_bounds
    have ⟨_, _, _, held_le_capacity, _⟩ := hr
    refine ⟨tail_le_front, front_le_head, held_le_capacity, hp.tail_le_holdFloor hr,
      s.holdFloor_le_archiveFront.trans front_le_head, hp.headroom_add hr, ?_⟩
    rintro ⟨-, -, -, -, agrees⟩ _ _ _ rfl rfl rfl
    exact agrees
  · rintro rfl
    exact ⟨_, exec_readProfile_active ht, fun _ => Profile.mem_clamped⟩
  · rintro rfl
    exact exec_readProfile_staged ht

end Sys2Proof.Proofs

/-!
The two marks of Capture Control (R107, R108, R109). Three layers stand before them, each about operations that every request which raises an event
shares: what an event is to the flags, the ports and the responses; what a request's own answer adds; and what an entry to Stopped leaves.
-/
namespace Sys2Proof.Machine

variable {s t u : State} {p : Port} {h : Header} {k : RequestKind}

/-! ## What answers do (R193, R196) -/

@[simp] theorem State.answer_notices (s : State) (p q : Port) (tag : Byte) (k : RequestKind) (st : Status) (r : Result) :
    ((s.answer q tag k st r).port p).notices = (s.port p).notices := by
  cases p <;> cases q <;> rfl

@[simp] theorem State.answer_linkUp (s : State) (p q : Port) (tag : Byte) (k : RequestKind) (st : Status) (r : Result) :
    ((s.answer q tag k st r).port p).linkUp = (s.port p).linkUp := by
  cases p <;> cases q <;> rfl

/-- An answer frees the slots of its port that have its tag, and no others. -/
theorem State.mem_answer_slots {q : Port} {tag : Byte} {st : Status} {r : Result} {x : Slot} :
    x ∈ ((s.answer q tag k st r).port p).slots ↔ x ∈ (s.port p).slots ∧ (q = p → tag ≠ x.tag) := by
  cases p <;> cases q <;>
    simp [State.answer, State.answerWith, State.freeSlot, State.mapPort, State.send, State.port, ne_comm]

@[simp] theorem State.answer_unsignalled (s : State) (p : Port) (tag : Byte) (k : RequestKind) (st : Status) (r : Result) :
    (s.answer p tag k st r).unsignalled = s.unsignalled := by
  cases p <;> rfl

theorem State.answer_sent (s : State) (p : Port) (tag : Byte) (k : RequestKind) (st : Status) (r : Result) :
    (s.answer p tag k st r).sent
      = s.sent ++ [{ port := p, tag := tag, kind := k.code, status := st, top := none, result := r, data := [] }] := by
  cases p <;> rfl

/-- The slots that stay through a run of acts each of which keeps those that meet its own condition. -/
theorem mem_foldl_slots {α : Type} {f : State → α → State} {x : Slot} {P : α → Prop}
    (hf : ∀ s a, x ∈ ((f s a).port p).slots ↔ x ∈ (s.port p).slots ∧ P a) (l : List α) :
    x ∈ ((l.foldl f s).port p).slots ↔ x ∈ (s.port p).slots ∧ ∀ a ∈ l, P a := by
  induction l generalizing s with
  | nil => simp
  | cons a l ih => simp [ih, hf, and_assoc]

/-! ## What an event does (R184, R188, R191) -/

/-- The step an event takes at one flag: the flag is set when its Source names the event. -/
def State.signalFlag (e : Event) (s : State) (i : Fin 8) : State :=
  if s.flags[i].source = e.source then s.setFlag i else s

/-- A flag of an event, as the event leaves it, with its waits not yet answered. -/
def State.moveFlag (e : Event) (s : State) (i : Fin 8) : State :=
  s.putFlag i (s.flags[i].afterEvent e)

/-- The waits of one flag that an event completes, in the order of R188. -/
def State.waitsServedAt (s : State) (e : Event) (i : Fin 8) : List (Fin 8 × ParkedWait × Bool) :=
  if s.flags[i].source = e.source ∧ s.flags[i].value = false then
    (serveWaits s.flags[i].waits).served.map fun done => (i, done)
  else []

/-- Waits of several flags complete with OK, in turn. -/
def State.completeWaits (s : State) (served : List (Fin 8 × ParkedWait × Bool)) : State :=
  served.foldl (fun s d => s.completeWait d.1 d.2) s

theorem State.raise_eq_foldl (s : State) (e : Event) :
    s.raise e = (List.finRange 8).foldl (State.signalFlag e) (s.raiseNotice e.notice) := rfl

theorem State.waitsServed_eq (s : State) (e : Event) : s.waitsServed e = (List.finRange 8).flatMap (s.waitsServedAt e) := rfl

theorem State.waitsServedAt_congr {e : Event} {i : Fin 8} (hi : t.flags[i] = s.flags[i]) :
    t.waitsServedAt e i = s.waitsServedAt e i := by
  simp only [waitsServedAt, hi]

@[simp] theorem State.completeWaits_flags (s : State) (served : List (Fin 8 × ParkedWait × Bool)) :
    (s.completeWaits served).flags = s.flags :=
  foldl_keeps _ State.flags (by simp) _ _

@[simp] theorem State.completeWaits_notices (s : State) (served : List (Fin 8 × ParkedWait × Bool)) (p : Port) :
    ((s.completeWaits served).port p).notices = (s.port p).notices :=
  foldl_keeps _ (fun u : State => (u.port p).notices) (fun _ _ => answer_notices ..) _ _

@[simp] theorem State.completeWaits_linkUp (s : State) (served : List (Fin 8 × ParkedWait × Bool)) (p : Port) :
    ((s.completeWaits served).port p).linkUp = (s.port p).linkUp :=
  foldl_keeps _ (fun u : State => (u.port p).linkUp) (fun _ _ => answer_linkUp ..) _ _

@[simp] theorem State.completeWaits_unsignalled (s : State) (served : List (Fin 8 × ParkedWait × Bool)) :
    (s.completeWaits served).unsignalled = s.unsignalled :=
  foldl_keeps _ State.unsignalled (fun _ _ => answer_unsignalled ..) _ _

theorem State.mem_completeWaits_slots {served : List (Fin 8 × ParkedWait × Bool)} {x : Slot} :
    x ∈ ((s.completeWaits served).port p).slots
      ↔ x ∈ (s.port p).slots ∧ ∀ d ∈ served, d.2.1.port = p → d.2.1.tag ≠ x.tag :=
  mem_foldl_slots (f := fun s d => s.completeWait d.1 d.2) (P := fun d => d.2.1.port = p → d.2.1.tag ≠ x.tag)
    (fun _ _ => mem_answer_slots) served

/-- Completing a wait and replacing a flag do not meet. -/
theorem State.completeWait_putFlag (s : State) (i j : Fin 8) (d : ParkedWait × Bool) (f : SyncFlag) :
    (s.putFlag i f).completeWait j d = (s.completeWait j d).putFlag i f := by
  obtain ⟨⟨p, _⟩, _⟩ := d
  cases p <;> rfl

theorem State.moveFlag_completeWaits (s : State) (e : Event) (i : Fin 8) (served : List (Fin 8 × ParkedWait × Bool)) :
    (s.completeWaits served).moveFlag e i = (s.moveFlag e i).completeWaits served := by
  refine (List.foldl_hom (State.moveFlag e · i) fun u d => ?_).symm
  simp only [moveFlag, completeWait_putFlag, completeWait_flags]

theorem SyncFlag.afterEvent_of_served {f : SyncFlag} {e : Event} (hf : f.source = e.source ∧ f.value = false) :
    f.afterEvent e = { f with value := (serveWaits f.waits).value, waits := (serveWaits f.waits).kept } := by
  simp [afterEvent, afterSet, hf]

theorem SyncFlag.afterEvent_of_not_served {f : SyncFlag} {e : Event} (hf : ¬(f.source = e.source ∧ f.value = false)) :
    f.afterEvent e = f := by
  unfold afterEvent
  split
  next hsource => exact if_pos (by simpa using fun hvalue => hf ⟨hsource, hvalue⟩)
  next => rfl

/-- The step at one flag is moving it and then completing its waits. -/
theorem State.signalFlag_eq (s : State) (e : Event) (i : Fin 8) :
    s.signalFlag e i = (s.moveFlag e i).completeWaits (s.waitsServedAt e i) := by
  by_cases hserved : s.flags[i].source = e.source ∧ s.flags[i].value = false
  · obtain ⟨hsource, hvalue⟩ := hserved
    rw [signalFlag, if_pos hsource, setFlag, if_neg (by rw [hvalue]; decide), waitsServedAt, if_pos ⟨hsource, hvalue⟩,
      completeWaits, List.foldl_map, moveFlag, SyncFlag.afterEvent_of_served ⟨hsource, hvalue⟩]
  · have hmove : s.moveFlag e i = s := by
      rw [moveFlag, SyncFlag.afterEvent_of_not_served hserved, putFlag, Fin.getElem_fin, Vector.set_getElem_self]
    rw [waitsServedAt, if_neg hserved, hmove, signalFlag, setFlag]
    split
    next hsource => exact if_pos (by simpa using fun hvalue => hserved ⟨hsource, hvalue⟩)
    next => rfl

/-- Setting several different flags is moving them all and then completing their waits in turn. -/
theorem State.foldl_signalFlag (e : Event) {l : List (Fin 8)} (hl : l.Nodup) (s : State) :
    l.foldl (State.signalFlag e) s
      = (l.foldl (State.moveFlag e) s).completeWaits (l.flatMap (s.waitsServedAt e)) := by
  induction l generalizing s with
  | nil => rfl
  | cons i l ih =>
    obtain ⟨hi, hl⟩ := List.nodup_cons.mp hl
    have hserved : l.flatMap ((s.signalFlag e i).waitsServedAt e) = l.flatMap (s.waitsServedAt e) := by
      refine List.flatMap_congr fun j hj => State.waitsServedAt_congr ?_
      have hij : (i : Nat) ≠ j := fun e => hi (Fin.ext e ▸ hj)
      simp [signalFlag_eq, moveFlag, putFlag, hij]
    have hmoved (v : State) (w) :
        l.foldl (State.moveFlag e) (v.completeWaits w) = (l.foldl (State.moveFlag e) v).completeWaits w :=
      List.foldl_hom (State.completeWaits · w) fun u j => u.moveFlag_completeWaits e j w
    rw [List.foldl_cons, ih hl, hserved, signalFlag_eq, hmoved, List.foldl_cons, List.flatMap_cons, completeWaits,
      completeWaits, completeWaits, List.foldl_append]

/-- Moving several different flags reaches the flags alone. -/
theorem State.foldl_moveFlag (e : Event) {l : List (Fin 8)} (hl : l.Nodup) (s : State) :
    l.foldl (State.moveFlag e) s
      = { s with flags := Vector.ofFn fun i => if i ∈ l then s.flags[i].afterEvent e else s.flags[i] } := by
  induction l generalizing s with
  | nil => simp
  | cons i l ih =>
    obtain ⟨hi, hl⟩ := List.nodup_cons.mp hl
    rw [List.foldl_cons, ih hl]
    simp only [moveFlag, putFlag, State.mk.injEq, true_and, and_true]
    ext j hj : 1
    by_cases hij : i = ⟨j, hj⟩
    · subst hij
      simp [hi]
    · have : (i : Nat) ≠ j := fun e => hij (Fin.ext e)
      simp [this, Ne.symm hij]

/-- An event has reached the Notice Units and the flags; the waits it completes are not yet answered. -/
def State.eventTaken (s : State) (e : Event) : State :=
  { s.raiseNotice e.notice with flags := s.flags.map fun f => f.afterEvent e }

/-- An event as one act: it reaches the Notice Units and the flags, and then the waits it completes are answered. -/
theorem State.raise_eq (s : State) (e : Event) : s.raise e = (s.eventTaken e).completeWaits (s.waitsServed e) := by
  have hflags : (Vector.ofFn fun i : Fin 8 => if i ∈ List.finRange 8 then s.flags[i].afterEvent e else s.flags[i])
      = s.flags.map fun f => f.afterEvent e := by
    ext i hi : 1
    simp
  rw [raise_eq_foldl, foldl_signalFlag e (List.nodup_finRange 8), foldl_moveFlag e (List.nodup_finRange 8), eventTaken,
    ← hflags]
  rfl

@[simp] theorem State.raise_flags (s : State) (e : Event) : (s.raise e).flags = s.flags.map fun f => f.afterEvent e := by
  rw [raise_eq, completeWaits_flags, eventTaken]

@[simp] theorem State.raise_notices_pending (s : State) (e : Event) (p : Port) :
    ((s.raise e).port p).notices.pending = (s.port p).notices.pending ||| e.notice.single := by
  rw [raise_eq, completeWaits_notices]
  cases p <;> rfl

@[simp] theorem State.raise_notices_mask (s : State) (e : Event) (p : Port) :
    ((s.raise e).port p).notices.mask = (s.port p).notices.mask := by
  rw [raise_eq, completeWaits_notices]
  cases p <;> rfl

@[simp] theorem State.raise_linkUp (s : State) (e : Event) (p : Port) :
    ((s.raise e).port p).linkUp = (s.port p).linkUp := by
  rw [raise_eq, completeWaits_linkUp]
  cases p <;> rfl

@[simp] theorem State.raise_unsignalled (s : State) (e : Event) : (s.raise e).unsignalled = s.unsignalled := by
  rw [raise_eq, completeWaits_unsignalled]
  rfl

/-- An event frees the slots of the waits it completes, and no others. -/
theorem State.mem_raise_slots {e : Event} {x : Slot} :
    x ∈ ((s.raise e).port p).slots
      ↔ x ∈ (s.port p).slots ∧ ∀ d ∈ s.waitsServed e, d.2.1.port = p → d.2.1.tag ≠ x.tag := by
  have taken_slots : ((s.eventTaken e).port p).slots = (s.port p).slots := by cases p <;> rfl
  rw [raise_eq, mem_completeWaits_slots, taken_slots]

/-- The waits of a flag that serving completes or keeps were parked there. -/
theorem serveWaits_mem {ws : List ParkedWait} {w : ParkedWait} :
    w ∈ (serveWaits ws).served.map Prod.fst ++ (serveWaits ws).kept ↔ w ∈ ws := by
  induction ws with
  | nil => simp [serveWaits]
  | cons v ws ih =>
    rw [serveWaits]
    split
    · simp
    · simp [← ih]

theorem SyncFlag.afterEvent_waits_subset (f : SyncFlag) (e : Event) : (f.afterEvent e).waits ⊆ f.waits := by
  by_cases hf : f.source = e.source ∧ f.value = false
  · rw [afterEvent_of_served hf]
    exact fun w hw => serveWaits_mem.mp (List.mem_append_right _ hw)
  · rw [afterEvent_of_not_served hf]
    exact List.Subset.refl _

/-- The waits an event completes were parked at a flag. -/
theorem State.waitsServed_parked {e : Event} {d : Fin 8 × ParkedWait × Bool} (hd : d ∈ s.waitsServed e) :
    ∃ i : Fin 8, d.2.1 ∈ s.flags[i].waits := by
  simp only [waitsServed_eq, List.mem_flatMap, waitsServedAt] at hd
  obtain ⟨i, -, hd⟩ := hd
  split at hd
  · obtain ⟨done, hdone, rfl⟩ := List.mem_map.mp hd
    exact ⟨i, serveWaits_mem.mp (List.mem_append_left _ (List.mem_map_of_mem hdone))⟩
  · cases hd

/-! ## Runs of events -/

theorem Signalled.of_eq (hf : t.flags = s.flags) (hp : ∀ p, t.port p = s.port p) : Signalled s t [] [] where
  flags := hf
  pending p := by rw [hp]; rfl
  mask p := by rw [hp]
  links p := by rw [hp]
  slots p x := by rw [hp]; exact ⟨id, fun hx _ _ => hx⟩

theorem Signalled.raise (s : State) (e : Event) : Signalled s (s.raise e) [e] [] where
  flags := by simp
  pending := by simp
  mask := by simp
  links := by simp
  slots p x := by
    refine ⟨fun hx => (State.mem_raise_slots.mp hx).1, fun hx hwaits _ => State.mem_raise_slots.mpr ⟨hx, fun d hd => ?_⟩⟩
    obtain ⟨i, hi⟩ := State.waitsServed_parked hd
    exact hwaits i d.2.1 hi

theorem foldl_afterEvent_waits_subset (es : List Event) (fs : Vector SyncFlag 8) (i : Fin 8) :
    (es.foldl (fun fs e => fs.map fun f => f.afterEvent e) fs)[i].waits ⊆ fs[i].waits := by
  induction es generalizing fs with
  | nil => exact List.Subset.refl _
  | cons e es ih =>
    refine List.Subset.trans (ih (fs.map fun f => f.afterEvent e)) ?_
    simpa using SyncFlag.afterEvent_waits_subset fs[i] e

/-- Events wake waits and park none. -/
theorem Signalled.waits_subset {es : List Event} {ks : List NoticeKind} (hst : Signalled s t es ks) (i : Fin 8) :
    t.flags[i].waits ⊆ s.flags[i].waits := by
  rw [hst.flags]
  exact foldl_afterEvent_waits_subset es s.flags i

/-- Two runs of events, one after the other, when the first parks no take. -/
theorem Signalled.trans {es es' : List Event} {ks : List NoticeKind} (hst : Signalled s t es [])
    (hd : t.drain.parkedTakes ⊆ s.drain.parkedTakes) (htu : Signalled t u es' ks) : Signalled s u (es ++ es') ks where
  flags := by rw [htu.flags, hst.flags, List.foldl_append]
  pending p := by
    rw [htu.pending, hst.pending, ← List.foldl_append, List.append_nil, List.map_append, List.append_assoc]
  mask p := (htu.mask p).trans (hst.mask p)
  links p := (htu.links p).trans (hst.links p)
  slots p x := by
    obtain ⟨back, forth⟩ := hst.slots p x
    obtain ⟨back', forth'⟩ := htu.slots p x
    exact ⟨back ∘ back', fun hx hwaits htakes =>
      forth' (forth hx hwaits htakes) (fun i w hw => hwaits i w (hst.waits_subset i hw)) fun k hk => htakes k (hd hk)⟩

/-! ## The part of the state that no event and no answer reaches -/

@[simp] theorem State.opened_unsignalled (s : State) (p : Port) (h : Header) (k : RequestKind) :
    (s.opened p h k).unsignalled = s.unsignalled := by
  cases p <;> rfl

@[simp] theorem State.endAct_unsignalled (s : State) : s.endAct.unsignalled = s.unsignalled := rfl

theorem State.mapControl_unsignalled (s : State) (f : Control → Control) :
    (s.mapControl f).unsignalled = s.unsignalled.mapControl f := rfl

/-- States with the same unreached part differ in the flags, the two ports and the responses alone. -/
theorem State.eq_of_unsignalled (hu : t.unsignalled = s.unsignalled) :
    ∃ flags viewer archive sent,
      t = { s with flags := flags, viewerPort := viewer, archivePort := archive, sent := sent } := by
  simp only [unsignalled, State.mk.injEq] at hu
  exact ⟨t.flags, t.viewerPort, t.archivePort, t.sent, by grind [cases State]⟩

/-! ## The answer of a request whose act raises events (R195, R196, R197) -/

/-- The request's own answer ends the act. -/
def State.replied (s : State) (p : Port) (h : Header) (k : RequestKind) (st : Status) (r : Result) : State :=
  (s.answer p h.tag k st r).endAct

section
variable {st : Status} {r : Result}

@[simp] theorem State.replied_control (s : State) : (s.replied p h k st r).control = s.control := by
  simp [replied]

@[simp] theorem State.replied_ring (s : State) : (s.replied p h k st r).ring = s.ring := by
  simp [replied]

@[simp] theorem State.replied_unsignalled (s : State) : (s.replied p h k st r).unsignalled = s.unsignalled := by
  simp [replied]

theorem State.replied_answers (s : State) : (s.replied p h k st r).answers p h k st r := by
  cases p <;> simp [replied, answers, answer_sent, port]

/-- The responses that had left in the act stay, with the Top Notice of the act's end. -/
theorem State.mem_replied_sent {x : Response} (hx : x ∈ s.sent) :
    ∃ y ∈ (s.replied p h k st r).sent, y.port = x.port ∧ y.tag = x.tag ∧ y.status = x.status := by
  rw [replied, endAct_sent, answer_sent]
  exact ⟨_, List.mem_map_of_mem (List.mem_append_left _ hx), rfl, rfl, rfl⟩

/-- The slots in which the owning block meets a request are those before it and the request's own. -/
theorem State.mem_opened_slots {q : Port} {x : Slot} :
    x ∈ ((s.opened p h k).port q).slots
      ↔ x ∈ (s.port q).slots ∨ (q = p ∧ x = { tag := h.tag, kind := k, progress := .answering }) := by
  cases p <;> cases q <;> simp [opened, arrive, occupy, mapPort, beginAct, port]

/-- The events of a request's act are those since the request reached its port: its own slot was taken and is free again. -/
theorem Signalled.replied {n : Nat} {es : List Event} {ks : List NoticeKind} (ht : Taken s p h n)
    (hv : Signalled (s.opened p h k) t es ks) : Signalled (s.reached p) (t.replied p h k st r) es ks := by
  obtain ⟨-, -, -, htags⟩ := ht
  have opened_notices q : ((s.opened p h k).port q).notices = ((s.reached p).port q).notices := by
    cases p <;> cases q <;> rfl
  have opened_linkUp q : ((s.opened p h k).port q).linkUp = ((s.reached p).port q).linkUp := by
    cases p <;> cases q <;> rfl
  have reached_slots q : ((s.reached p).port q).slots = (s.port q).slots := by
    cases p <;> cases q <;> rfl
  have replied_port q : (t.replied p h k st r).port q = (t.answer p h.tag k st r).port q := by
    cases q <;> rfl
  refine ⟨?_, fun q => ?_, fun q => ?_, fun q => ?_, fun q x => ⟨fun hx => ?_, fun hx hwaits htakes => ?_⟩⟩
  · simp [State.replied, State.reached, hv.flags]
  · rw [replied_port, State.answer_notices, hv.pending, opened_notices]
  · rw [replied_port, State.answer_notices, hv.mask, opened_notices]
  · rw [replied_port, State.answer_linkUp, hv.links, opened_linkUp]
  · rw [replied_port, State.mem_answer_slots] at hx
    obtain ⟨hx, htag⟩ := hx
    rw [reached_slots]
    obtain hx | ⟨rfl, rfl⟩ := State.mem_opened_slots.mp ((hv.slots q x).1 hx)
    · exact hx
    · exact absurd rfl (htag rfl)
  · rw [reached_slots] at hx
    rw [replied_port, State.mem_answer_slots]
    refine ⟨(hv.slots q x).2 (State.mem_opened_slots.mpr (.inl hx)) ?_ ?_, ?_⟩
    · simpa [State.reached] using hwaits
    · simpa [State.reached] using htakes
    · rintro rfl
      exact (htags x hx).symm

end

/-! ## The band, the Pause line and a pending swap (R27, R40, R104) -/

theorem State.updatePause_link (s : State) :
    s.updatePause.link
      = { s.link with
          pause := pauseLevel s.ring.band s.control.active.pauseOnCritical s.occupancy s.link.pause } := rfl

/-- At an occupancy of 16 or less the Pause line is asserted for a Critical band alone (R40). -/
theorem pauseLevel_of_low {occupancy : Nat} (ho : occupancy ≤ 16) (band : Band) (pauseOnCritical before : Bool) :
    pauseLevel band pauseOnCritical occupancy before = decide (band = .critical ∧ pauseOnCritical = true) := by
  simp [pauseLevel, ho]

theorem State.updatePause_port (s : State) (p : Port) : s.updatePause.port p = s.port p := by
  cases p <;> simp [port]

@[simp] theorem State.setBand_ring (s : State) (b : Band) : (s.setBand b).ring = { s.ring with band := b } := by
  unfold setBand
  split
  next hb => rw [hb]
  next => simp

/-- A change of band acts on the Pause line and on nothing else of the Sample Link Receiver. -/
theorem State.setBand_link (s : State) (b : Band) :
    (s.setBand b).link = { s.link with pause := (s.setBand b).link.pause } := by
  unfold setBand
  split
  · rfl
  · simp [updatePause_link]

theorem Signalled.setBand (s : State) (b : Band) : Signalled s (s.setBand b) (bandEvents s.ring.band b) [] := by
  unfold State.setBand bandEvents
  split
  · exact .of_eq rfl fun _ => rfl
  · have changed : Signalled s (s.mapRing fun r => { r with band := b }) [] [] := .of_eq rfl fun p => by cases p <;> rfl
    have raised := changed.trans (List.Subset.refl _) (.raise _ b.event)
    exact raised.trans (by simp) (.of_eq (by simp) (State.updatePause_port _))

theorem Profile.effective_eq_clampedTo (q : Profile) (c : Nat) : q.effective c = q.clampedTo c := by
  unfold effective clampedTo bpp
  grind

theorem Signalled.mapControl (s : State) (f : Control → Control) : Signalled s (s.mapControl f) [] [] :=
  .of_eq rfl fun p => by cases p <;> rfl

/-- The Staged copy has become the active profile, with its effective values; the band is not yet evaluated against it (R104). -/
def State.takeProfile (s : State) : State :=
  s.mapControl fun c =>
    { c with requested := c.staged, active := c.staged.effective s.capacity, swapPending := false }

theorem State.activate_eq (s : State) : s.activate = s.takeProfile.rebandFresh.updatePause := rfl

@[simp] theorem State.activate_control (s : State) :
    s.activate.control
      = { s.control with
          requested := s.control.staged, active := s.control.staged.clampedTo s.capacity, swapPending := false } := by
  simp [activate, Profile.effective_eq_clampedTo]

@[simp] theorem State.activate_ring (s : State) :
    s.activate.ring
      = { s.ring with
          band := bandFresh s.headroom s.activate.control.active.pressed s.activate.control.active.critical } := by
  rw [activate_control, activate_eq, updatePause_ring, rebandFresh, setBand_ring, ← Profile.effective_eq_clampedTo]
  rfl

/-- Taking a profile at an occupancy of 16 or less leaves the Pause line as its band and its Pause On Critical have it (R40). -/
theorem State.activate_link (s : State) (ho : s.occupancy ≤ 16) :
    s.activate.link
      = { s.link with
          pause := decide (s.activate.ring.band = .critical ∧ s.activate.control.active.pauseOnCritical = true) } := by
  have low : s.takeProfile.rebandFresh.occupancy ≤ 16 := by simpa [occupancy, takeProfile] using ho
  rw [activate_eq, updatePause_link, pauseLevel_of_low low, updatePause_ring, updatePause_control, rebandFresh, setBand_link]
  rfl

theorem Signalled.activate (s : State) : Signalled s s.activate (bandEvents s.ring.band s.activate.ring.band) [] := by
  have taken : Signalled s s.takeProfile [] [] := .mapControl s _
  have banded : Signalled s s.takeProfile.rebandFresh (bandEvents s.ring.band s.takeProfile.rebandFresh.ring.band) [] :=
    taken.trans (List.Subset.refl _) (by rw [State.rebandFresh, State.setBand_ring]; exact .setBand _ _)
  rw [State.activate_eq, State.updatePause_ring]
  simpa using banded.trans (by simp [State.takeProfile]) (.of_eq (State.updatePause_flags _) (State.updatePause_port _))

/-- A swap left pending is taken (R104). -/
def State.takeSwap (s : State) : State :=
  if s.control.swapPending then s.activate else s

theorem State.takeSwap_control (s : State) :
    s.takeSwap.control
      = { s.control with
          swapPending := false
          requested := if s.control.swapPending then s.control.staged else s.control.requested
          active := if s.control.swapPending then s.control.staged.clampedTo s.capacity else s.control.active } := by
  unfold takeSwap
  split
  next hp => simp
  next hp => rw [← Bool.eq_false_of_not_eq_true hp]

@[simp] theorem State.takeSwap_assembler (s : State) : s.takeSwap.assembler = s.assembler := by
  unfold takeSwap
  split <;> simp

@[simp] theorem State.takeSwap_store (s : State) : s.takeSwap.store = s.store := by
  unfold takeSwap
  split <;> simp

@[simp] theorem State.takeSwap_drain (s : State) : s.takeSwap.drain = s.drain := by
  unfold takeSwap
  split <;> simp

theorem State.takeSwap_band (s : State) :
    s.takeSwap.ring.band
      = if s.control.swapPending then
          bandFresh s.headroom s.takeSwap.control.active.pressed s.takeSwap.control.active.critical
        else s.ring.band := by
  unfold takeSwap
  split <;> simp

/-- Taking a pending swap keeps the Pause line as the band and the active profile's Pause On Critical have it. -/
theorem State.takeSwap_link (ho : s.occupancy ≤ 16)
    (hp : s.link.pause = decide (s.ring.band = .critical ∧ s.control.active.pauseOnCritical = true)) :
    s.takeSwap.link
      = { s.link with
          pause := decide (s.takeSwap.ring.band = .critical ∧ s.takeSwap.control.active.pauseOnCritical = true) } := by
  unfold takeSwap
  split
  · exact s.activate_link ho
  · rw [← hp]

theorem Signalled.takeSwap (s : State) : Signalled s s.takeSwap (bandEvents s.ring.band s.takeSwap.ring.band) [] := by
  unfold State.takeSwap
  split
  · exact .activate s
  · rw [bandEvents, if_pos rfl]
    exact .of_eq rfl fun _ => rfl

/-! ## The parked takes (R120) -/

/-- A parked take completes with EMPTY (R120). -/
def State.endTake (s : State) (k : ParkedTake) : State :=
  (s.unpark k).refuse .archive k.tag .take .empty

theorem State.endParkedTakes_eq_foldl (s : State) : s.endParkedTakes = s.drain.parkedTakes.foldl State.endTake s := rfl

theorem State.unpark_port (s : State) (k : ParkedTake) (p : Port) : (s.unpark k).port p = s.port p := by
  cases p <;> rfl

@[simp] theorem State.endTake_notices (s : State) (k : ParkedTake) (p : Port) :
    ((s.endTake k).port p).notices = (s.port p).notices :=
  (answer_notices ..).trans (congrArg _ (s.unpark_port k p))

@[simp] theorem State.endTake_linkUp (s : State) (k : ParkedTake) (p : Port) :
    ((s.endTake k).port p).linkUp = (s.port p).linkUp :=
  (answer_linkUp ..).trans (congrArg _ (s.unpark_port k p))

theorem State.mem_endTake_slots {k : ParkedTake} {x : Slot} :
    x ∈ ((s.endTake k).port p).slots ↔ x ∈ (s.port p).slots ∧ (.archive = p → k.tag ≠ x.tag) := by
  rw [← s.unpark_port k p]
  exact mem_answer_slots

@[simp] theorem State.endTake_drain (s : State) (k : ParkedTake) :
    (s.endTake k).drain = { s.drain with parkedTakes := s.drain.parkedTakes.filter fun x => x ≠ k } := rfl

theorem State.foldl_endTake_drain (takes : List ParkedTake) (s : State) :
    (takes.foldl State.endTake s).drain
      = { s.drain with parkedTakes := s.drain.parkedTakes.filter fun x => x ∉ takes } := by
  induction takes generalizing s with
  | nil => simp
  | cons k takes ih => simp [ih, List.filter_filter, Bool.and_comm]

theorem State.endParkedTakes_drain (s : State) : s.endParkedTakes.drain = { s.drain with parkedTakes := [] } := by
  rw [endParkedTakes_eq_foldl, foldl_endTake_drain, List.filter_eq_nil_iff.mpr (by simp)]

/-- What leaves for a take that ends EMPTY. -/
def ParkedTake.emptyResponse (k : ParkedTake) : Response :=
  { port := .archive, tag := k.tag, kind := RequestKind.code .take, status := .empty, top := none, result := .none, data := [] }

theorem State.foldl_endTake_sent (takes : List ParkedTake) (s : State) :
    (takes.foldl State.endTake s).sent = s.sent ++ takes.map ParkedTake.emptyResponse := by
  induction takes generalizing s with
  | nil => simp
  | cons k takes ih =>
    have step : (s.endTake k).sent = s.sent ++ [k.emptyResponse] := rfl
    simp [ih, step]

theorem State.endParkedTakes_notices (s : State) (p : Port) : (s.endParkedTakes.port p).notices = (s.port p).notices := by
  rw [endParkedTakes_eq_foldl]
  exact foldl_keeps State.endTake (fun u : State => (u.port p).notices) (fun u k => u.endTake_notices k p) _ s

theorem State.endParkedTakes_linkUp (s : State) (p : Port) : (s.endParkedTakes.port p).linkUp = (s.port p).linkUp := by
  rw [endParkedTakes_eq_foldl]
  exact foldl_keeps State.endTake (fun u : State => (u.port p).linkUp) (fun u k => u.endTake_linkUp k p) _ s

theorem State.mem_endParkedTakes_slots {x : Slot} :
    x ∈ (s.endParkedTakes.port p).slots
      ↔ x ∈ (s.port p).slots ∧ ∀ k ∈ s.drain.parkedTakes, .archive = p → k.tag ≠ x.tag := by
  rw [endParkedTakes_eq_foldl]
  exact mem_foldl_slots (f := State.endTake) (P := fun k => .archive = p → k.tag ≠ x.tag)
    (fun _ _ => State.mem_endTake_slots) s.drain.parkedTakes

theorem Signalled.endParkedTakes (s : State) : Signalled s s.endParkedTakes [] [] where
  flags := s.endParkedTakes_flags
  pending p := congrArg NoticeUnit.pending (s.endParkedTakes_notices p)
  mask p := congrArg NoticeUnit.mask (s.endParkedTakes_notices p)
  links := s.endParkedTakes_linkUp
  slots p x := by
    refine ⟨fun hx => (State.mem_endParkedTakes_slots.mp hx).1, fun hx _ htakes => State.mem_endParkedTakes_slots.mpr ⟨hx, ?_⟩⟩
    exact fun k hk hp => htakes k hk hp.symm

/-! ## Entry to Stopped (R39, R95) -/

theorem State.discardIntake_link (s : State) :
    s.discardIntake.link
      = { s.link with
          intake := []
          pendingLoss := none
          pause := decide (s.ring.band = .critical ∧ s.control.active.pauseOnCritical = true)
          counts :=
            { s.link.counts with
              framesDiscarded := s.link.counts.framesDiscarded + BitVec.ofNat 64 s.occupancy } } := by
  unfold discardIntake
  rw [updatePause_link]
  simp [pauseLevel, occupancy]

/-- Intake is discarded, Continuation and an Orderly halt end, and Capture Enable falls: entry to Stopped up to the pending swap (R95). -/
def State.haltCapture (s : State) (reason : StopReason) : State :=
  ((s.discardIntake.mapAssembler fun a => { a with continuation := none }).mapControl fun c =>
    { c with capture := .stopped, stopReason := reason, stoppingReason := none, orderlyHalt := false }).mapLink fun l =>
      { l with captureEnable := false }

/-- The acts of an entry to Stopped, in the order of R95. -/
theorem State.enterStopped_eq (s : State) (reason : StopReason) :
    s.enterStopped reason = ((s.haltCapture reason).takeSwap.raise .captureStopped).endParkedTakes := rfl

@[simp] theorem State.haltCapture_ring (s : State) (reason : StopReason) : (s.haltCapture reason).ring = s.ring := by
  simp [haltCapture]

@[simp] theorem State.haltCapture_drain (s : State) (reason : StopReason) : (s.haltCapture reason).drain = s.drain := by
  simp [haltCapture]

theorem State.haltCapture_link (s : State) (reason : StopReason) :
    (s.haltCapture reason).link = { s.discardIntake.link with captureEnable := false } := rfl

theorem State.enterStopped_control (s : State) (reason : StopReason) :
    (s.enterStopped reason).control = (s.haltCapture reason).takeSwap.control := by
  simp [enterStopped_eq]

theorem State.enterStopped_band (s : State) (reason : StopReason) :
    (s.enterStopped reason).ring.band = (s.haltCapture reason).takeSwap.ring.band := by
  simp [enterStopped_eq]

/-- The link once capture has entered Stopped: intake is empty, Capture Enable has fallen, and the Pause line stands as the band has it. -/
theorem State.enterStopped_link (s : State) (reason : StopReason) :
    (s.enterStopped reason).link
      = { s.discardIntake.link with
          captureEnable := false
          pause := decide ((s.enterStopped reason).ring.band = .critical
            ∧ (s.enterStopped reason).control.active.pauseOnCritical = true) } := by
  have low : (s.haltCapture reason).occupancy ≤ 16 := by
    simp [occupancy, haltCapture_link, discardIntake_link]
  have pause : (s.haltCapture reason).link.pause
      = decide ((s.haltCapture reason).ring.band = .critical
          ∧ (s.haltCapture reason).control.active.pauseOnCritical = true) := by
    rw [haltCapture_link, discardIntake_link]
    rfl
  rw [enterStopped_control, enterStopped_band, enterStopped_eq, endParkedTakes_link, raise_link, takeSwap_link low pause]
  rfl

theorem State.enterStopped_enteredStopped (s : State) (reason : StopReason) :
    EnteredStopped s (s.enterStopped reason) reason where
  control := by
    rw [enterStopped_control, takeSwap_control]
    rfl
  link := by
    rw [enterStopped_link, discardIntake_link]
  discarded := by
    rw [enterStopped_link, discardIntake_link]
  band := by
    rw [enterStopped_control, enterStopped_band, takeSwap_band, haltCapture_ring]
    rfl
  continuation := by simp [enterStopped_eq, haltCapture]
  stage := by simp [enterStopped_eq, haltCapture, discardIntake]
  number := by simp
  store := by simp [enterStopped_eq, haltCapture, discardIntake]
  drain := by rw [enterStopped_eq, endParkedTakes_drain, raise_drain, takeSwap_drain, haltCapture_drain]

theorem State.haltCapture_port (s : State) (reason : StopReason) (p : Port) : (s.haltCapture reason).port p = s.port p := by
  cases p <;> simp [port, haltCapture]

theorem Signalled.enterStopped (s : State) (reason : StopReason) :
    Signalled s (s.enterStopped reason) (bandEvents s.ring.band (s.enterStopped reason).ring.band ++ [.captureStopped]) [] := by
  have halted : Signalled s (s.haltCapture reason) [] [] := .of_eq (by simp [State.haltCapture]) (s.haltCapture_port reason)
  have swapped := halted.trans (by simp) (.takeSwap _)
  have raised := swapped.trans (by simp) (.raise _ .captureStopped)
  have ended := raised.trans (by simp) (.endParkedTakes _)
  simpa [State.enterStopped_eq] using ended

/-- Every take parked at an entry to Stopped is answered EMPTY (R95, R120). -/
theorem State.enterStopped_takes {reason : StopReason} {k : ParkedTake} (hk : k ∈ s.drain.parkedTakes) :
    k.emptyResponse ∈ (s.enterStopped reason).sent := by
  rw [enterStopped_eq, endParkedTakes_eq_foldl, foldl_endTake_sent]
  refine List.mem_append_right _ (List.mem_map_of_mem ?_)
  simpa using hk

/-- With no segment open, an entry to Stopped is the whole of a stop at once. -/
theorem State.enterStopped_stoppedAtOnce (hopen : s.openEntry = none) (close : CloseReason) (reason : StopReason) :
    StoppedAtOnce s (s.enterStopped reason) close reason where
  entered := s.enterStopped_enteredStopped reason
  ring := by
    have head := s.enterStopped_ring_head reason
    have tail := s.enterStopped_ring_tail reason
    have blocks := s.enterStopped_ring_blocks reason
    rw [if_neg (by simp [hopen])]
    cases hring : (s.enterStopped reason).ring
    simp_all
  index := by simp [hopen]
  counts := by simp [hopen, enterStopped_link, discardIntake_link]
  timers ho := by simp [hopen] at ho
  takes k hk := ⟨k.emptyResponse, enterStopped_takes hk, rfl, rfl, .inr rfl⟩
  pins := by simp
  power := by simp
  pending := by simp

/-- A stop at once speaks of the parts that no event and no answer reaches, and of the responses that have left. -/
theorem StoppedAtOnce.congr {s' t' : State} {close : CloseReason} {reason : StopReason} (hst : StoppedAtOnce s t close reason)
    (hs : s'.unsignalled = s.unsignalled) (ht : t'.unsignalled = t.unsignalled)
    (hsent : ∀ x ∈ t.sent, ∃ y ∈ t'.sent, y.port = x.port ∧ y.tag = x.tag ∧ y.status = x.status) :
    StoppedAtOnce s' t' close reason := by
  obtain ⟨_, _, _, _, rfl⟩ := State.eq_of_unsignalled hs
  obtain ⟨_, _, _, _, rfl⟩ := State.eq_of_unsignalled ht
  obtain ⟨⟨control, link, discarded, band, continuation, stage, number, store, drain⟩, ring, index, counts, timers, takes,
    pins, power, pending⟩ := hst
  refine ⟨⟨control, link, discarded, band, continuation, stage, number, store, drain⟩, ring, index, counts, timers,
    fun k hk => ?_, pins, power, pending⟩
  obtain ⟨x, hx, hport, htag, hstatus⟩ := takes k hk
  obtain ⟨y, hy, eport, etag, estatus⟩ := hsent x hx
  exact ⟨y, hy, eport.trans hport, etag.trans htag, by rwa [estatus]⟩

/-! ## The Head Mark (R107, R108) -/

@[simp] theorem State.raise_openEntry (s : State) (e : Event) : (s.raise e).openEntry = s.openEntry := by
  rw [openEntry, raise_index, openEntry]

@[simp] theorem State.mapControl_openEntry (s : State) (f : Control → Control) :
    (s.mapControl f).openEntry = s.openEntry := rfl

/-- The Head Mark is armed. -/
def State.armHeadMark (s : State) (m : HeadMark) : State :=
  s.mapControl fun c => { c with headMark := some m }

/-- The Head Mark is disarmed. -/
def State.disarmHeadMark (s : State) : State :=
  s.mapControl fun c => { c with headMark := none }

/-- The Head Mark has fired: it is disarmed and its event raised (R108). -/
def State.headMarkFired (s : State) : State :=
  s.disarmHeadMark.raise .headMark

section
variable {m : HeadMark}

theorem State.testHeadMark_of_above (hm : s.control.headMark = some m) (habove : s.ring.head < m.lbn) :
    s.testHeadMark = s := by
  simp [testHeadMark, hm, habove.not_ge]

/-- A mark that is reached fires, and its Action and the capture state decide what follows (R108). -/
theorem State.testHeadMark_of_reached (hm : s.control.headMark = some m) (hle : m.lbn ≤ s.ring.head) :
    s.testHeadMark
      = if m.action = .stop ∧ s.control.capture = .running then
          if s.openEntry.isSome then
            s.headMarkFired.mapControl fun c => { c with capture := .stopping, stoppingReason := some .headMark }
          else s.headMarkFired.enterStopped .headMark
        else s.headMarkFired := by
  by_cases hstop : m.action = .stop ∧ s.control.capture = .running
  · by_cases hopen : s.openEntry.isSome = true
    · simp [testHeadMark, headMarkFired, disarmHeadMark, hm, hle, hstop, hopen]
    · simp [testHeadMark, headMarkFired, disarmHeadMark, hm, hle, hstop, hopen]
  · simp [testHeadMark, headMarkFired, disarmHeadMark, hm, hle, hstop]

theorem State.testHeadMark_disarms (hm : s.control.headMark = some m) (hle : m.lbn ≤ s.ring.head) :
    s.testHeadMark.control.headMark = none := by
  rw [testHeadMark_of_reached hm hle]
  (repeat' split) <;> simp [headMarkFired, disarmHeadMark]

end

theorem Signalled.headMarkFired (s : State) : Signalled s s.headMarkFired [.headMark] [] :=
  (Signalled.mapControl s _).trans (List.Subset.refl _) (.raise _ .headMark)

/-- The mark a SetHeadMark names: Action 0 is Notify and 1 is Stop (R107, R203). -/
def headMarkOf (lbn : BitVec 64) (action : BitVec 8) : HeadMark where
  lbn := lbn.toNat
  action := if action = 1 then .stop else .notify

@[simp] theorem headMarkOf_lbn (lbn : BitVec 64) (action : BitVec 8) : (headMarkOf lbn action).lbn = lbn.toNat := rfl

theorem headMarkOf_stops {lbn : BitVec 64} {action : BitVec 8} : (headMarkOf lbn action).action = .stop ↔ action = 1 := by
  simp [headMarkOf]

theorem lbnParam_of_le {lbn : BitVec 64} (hl : lbn.toNat ≤ 2 ^ 40 - 1) : lbnParam lbn = some lbn.toNat :=
  if_pos hl

theorem lbnParam_of_gt {lbn : BitVec 64} (hl : 2 ^ 40 - 1 < lbn.toNat) : lbnParam lbn = none :=
  if_neg hl.not_ge

theorem markActionParam_of_le {action : BitVec 8} (ha : action.toNat ≤ 1) :
    markActionParam action = some (if action = 1 then .stop else .notify) := by
  have cases_01 : action = 0 ∨ action = 1 := by bv_omega
  obtain rfl | rfl := cases_01 <;> rfl

theorem markActionParam_of_gt {action : BitVec 8} (ha : 1 < action.toNat) : markActionParam action = none := by
  unfold markActionParam
  rw [if_neg (by bv_omega), if_neg (by bv_omega)]

theorem exec_setHeadMark_badParam {lbn : BitVec 64} {action : BitVec 8} (ht : Taken s .viewer h 9)
    (hbad : 2 ^ 40 - 1 < lbn.toNat ∨ 1 < action.toNat) :
    exec (.setHeadMark h lbn action) s = .next (s.refused .viewer h .setHeadMark .badParam) := by
  refine congrArg Host.Outcome.next (State.request_refuse ht ?_)
  obtain hl | ha := hbad
  · rw [lbnParam_of_gt hl]
  · rw [markActionParam_of_gt ha]
    cases lbnParam lbn <;> rfl

/-- The state in which Capture Control tests the mark that a SetHeadMark has armed. -/
def State.headMarkSet (s : State) (h : Header) (m : HeadMark) : State :=
  (s.armHeadMark m).opened .viewer h .setHeadMark

theorem exec_setHeadMark {lbn : BitVec 64} {action : BitVec 8} (ht : Taken s .viewer h 9) (hl : lbn.toNat ≤ 2 ^ 40 - 1)
    (ha : action.toNat ≤ 1) :
    exec (.setHeadMark h lbn action) s
      = .next ((s.headMarkSet h (headMarkOf lbn action)).testHeadMark.replied .viewer h .setHeadMark .ok
          (.fired (decide (lbn.toNat ≤ s.ring.head)))) := by
  refine congrArg Host.Outcome.next ((State.request_taken ht).trans ?_)
  simp only [lbnParam_of_le hl, markActionParam_of_le ha, State.opened_mapControl, State.opened_ring]
  rfl

section
variable {m : HeadMark}

@[simp] theorem State.headMarkSet_control (s : State) (h : Header) (m : HeadMark) :
    (s.headMarkSet h m).control = { s.control with headMark := some m } := by
  simp [headMarkSet, armHeadMark]

@[simp] theorem State.headMarkSet_ring (s : State) (h : Header) (m : HeadMark) : (s.headMarkSet h m).ring = s.ring := by
  simp [headMarkSet, armHeadMark]

@[simp] theorem State.headMarkSet_openEntry (s : State) (h : Header) (m : HeadMark) :
    (s.headMarkSet h m).openEntry = s.openEntry := by
  simp [headMarkSet, armHeadMark, openEntry]

theorem State.headMarkSet_fired_drain (s : State) (h : Header) (m : HeadMark) :
    (s.headMarkSet h m).headMarkFired.drain = s.drain := by
  simp [headMarkFired, disarmHeadMark, headMarkSet, armHeadMark]

theorem State.headMarkSet_fired_unsignalled (s : State) (h : Header) (m : HeadMark) :
    (s.headMarkSet h m).headMarkFired.unsignalled = s.disarmHeadMark.unsignalled := by
  rw [headMarkFired, raise_unsignalled, disarmHeadMark, headMarkSet, opened_mapControl, opened_unsignalled]
  rfl

/-- From the arrival of a SetHeadMark to the firing of its mark the one event is HeadMark. -/
theorem Signalled.headMarkSet_fired (s : State) (h : Header) (m : HeadMark) :
    Signalled (s.opened .viewer h .setHeadMark) (s.headMarkSet h m).headMarkFired [.headMark] [] := by
  have armed : Signalled (s.opened .viewer h .setHeadMark) (s.headMarkSet h m) [] [] := by
    rw [State.headMarkSet, State.armHeadMark, ← State.opened_mapControl]
    exact .mapControl _ _
  exact armed.trans (by simp [State.headMarkSet, State.armHeadMark]) (.headMarkFired _)

end

/-- A mark above Head stays armed, and nothing else changes (R107). -/
theorem exec_setHeadMark_above {lbn : BitVec 64} {action : BitVec 8} (ht : Taken s .viewer h 9)
    (hl : lbn.toNat ≤ 2 ^ 40 - 1) (ha : action.toNat ≤ 1) (habove : s.ring.head < lbn.toNat) :
    exec (.setHeadMark h lbn action) s
      = .next ((s.armHeadMark (headMarkOf lbn action)).answered .viewer h .setHeadMark .ok (.fired false)) := by
  have ⟨_, _, _, htags⟩ := ht
  rw [exec_setHeadMark ht hl ha, State.testHeadMark_of_above (m := headMarkOf lbn action) (by simp) (by simpa using habove),
    decide_eq_false habove.not_ge]
  exact congrArg Host.Outcome.next (State.opened_answer htags)

/-- The state a SetHeadMark leaves whose mark is at or below Head: the mark has been tested and the request answered. -/
def State.headMarkReached (s : State) (h : Header) (m : HeadMark) : State :=
  (s.headMarkSet h m).testHeadMark.replied .viewer h .setHeadMark .ok (.fired true)

theorem exec_setHeadMark_reached {lbn : BitVec 64} {action : BitVec 8} (ht : Taken s .viewer h 9)
    (hl : lbn.toNat ≤ 2 ^ 40 - 1) (ha : action.toNat ≤ 1) (hle : lbn.toNat ≤ s.ring.head) :
    exec (.setHeadMark h lbn action) s = .next (s.headMarkReached h (headMarkOf lbn action)) := by
  rw [exec_setHeadMark ht hl ha, decide_eq_true hle, State.headMarkReached]

section
variable {m : HeadMark} {n : Nat}

theorem State.headMarkReached_disarms (hle : m.lbn ≤ s.ring.head) : (s.headMarkReached h m).control.headMark = none := by
  rw [headMarkReached, replied_control, testHeadMark_disarms (m := m) (by simp) (by simpa using hle)]

/-- Action Notify, and Action Stop outside Running, ask for nothing beyond the event. -/
theorem State.headMarkReached_notifies (ht : Taken s .viewer h n) (hle : m.lbn ≤ s.ring.head)
    (hstop : ¬(m.action = .stop ∧ s.control.capture = .running)) :
    Signalled (s.reached .viewer) (s.headMarkReached h m) [.headMark] []
      ∧ (s.headMarkReached h m).unsignalled = s.disarmHeadMark.unsignalled := by
  have fired : (s.headMarkSet h m).testHeadMark = (s.headMarkSet h m).headMarkFired := by
    rw [testHeadMark_of_reached (m := m) (by simp) (by simpa using hle), if_neg (by simpa using hstop)]
  rw [headMarkReached, fired, replied_unsignalled, headMarkSet_fired_unsignalled]
  exact ⟨(Signalled.headMarkSet_fired s h m).replied ht, rfl⟩

/-- Action Stop with a segment open waits for the segment's end in Stopping. -/
theorem State.headMarkReached_awaits_close (ht : Taken s .viewer h n) (hle : m.lbn ≤ s.ring.head)
    (hstop : m.action = .stop ∧ s.control.capture = .running) (hopen : s.openEntry.isSome = true) :
    Signalled (s.reached .viewer) (s.headMarkReached h m) [.headMark] []
      ∧ (s.headMarkReached h m).unsignalled
          = (s.disarmHeadMark.mapControl fun c =>
              { c with capture := .stopping, stoppingReason := some .headMark }).unsignalled := by
  have fired : (s.headMarkSet h m).testHeadMark
      = (s.headMarkSet h m).headMarkFired.mapControl fun c =>
          { c with capture := .stopping, stoppingReason := some .headMark } := by
    rw [testHeadMark_of_reached (m := m) (by simp) (by simpa using hle), if_pos (by simpa using hstop),
      if_pos (by simpa using hopen)]
  have events := (Signalled.headMarkSet_fired s h m).trans (by simp [headMarkSet_fired_drain])
    (.mapControl _ fun c => { c with capture := .stopping, stoppingReason := some .headMark })
  rw [headMarkReached, fired, replied_unsignalled, mapControl_unsignalled, headMarkSet_fired_unsignalled]
  exact ⟨events.replied ht, rfl⟩

/-- Action Stop with no segment open enters Stopped in the same act. -/
theorem State.headMarkReached_stops (ht : Taken s .viewer h n) (hle : m.lbn ≤ s.ring.head)
    (hstop : m.action = .stop ∧ s.control.capture = .running) (hopen : s.openEntry = none) :
    Signalled (s.reached .viewer) (s.headMarkReached h m) (.headMark :: s.stopEvents (s.headMarkReached h m)) []
      ∧ StoppedAtOnce s.disarmHeadMark (s.headMarkReached h m) .stop .headMark := by
  have fired : (s.headMarkSet h m).testHeadMark = (s.headMarkSet h m).headMarkFired.enterStopped .headMark := by
    rw [testHeadMark_of_reached (m := m) (by simp) (by simpa using hle), if_pos (by simpa using hstop),
      if_neg (by simp [hopen])]
  have base := s.headMarkSet_fired_unsignalled h m
  have openEntry_fired : (s.headMarkSet h m).headMarkFired.openEntry = none := by
    rwa [headMarkFired, raise_openEntry, disarmHeadMark, mapControl_openEntry, headMarkSet_openEntry]
  have stopped := enterStopped_stoppedAtOnce openEntry_fired .stop .headMark
  have events := (Signalled.headMarkSet_fired s h m).trans (by simp [headMarkSet_fired_drain]) (.enterStopped _ .headMark)
  have stopEvents_eq : .headMark :: s.stopEvents (s.headMarkReached h m)
      = [.headMark] ++ (bandEvents (s.headMarkSet h m).headMarkFired.ring.band
          ((s.headMarkSet h m).headMarkFired.enterStopped .headMark).ring.band ++ [.captureStopped]) := by
    simp [stopEvents, closeEvents, hopen, headMarkReached, fired, headMarkFired, disarmHeadMark]
  rw [stopEvents_eq, headMarkReached, fired]
  exact ⟨events.replied ht, stopped.congr base.symm (replied_unsignalled _) fun x => mem_replied_sent⟩

end

theorem exec_clearHeadMark (ht : Taken s .viewer h 0) :
    exec (.clearHeadMark h) s
      = .next (s.disarmHeadMark.answered .viewer h .clearHeadMark .ok (.wasArmed s.control.headMark.isSome)) :=
  congrArg Host.Outcome.next (State.request_answer ht ht.2.2.2 (by simp [State.disarmHeadMark]))

/-! ## The Archive Mark (R109) -/

/-- The Archive Mark is armed. -/
def State.armArchiveMark (s : State) (lbn : Nat) : State :=
  s.mapControl fun c => { c with archiveMark := some lbn }

/-- The Archive Mark is disarmed. -/
def State.disarmArchiveMark (s : State) : State :=
  s.mapControl fun c => { c with archiveMark := none }

section
variable {n : Nat}

theorem State.testArchiveMark_of_above (hm : s.control.archiveMark = some n) (habove : s.archiveFront < n) :
    s.testArchiveMark = s := by
  simp [testArchiveMark, hm, habove.not_ge]

theorem State.testArchiveMark_of_reached (hm : s.control.archiveMark = some n) (hle : n ≤ s.archiveFront) :
    s.testArchiveMark = s.disarmArchiveMark.raise .archiveMark := by
  simp [testArchiveMark, disarmArchiveMark, hm, hle]

end

theorem exec_setArchiveMark_badParam {lbn : BitVec 64} (ht : Taken s .archive h 8) (hl : 2 ^ 40 - 1 < lbn.toNat) :
    exec (.setArchiveMark h lbn) s = .next (s.refused .archive h .setArchiveMark .badParam) :=
  congrArg Host.Outcome.next (State.request_refuse ht (by rw [lbnParam_of_gt hl]))

/-- The state in which the Archive Mark that a SetArchiveMark has armed is tested. -/
def State.archiveMarkSet (s : State) (h : Header) (lbn : Nat) : State :=
  (s.armArchiveMark lbn).opened .archive h .setArchiveMark

@[simp] theorem State.archiveMarkSet_control (s : State) (h : Header) (lbn : Nat) :
    (s.archiveMarkSet h lbn).control = { s.control with archiveMark := some lbn } := by
  simp [archiveMarkSet, armArchiveMark]

@[simp] theorem State.archiveMarkSet_archiveFront (s : State) (h : Header) (lbn : Nat) :
    (s.archiveMarkSet h lbn).archiveFront = s.archiveFront := by
  rw [archiveMarkSet, opened_archiveFront]
  rfl

theorem exec_setArchiveMark {lbn : BitVec 64} (ht : Taken s .archive h 8) (hl : lbn.toNat ≤ 2 ^ 40 - 1) :
    exec (.setArchiveMark h lbn) s
      = .next ((s.archiveMarkSet h lbn.toNat).testArchiveMark.replied .archive h .setArchiveMark .ok
          (.fired (decide (lbn.toNat ≤ s.archiveFront)))) := by
  refine congrArg Host.Outcome.next ((State.request_taken ht).trans ?_)
  simp only [lbnParam_of_le hl, State.opened_mapControl, State.opened_archiveFront]
  rfl

/-- A mark above ArchiveFront stays armed, and nothing else changes (R109). -/
theorem exec_setArchiveMark_above {lbn : BitVec 64} (ht : Taken s .archive h 8) (hl : lbn.toNat ≤ 2 ^ 40 - 1)
    (habove : s.archiveFront < lbn.toNat) :
    exec (.setArchiveMark h lbn) s
      = .next ((s.armArchiveMark lbn.toNat).answered .archive h .setArchiveMark .ok (.fired false)) := by
  have ⟨_, _, _, htags⟩ := ht
  rw [exec_setArchiveMark ht hl, State.testArchiveMark_of_above (n := lbn.toNat) (by simp) (by simpa using habove),
    decide_eq_false habove.not_ge]
  exact congrArg Host.Outcome.next (State.opened_answer htags)

/-- A mark at or below ArchiveFront fires in the act of its SetArchiveMark (R109). -/
theorem exec_setArchiveMark_fired {lbn : BitVec 64} (ht : Taken s .archive h 8) (hl : lbn.toNat ≤ 2 ^ 40 - 1)
    (hle : lbn.toNat ≤ s.archiveFront) :
    exec (.setArchiveMark h lbn) s
      = .next (((s.archiveMarkSet h lbn.toNat).disarmArchiveMark.raise .archiveMark).replied .archive h .setArchiveMark .ok
          (.fired true)) := by
  rw [exec_setArchiveMark ht hl, State.testArchiveMark_of_reached (n := lbn.toNat) (by simp) (by simpa using hle),
    decide_eq_true hle]

/-- From the arrival of a SetArchiveMark to the firing of its mark the one event is ArchiveMark. -/
theorem Signalled.archiveMarkSet_fired (s : State) (h : Header) (lbn : Nat) :
    Signalled (s.opened .archive h .setArchiveMark) ((s.archiveMarkSet h lbn).disarmArchiveMark.raise .archiveMark)
      [.archiveMark] [] := by
  have moved : Signalled (s.opened .archive h .setArchiveMark) (s.archiveMarkSet h lbn).disarmArchiveMark [] [] := by
    rw [State.archiveMarkSet, State.armArchiveMark, ← State.opened_mapControl]
    exact (Signalled.mapControl _ _).trans (List.Subset.refl _) (.mapControl _ _)
  exact moved.trans (by simp [State.disarmArchiveMark, State.archiveMarkSet, State.armArchiveMark]) (.raise _ _)

theorem State.archiveMarkSet_fired_unsignalled (s : State) (h : Header) (lbn : Nat) :
    ((s.archiveMarkSet h lbn).disarmArchiveMark.raise .archiveMark).unsignalled = s.disarmArchiveMark.unsignalled := by
  rw [raise_unsignalled, disarmArchiveMark, archiveMarkSet, opened_mapControl, opened_unsignalled]
  rfl

theorem exec_clearArchiveMark (ht : Taken s .archive h 0) :
    exec (.clearArchiveMark h) s
      = .next (s.disarmArchiveMark.answered .archive h .clearArchiveMark .ok
          (.wasArmed s.control.archiveMark.isSome)) :=
  congrArg Host.Outcome.next (State.request_answer ht ht.2.2.2 (by simp [State.disarmArchiveMark]))

end Sys2Proof.Machine

namespace Sys2Proof.Proofs
open Sys2Proof.Machine

/-- Settles O16. A mark out of its range is refused, one above its front stays armed, and one that is reached fires within its own request, where
the Head Mark's Action and the capture state decide which of three acts the event is followed by. -/
theorem markRequests : Obligations.MarkRequests := by
  refine ⟨⟨fun h lbn action s ht => ⟨exec_setHeadMark_badParam ht, exec_setHeadMark_above ht, fun hl ha hle => ?_⟩,
      fun h s => exec_clearHeadMark⟩,
    fun h lbn s ht => ⟨exec_setArchiveMark_badParam ht, exec_setArchiveMark_above ht, fun hl hle => ?_⟩,
    fun h s => exec_clearArchiveMark⟩
  · refine ⟨_, exec_setHeadMark_reached ht hl ha hle, State.replied_answers _, State.headMarkReached_disarms hle,
      fun hnotice => ?_, fun hstop hrun hopen => ?_, fun hstop hrun hopen => ?_⟩
    · refine State.headMarkReached_notifies ht hle ?_
      rw [headMarkOf_stops]
      rintro ⟨rfl, hrun⟩
      simp [hrun] at hnotice
    · exact State.headMarkReached_awaits_close ht hle ⟨headMarkOf_stops.mpr hstop, hrun⟩ hopen
    · exact State.headMarkReached_stops ht hle ⟨headMarkOf_stops.mpr hstop, hrun⟩ hopen
  · exact ⟨_, exec_setArchiveMark_fired ht hl hle, State.replied_answers _,
      (Signalled.archiveMarkSet_fired s h lbn.toNat).replied ht,
      (State.replied_unsignalled _).trans (s.archiveMarkSet_fired_unsignalled h lbn.toNat)⟩

end Sys2Proof.Proofs

/-!
The requests of the Drain Engine that move one block between the drain order, a claim and the archive: Take, Confirm and Return (R115 to R119, R126, R127,
R129). Before them stand what they share: the parameter fields and the blocks these name, the fronts of a ring whose blocks change state, what an answer
leaves, the answers of parked takes, and the bringing up to date of the ring.
-/
namespace Sys2Proof.Machine

variable {s t u : State} {h : Header} {c : Fin 4} {n : Nat}

/-! ## The parameter fields (R112, R203) -/

theorem ctxParam_of_eq (hc : h.target.toNat = c.val) : ctxParam h = some c := by
  simp [ctxParam, below, hc]

theorem ctxParam_of_gt (hc : 3 < h.target.toNat) : ctxParam h = none :=
  dif_neg (by omega)

theorem yesNo_of_le {b : BitVec 8} (hb : b.toNat ≤ 1) : yesNo b = some (decide (b = 1)) := by
  have cases_01 : b = 0 ∨ b = 1 := by bv_omega
  obtain rfl | rfl := cases_01 <;> rfl

theorem yesNo_of_gt {b : BitVec 8} (hb : 1 < b.toNat) : yesNo b = none := by
  unfold yesNo
  rw [if_neg (by bv_omega), if_neg (by bv_omega)]

/-! ## The blocks a request finds (R113 to R116, R126, R129) -/

/-- The oldest block of the drain order that a window covers is found by its state, its Archive Required and its LBN (R114, R115). -/
theorem State.chosenBlock_eq (s : State) (w : Window) :
    s.chosenBlock w
      = s.ring.blocks.find? fun b => decide (b.state = .sealed ∧ b.archiveRequired = true ∧ w.covers b.lbn = true) := by
  refine List.find?_congr fun b _ => ?_
  simp [Block.drainable, Bool.and_assoc]

theorem State.chosenBlock_eq_none {w : Window}
    (huncovered : ∀ b ∈ s.ring.blocks, b.state = .sealed → b.archiveRequired = true → w.covers b.lbn = false) :
    s.chosenBlock w = none := by
  rw [chosenBlock_eq, List.find?_eq_none]
  simpa using huncovered

/-- The Claim record of a block of a segment, as the entry of the segment stands (R84, R116). -/
theorem State.claimRecord_eq {b : Block} {e : Entry} (he : s.findEntry b.segment = some e) :
    s.claimRecord b
      = { lbn := b.lbn, segment := b.segment, fillBytes := b.fillBytes
          firstOfSegment := decide (b.lbn = e.firstLbn)
          lastOfSegment := e.closeReason.isSome && decide (b.lbn + 1 = e.firstLbn + e.blockCount)
          damaged := b.damaged } := by
  simp [claimRecord, he, Entry.isOpen]

theorem State.blockActive_iff {lbn : Nat} :
    s.blockActive lbn = true ↔ s.power.groups[s.groupOf lbn].state = .settled .active := by
  simp [blockActive, groupActive]

theorem State.lbn_of_findBlock {b : Block} (hb : s.findBlock n = some b) : b.lbn = n := by
  simpa using List.find?_some hb

theorem State.claimedBlock_eq_some {b : Block} :
    s.claimedBlock c n = some b
      ↔ s.drain.contexts[c].isSome = true ∧ s.findBlock n = some b ∧ b.state = .claimed c := by
  unfold claimedBlock contextOpen
  cases s.findBlock n with
  | none => simp
  | some a => grind

/-- A context that is Closed, and one that does not claim the block, have no claimed block at its LBN (R126, R129). -/
theorem State.claimedBlock_eq_none
    (hno : s.drain.contexts[c] = none ∨ ∀ b ∈ s.ring.blocks, b.lbn = n → b.state ≠ .claimed c) :
    s.claimedBlock c n = none := by
  refine Option.eq_none_iff_forall_ne_some.mpr fun b hb => ?_
  obtain ⟨hopen, hfound, hclaimed⟩ := claimedBlock_eq_some.mp hb
  obtain hclosed | hunclaimed := hno
  · simp [hclosed] at hopen
  · exact hunclaimed b (List.mem_of_find?_eq_some hfound) (lbn_of_findBlock hfound) hclaimed

theorem Window.done_iff {w : Window} : w.done n = true ↔ w.length ≠ 0 ∧ w.first + w.length ≤ n := by
  simp [done]

/-! ## ArchiveFront, HoldFloor and Headroom (R13, R14) -/

theorem State.archiveFront_congr (hblocks : t.ring.blocks = s.ring.blocks) (hhead : t.ring.head = s.ring.head) :
    t.archiveFront = s.archiveFront := by
  simp only [archiveFront, hblocks, hhead]

theorem State.holdFloor_congr (hpins : t.pins = s.pins) (hfront : t.archiveFront = s.archiveFront) :
    t.holdFloor = s.holdFloor := by
  simp only [holdFloor, hpins, hfront]

theorem State.headroom_congr (hpower : t.power = s.power) (hhead : t.ring.head = s.ring.head)
    (hfloor : t.holdFloor = s.holdFloor) : t.headroom = s.headroom := by
  simp only [headroom, capacity, hpower, hhead, hfloor]

/-- ArchiveFront stays where no block changes its LBN and none its archiving (R13). -/
theorem State.archiveFront_map {g : Block → Block} (hring : t.ring = { s.ring with blocks := s.ring.blocks.map g })
    (hlbn : ∀ b, (g b).lbn = b.lbn) (hun : ∀ b ∈ s.ring.blocks, (g b).unarchived = b.unarchived) :
    t.archiveFront = s.archiveFront := by
  have found : s.ring.blocks.find? (Block.unarchived ∘ g) = s.ring.blocks.find? Block.unarchived :=
    List.find?_congr hun
  simp only [archiveFront, hring, List.find?_map, found]
  cases s.ring.blocks.find? Block.unarchived <;> simp [hlbn]

/-- No two held blocks have one LBN (R6). -/
theorem RingForm.eq_of_lbn_eq (hr : RingForm s) {a b : Block} (ha : a ∈ s.ring.blocks) (hb : b ∈ s.ring.blocks)
    (hab : a.lbn = b.lbn) : a = b := by
  obtain ⟨-, -, -, -, -, hlbns, -⟩ := hr
  exact List.inj_on_of_nodup_map (hlbns ▸ List.nodup_range') ha hb hab

/-! ## The answer that ends an act (R193, R196, R197) -/

/-- A refusal given in the act of the request's arrival. -/
theorem State.opened_refuse {p : Port} {k : RequestKind} {st : Status} (ht : Taken s p h n) :
    ((s.opened p h k).refuse p h.tag k st).endAct = s.refused p h k st :=
  let ⟨_, _, _, htags⟩ := ht
  State.opened_answer htags

/-- A request whose progress is set in the act of its arrival waits with its slot (R196). -/
theorem State.opened_setProgress {p : Port} {k : RequestKind} (s : State) (progress : Progress)
    (htags : ∀ x ∈ (s.port p).slots, x.tag ≠ h.tag) :
    ((s.opened p h k).setProgress p h.tag progress).endAct = s.waiting p h k progress := by
  have others : (s.port p).slots.map (fun x => if x.tag = h.tag then { x with progress := progress } else x) = (s.port p).slots :=
    (List.map_congr_left fun x hx => if_neg (htags x hx)).trans (List.map_id _)
  cases p <;> simp [opened, arrive, occupy, beginAct, mapPort, setProgress, endAct, waiting] <;> exact others

section
variable {p : Port} {k : RequestKind} {st : Status} {r : Result}

@[simp] theorem State.replied_link (s : State) : (s.replied p h k st r).link = s.link := by
  simp [replied]

@[simp] theorem State.replied_index (s : State) : (s.replied p h k st r).index = s.index := by
  simp [replied]

@[simp] theorem State.replied_drain (s : State) : (s.replied p h k st r).drain = s.drain := by
  simp [replied]

@[simp] theorem State.replied_archiveFront (s : State) : (s.replied p h k st r).archiveFront = s.archiveFront :=
  archiveFront_congr (by simp) (by simp)

@[simp] theorem State.replied_holdFloor (s : State) : (s.replied p h k st r).holdFloor = s.holdFloor :=
  holdFloor_congr (by simp [replied]) (by simp)

@[simp] theorem State.replied_headroom (s : State) : (s.replied p h k st r).headroom = s.headroom :=
  headroom_congr (by simp [replied]) (by simp) (by simp)

theorem Rebanded.replied (hst : Rebanded s t) : Rebanded s (t.replied p h k st r) where
  band := by simpa using hst.band
  link := by simpa using hst.link

/-- The responses that had left in the act stay, each with the Top Notice of the act's end. -/
theorem State.mem_replied_sent_top {x : Response} (hx : x ∈ s.sent) :
    { x with top := (s.port x.port).notices.top } ∈ (s.replied p h k st r).sent := by
  have top : ((s.answer p h.tag k st r).port x.port).notices.top = (s.port x.port).notices.top :=
    congrArg NoticeUnit.top (answer_notices ..)
  rw [replied, endAct_sent, answer_sent, ← top]
  exact List.mem_map_of_mem (List.mem_append_left _ hx)

end

/-! ## The answers that parked takes receive (R118, R119) -/

section
variable {es : List Event} {ks : List NoticeKind} {k : ParkedTake} {st : Status} {r : Result}

/-- What changes neither the flags nor the ports adds nothing to a run of events. -/
theorem Signalled.of_ports (hst : Signalled s t es ks) (hf : u.flags = t.flags) (hp : ∀ p, u.port p = t.port p) :
    Signalled s u es ks where
  flags := hf.trans hst.flags
  pending p := by rw [hp, hst.pending]
  mask p := by rw [hp, hst.mask]
  links p := by rw [hp, hst.links]
  slots p := by rw [hp]; exact hst.slots p

/-- The answer of a take that was parked frees its slot, which a run of events need not keep. -/
theorem Signalled.answerTake (hst : Signalled s t es ks) (hk : k ∈ s.drain.parkedTakes) :
    Signalled s (t.answer .archive k.tag .take st r) es ks where
  flags := by simp [hst.flags]
  pending p := by rw [State.answer_notices, hst.pending]
  mask p := by rw [State.answer_notices, hst.mask]
  links p := by rw [State.answer_linkUp, hst.links]
  slots p x := by
    obtain ⟨back, forth⟩ := hst.slots p x
    refine ⟨fun hx => back (State.mem_answer_slots.mp hx).1, fun hx hwaits htakes => State.mem_answer_slots.mpr ?_⟩
    exact ⟨forth hx hwaits htakes, fun hp => htakes k hk hp.symm⟩

end

theorem State.unpark_drain (s : State) (k : ParkedTake) :
    (s.unpark k).drain = { s.drain with parkedTakes := s.drain.parkedTakes.filter fun x => x ≠ k } := rfl

/-- Parked takes complete with a status, in turn. -/
def State.endTakes (s : State) (st : Status) (takes : List ParkedTake) : State :=
  takes.foldl (fun s k => (s.unpark k).refuse .archive k.tag .take st) s

theorem State.endTakes_drain (s : State) (st : Status) (takes : List ParkedTake) :
    (s.endTakes st takes).drain
      = { s.drain with parkedTakes := s.drain.parkedTakes.filter fun k => k ∉ takes } := by
  unfold endTakes
  induction takes generalizing s with
  | nil => simp
  | cons k takes ih => simp [ih, unpark_drain, List.filter_filter, Bool.and_comm]

/-- What leaves for a parked take that completes with a status and no Claim record. -/
def ParkedTake.response (k : ParkedTake) (st : Status) : Response :=
  { port := .archive, tag := k.tag, kind := RequestKind.code .take, status := st, top := none, result := .none, data := [] }

theorem State.endTakes_sent (s : State) (st : Status) (takes : List ParkedTake) :
    (s.endTakes st takes).sent = s.sent ++ takes.map fun k => k.response st := by
  unfold endTakes
  induction takes generalizing s with
  | nil => simp
  | cons k takes ih =>
    have step : ((s.unpark k).refuse .archive k.tag .take st).sent = s.sent ++ [k.response st] := rfl
    simp [ih, step]

theorem Signalled.endTakes {es : List Event} {ks : List NoticeKind} {st : Status} {takes : List ParkedTake}
    (hst : Signalled s t es ks) (htakes : takes ⊆ s.drain.parkedTakes) : Signalled s (t.endTakes st takes) es ks := by
  unfold State.endTakes
  induction takes generalizing t with
  | nil => exact hst
  | cons k takes ih =>
    obtain ⟨hk, htakes⟩ := List.cons_subset.mp htakes
    have unparked : Signalled s (t.unpark k) es ks := hst.of_ports (by simp) (t.unpark_port k)
    exact ih (unparked.answerTake hk) htakes

/-- The window of a parked take's context is bounded and done (R119). -/
def State.takeDone (s : State) (k : ParkedTake) : Bool :=
  (s.drain.contexts[k.ctx].map fun w => w.done s.archiveFront).getD false

theorem State.endDoneTakes_eq (s : State) :
    s.endDoneTakes = s.endTakes .windowDone (s.drain.parkedTakes.filter s.takeDone) := rfl

theorem State.endDoneTakes_drain (s : State) :
    s.endDoneTakes.drain = { s.drain with parkedTakes := s.drain.parkedTakes.filter fun k => !s.takeDone k } := by
  have stays : ∀ k ∈ s.drain.parkedTakes, decide (k ∉ s.drain.parkedTakes.filter s.takeDone) = !s.takeDone k := by
    simp +contextual
  rw [endDoneTakes_eq, endTakes_drain, List.filter_congr stays]

theorem State.endDoneTakes_sent {k : ParkedTake} (hk : k ∈ s.drain.parkedTakes) (hdone : s.takeDone k = true) :
    k.response .windowDone ∈ s.endDoneTakes.sent := by
  rw [endDoneTakes_eq, endTakes_sent]
  exact List.mem_append_right _ (List.mem_map_of_mem (List.mem_filter.mpr ⟨hk, hdone⟩))

theorem Signalled.endDoneTakes (s : State) : Signalled s s.endDoneTakes [] [] :=
  (Signalled.of_eq rfl fun _ => rfl).endTakes List.filter_sublist.subset

/-! ## Bringing the ring up to date (R25, R109, R119, R126) -/

theorem State.setBand_link_eq (s : State) (b : Band) :
    (s.setBand b).link
      = { s.link with
          pause :=
            if b = s.ring.band then s.link.pause
            else pauseLevel b s.control.active.pauseOnCritical s.occupancy s.link.pause } := by
  unfold setBand
  split
  · rfl
  · simp [updatePause_link, occupancy]

/-- The Archive Mark is armed at or below ArchiveFront (R109). -/
def State.markReached (s : State) : Bool :=
  (s.control.archiveMark.map fun m => decide (m ≤ s.archiveFront)).getD false

/-- A mark that is reached is disarmed and its event raised; any other stays as it is (R109). -/
theorem State.testArchiveMark_eq (s : State) :
    s.testArchiveMark = if s.markReached then s.disarmArchiveMark.raise .archiveMark else s := by
  cases hm : s.control.archiveMark with
  | none => simp [testArchiveMark, markReached, hm]
  | some m => simp [testArchiveMark, markReached, disarmArchiveMark, hm]

theorem State.testArchiveMark_control (s : State) :
    s.testArchiveMark.control
      = { s.control with archiveMark := if s.markReached then none else s.control.archiveMark } := by
  rw [testArchiveMark_eq]
  split <;> simp [disarmArchiveMark]

@[simp] theorem State.testArchiveMark_archiveFront (s : State) : s.testArchiveMark.archiveFront = s.archiveFront :=
  archiveFront_congr (by simp) (by simp)

theorem Signalled.testArchiveMark (s : State) :
    Signalled s s.testArchiveMark (if s.markReached then [.archiveMark] else []) [] := by
  rw [State.testArchiveMark_eq]
  split
  · exact (Signalled.mapControl s _).trans (List.Subset.refl _) (.raise _ .archiveMark)
  · exact .of_eq rfl fun _ => rfl

section
variable {before : Nat}

/-- The Archive Mark fires when the ring is brought up to date: ArchiveFront has moved and has reached it (R109, R126). -/
def State.settleFires (s : State) (before : Nat) : Bool :=
  (s.control.archiveMark.map fun m => decide (s.archiveFront ≠ before ∧ m ≤ s.archiveFront)).getD false

/-- A parked take ends when the ring is brought up to date: ArchiveFront has moved and its bounded window is done (R119, R126). -/
def State.settleEnds (s : State) (before : Nat) (k : ParkedTake) : Bool :=
  (s.drain.contexts[k.ctx].map fun w =>
    decide (s.archiveFront ≠ before ∧ w.length ≠ 0 ∧ w.first + w.length ≤ s.archiveFront)).getD false

theorem State.settleFires_of_still (hstill : s.archiveFront = before) : s.settleFires before = false := by
  cases hm : s.control.archiveMark <;> simp [settleFires, hm, hstill]

theorem State.settleFires_of_moved (hmoved : s.archiveFront ≠ before) : s.settleFires before = s.markReached := by
  simp [settleFires, markReached, hmoved]

theorem State.settleEnds_of_still (hstill : s.archiveFront = before) (k : ParkedTake) : s.settleEnds before k = false := by
  cases hw : s.drain.contexts[k.ctx] <;> simp_all [settleEnds]

theorem State.settleEnds_of_moved (hmoved : s.archiveFront ≠ before) (k : ParkedTake) :
    s.settleEnds before k = s.takeDone k := by
  simp [settleEnds, takeDone, Window.done, hmoved]

theorem State.reband_ring (s : State) :
    s.reband.ring
      = { s.ring with
          band :=
            bandMove s.ring.band s.headroom s.control.active.pressed s.control.active.critical
              s.control.active.hysteresis } := by
  rw [reband, setBand_ring]

@[simp] theorem State.reband_archiveFront (s : State) : s.reband.archiveFront = s.archiveFront :=
  archiveFront_congr (by simp) (by simp)

theorem Signalled.reband (s : State) : Signalled s s.reband (bandEvents s.ring.band s.reband.ring.band) [] := by
  rw [State.reband_ring]
  exact .setBand s _

theorem State.settleRing_of_still (hstill : s.archiveFront = before) : s.settleRing before = s.reband := by
  simp [settleRing, hstill]

theorem State.settleRing_of_moved (hmoved : s.archiveFront ≠ before) :
    s.settleRing before = s.reband.testArchiveMark.endDoneTakes := by
  simp [settleRing, hmoved]

theorem State.settleRing_ring (s : State) (before : Nat) : (s.settleRing before).ring = s.reband.ring := by
  unfold settleRing
  dsimp only
  split <;> simp

theorem State.settleRing_link (s : State) (before : Nat) : (s.settleRing before).link = s.reband.link := by
  unfold settleRing
  dsimp only
  split <;> simp

@[simp] theorem State.settleRing_archiveFront (s : State) (before : Nat) :
    (s.settleRing before).archiveFront = s.archiveFront :=
  archiveFront_congr (by simp) (by simp)

@[simp] theorem State.settleRing_headroom (s : State) (before : Nat) : (s.settleRing before).headroom = s.headroom :=
  headroom_congr (by simp) (by simp) (holdFloor_congr (by simp) (by simp))

theorem Rebanded.settleRing (s : State) (before : Nat) : Rebanded s (s.settleRing before) where
  band := by rw [State.settleRing_ring, State.settleRing_headroom, State.reband_ring]
  link := by rw [State.settleRing_ring, State.settleRing_link, State.reband_ring, State.reband, State.setBand_link_eq]

theorem State.settleRing_control (s : State) (before : Nat) :
    (s.settleRing before).control
      = { s.control with archiveMark := if s.settleFires before then none else s.control.archiveMark } := by
  by_cases hfront : s.archiveFront = before
  · simp [settleRing_of_still hfront, settleFires_of_still hfront]
  · simp [settleRing_of_moved hfront, settleFires_of_moved hfront, testArchiveMark_control, markReached]

theorem State.settleRing_drain (s : State) (before : Nat) :
    (s.settleRing before).drain
      = { s.drain with parkedTakes := s.drain.parkedTakes.filter fun k => !s.settleEnds before k } := by
  by_cases hfront : s.archiveFront = before
  · simp [settleRing_of_still hfront, settleEnds_of_still hfront]
  · simp [settleRing_of_moved hfront, settleEnds_of_moved hfront, endDoneTakes_drain, takeDone]

/-- Each parked take that ends when the ring is brought up to date is answered WINDOW_DONE (R119). -/
theorem State.settleRing_sent {k : ParkedTake} (hk : k ∈ s.drain.parkedTakes) (hends : s.settleEnds before k = true) :
    k.response .windowDone ∈ (s.settleRing before).sent := by
  by_cases hfront : s.archiveFront = before
  · simp [settleEnds_of_still hfront] at hends
  · rw [settleEnds_of_moved hfront] at hends
    rw [settleRing_of_moved hfront]
    exact endDoneTakes_sent (by simpa using hk) (by simpa [takeDone] using hends)

theorem Signalled.settleRing (s : State) (before : Nat) :
    Signalled s (s.settleRing before)
      (bandEvents s.ring.band (s.settleRing before).ring.band ++ if s.settleFires before then [.archiveMark] else []) [] := by
  rw [State.settleRing_ring]
  by_cases hfront : s.archiveFront = before
  · simpa [State.settleRing_of_still hfront, State.settleFires_of_still hfront] using Signalled.reband s
  · have fires : s.reband.markReached = s.settleFires before := by
      simp [State.settleFires_of_moved hfront, State.markReached]
    rw [State.settleRing_of_moved hfront, ← fires]
    have tested := (Signalled.reband s).trans (by simp) (.testArchiveMark _)
    simpa using tested.trans (by simp) (.endDoneTakes _)

theorem State.settleRing_unsignalled (s : State) (before : Nat) :
    (s.settleRing before).unsignalled
      = State.unsignalled
          { s with
            ring := (s.settleRing before).ring
            control := (s.settleRing before).control
            drain := (s.settleRing before).drain
            link := (s.settleRing before).link } := by
  simp [unsignalled]

end

/-! ## Take (R115, R116, R117) -/

section
variable {w : Window} {b : Block} {wait : Bool}

theorem State.takeFrom_of_full (hfull : 8 ≤ (s.claims c).length) :
    s.takeFrom h c w wait = s.refuse .archive h.tag .take .limit :=
  if_pos hfull

theorem State.takeFrom_of_chosen (hroom : (s.claims c).length < 8) (hb : s.chosenBlock w = some b) :
    s.takeFrom h c w wait
      = if s.blockActive b.lbn then
          (s.claimBlock b.lbn c).answer .archive h.tag .take .ok (.claim (s.claimRecord b))
        else s.refuse .archive h.tag .take .asleep := by
  rw [takeFrom, if_neg hroom.not_ge, hb]

/-- The rows of R115 for a Take whose window covers no block of the drain order. -/
theorem State.takeFrom_of_unchosen (hroom : (s.claims c).length < 8) (hb : s.chosenBlock w = none) :
    s.takeFrom h c w wait
      = if w.done s.archiveFront then s.refuse .archive h.tag .take .windowDone
        else if wait = false ∨ s.control.capture = .stopped then s.refuse .archive h.tag .take .empty
        else if (s.parkedTakeOf c).isSome then s.refuse .archive h.tag .take .limit
        else s.parkTake c h.tag := by
  rw [takeFrom, if_neg hroom.not_ge, hb]
  cases wait <;> simp

end

theorem State.parkedTakeOf_isSome : (s.parkedTakeOf c).isSome = true ↔ ∃ k ∈ s.drain.parkedTakes, k.ctx = c := by
  simp [parkedTakeOf]

section
variable {w : Window} {wait : BitVec 8}

theorem exec_take_badParam (ht : Taken s .archive h 1) (hbad : 3 < h.target.toNat ∨ 1 < wait.toNat) :
    exec (.take h wait) s = .next (s.refused .archive h .take .badParam) := by
  refine congrArg Host.Outcome.next (State.request_refuse ht ?_)
  obtain hc | hw := hbad
  · rw [ctxParam_of_gt hc]
  · rw [yesNo_of_gt hw]
    cases ctxParam h <;> rfl

theorem exec_take_closed (ht : Taken s .archive h 1) (hc : h.target.toNat = c.val) (hw : wait.toNat ≤ 1)
    (hclosed : s.drain.contexts[c] = none) :
    exec (.take h wait) s = .next (s.refused .archive h .take .wrongState) := by
  refine congrArg Host.Outcome.next (State.request_refuse ht ?_)
  simp only [ctxParam_of_eq hc, yesNo_of_le hw, State.opened_drain, hclosed]

/-- The Take of an Open context is answered by the rows of R115. -/
theorem exec_take_open (ht : Taken s .archive h 1) (hc : h.target.toNat = c.val) (hw : wait.toNat ≤ 1)
    (hopen : s.drain.contexts[c] = some w) :
    exec (.take h wait) s
      = .next ((s.opened .archive h .take).takeFrom h c w (decide (wait = 1))).endAct := by
  refine congrArg Host.Outcome.next ((State.request_taken ht).trans ?_)
  simp only [ctxParam_of_eq hc, yesNo_of_le hw, State.opened_drain, hopen]

end

section
variable {w : Window} {wait : BitVec 8} (ht : Taken s .archive h 1) (hc : h.target.toNat = c.val) (hw : wait.toNat ≤ 1)
  (hopen : s.drain.contexts[c] = some w)
include ht hc hw hopen

theorem exec_take_full (hfull : 8 ≤ (s.claims c).length) :
    exec (.take h wait) s = .next (s.refused .archive h .take .limit) := by
  rw [exec_take_open ht hc hw hopen, State.takeFrom_of_full (by rwa [State.opened_claims]), State.opened_refuse ht]

variable (hroom : (s.claims c).length < 8)
include hroom

section
variable {b : Block} (hb : s.chosenBlock w = some b)
include hb

theorem exec_take_asleep (hasleep : s.power.groups[s.groupOf b.lbn].state ≠ .settled .active) :
    exec (.take h wait) s = .next (s.refused .archive h .take .asleep) := by
  rw [exec_take_open ht hc hw hopen, State.takeFrom_of_chosen (by rwa [State.opened_claims]) (by rwa [State.opened_chosenBlock]),
    State.opened_blockActive, if_neg (State.blockActive_iff.not.mpr hasleep), State.opened_refuse ht]

theorem exec_take_claims {e : Entry} (he : s.findEntry b.segment = some e)
    (hactive : s.power.groups[s.groupOf b.lbn].state = .settled .active) :
    exec (.take h wait) s
      = .next ((s.claimBlock b.lbn c).answered .archive h .take .ok
          (.claim
            { lbn := b.lbn, segment := b.segment, fillBytes := b.fillBytes
              firstOfSegment := decide (b.lbn = e.firstLbn)
              lastOfSegment := e.closeReason.isSome && decide (b.lbn + 1 = e.firstLbn + e.blockCount)
              damaged := b.damaged })) := by
  have ⟨_, _, _, htags⟩ := ht
  rw [exec_take_open ht hc hw hopen, State.takeFrom_of_chosen (by rwa [State.opened_claims]) (by rwa [State.opened_chosenBlock]),
    State.opened_blockActive, if_pos (State.blockActive_iff.mpr hactive), State.opened_claimBlock, State.opened_claimRecord,
    State.claimRecord_eq he, State.opened_answer (by simpa [State.port] using htags)]

end

variable (hb : s.chosenBlock w = none)
include hb

/-- The rows of R115 for a Take whose window covers no block of the drain order, from the state in which the request arrives. -/
theorem exec_take_unchosen :
    exec (.take h wait) s
      = .next (if w.done s.archiveFront then s.refused .archive h .take .windowDone
        else if wait = 0 ∨ s.control.capture = .stopped then s.refused .archive h .take .empty
        else if (s.parkedTakeOf c).isSome then s.refused .archive h .take .limit
        else
          (s.mapDrain fun d => { d with parkedTakes := d.parkedTakes ++ [{ ctx := c, tag := h.tag }] }).waiting .archive h .take
            .parked) := by
  have ⟨_, _, _, htags⟩ := ht
  have wait_no : decide (wait = 1) = false ↔ wait = 0 := by
    rw [decide_eq_false_iff_not]
    bv_omega
  have parks : ((s.opened .archive h .take).parkTake c h.tag).endAct
      = (s.mapDrain fun d => { d with parkedTakes := d.parkedTakes ++ [{ ctx := c, tag := h.tag }] }).waiting .archive h .take
          .parked := by
    rw [State.parkTake, State.opened_mapDrain, State.opened_setProgress _ _ (by simpa [State.port] using htags)]
  rw [exec_take_open ht hc hw hopen, State.takeFrom_of_unchosen (by rwa [State.opened_claims]) (by rwa [State.opened_chosenBlock])]
  simp only [wait_no, State.opened_archiveFront, State.opened_control, State.opened_parkedTakeOf, apply_ite State.endAct,
    State.opened_refuse ht, parks]

end

/-! ## Confirm (R126, R127) -/

/-- A block is Archived, and With Loss has marked its segment; the ring is not yet brought up to date (R126, R127). -/
def State.archiveOne (s : State) (b : Block) (withLoss : Bool) : State :=
  (s.mapBlock b.lbn fun b => { b with state := .archived }).markLoss b withLoss

theorem State.archiveOne_eq (s : State) (b : Block) (withLoss : Bool) :
    s.archiveOne b withLoss
      = { s with
          ring :=
            { s.ring with
              blocks := s.ring.blocks.map fun x => if x.lbn = b.lbn then { x with state := .archived } else x }
          index :=
            if withLoss then s.index.map fun e => if e.number = b.segment then { e with archivedWithLoss := true } else e
            else s.index } := by
  cases withLoss <;> rfl

section
variable (s : State) (b : Block) (withLoss : Bool)

@[simp] theorem State.archiveOne_link : (s.archiveOne b withLoss).link = s.link := by
  rw [archiveOne_eq]

@[simp] theorem State.archiveOne_assembler : (s.archiveOne b withLoss).assembler = s.assembler := by
  rw [archiveOne_eq]

@[simp] theorem State.archiveOne_control : (s.archiveOne b withLoss).control = s.control := by
  rw [archiveOne_eq]

@[simp] theorem State.archiveOne_drain : (s.archiveOne b withLoss).drain = s.drain := by
  rw [archiveOne_eq]

@[simp] theorem State.archiveOne_pins : (s.archiveOne b withLoss).pins = s.pins := by
  rw [archiveOne_eq]

@[simp] theorem State.archiveOne_store : (s.archiveOne b withLoss).store = s.store := by
  rw [archiveOne_eq]

@[simp] theorem State.archiveOne_power : (s.archiveOne b withLoss).power = s.power := by
  rw [archiveOne_eq]

@[simp] theorem State.archiveOne_flags : (s.archiveOne b withLoss).flags = s.flags := by
  rw [archiveOne_eq]

@[simp] theorem State.archiveOne_pending : (s.archiveOne b withLoss).pending = s.pending := by
  rw [archiveOne_eq]

theorem State.archiveOne_ring :
    (s.archiveOne b withLoss).ring
      = { s.ring with
          blocks := s.ring.blocks.map fun x => if x.lbn = b.lbn then { x with state := .archived } else x } := by
  rw [archiveOne_eq]

theorem State.archiveOne_index :
    (s.archiveOne b withLoss).index
      = if withLoss then s.index.map fun e => if e.number = b.segment then { e with archivedWithLoss := true } else e
        else s.index := by
  rw [archiveOne_eq]

end

theorem State.opened_archiveOne (s : State) (p : Port) (h : Header) (k : RequestKind) (b : Block) (withLoss : Bool) :
    (s.opened p h k).archiveOne b withLoss = (s.archiveOne b withLoss).opened p h k := by
  cases p <;> cases withLoss <;> rfl

/-- A Confirm has archived its block and brought the ring up to date; its own answer has not left (R126). -/
def State.confirmed (s : State) (h : Header) (b : Block) (withLoss : Bool) : State :=
  (s.opened .archive h .confirm).confirmBlock b withLoss

section
variable (s : State) (h : Header) (b : Block) (withLoss : Bool)

theorem State.confirmed_eq :
    s.confirmed h b withLoss = ((s.archiveOne b withLoss).opened .archive h .confirm).settleRing s.archiveFront := by
  rw [← opened_archiveOne]
  simp only [confirmed, confirmBlock, archiveOne, opened_archiveFront]

theorem State.confirmed_ring :
    (s.confirmed h b withLoss).ring
      = { s.ring with
          blocks := s.ring.blocks.map fun x => if x.lbn = b.lbn then { x with state := .archived } else x
          band := (s.confirmed h b withLoss).ring.band } := by
  simp [confirmed_eq, settleRing_ring, reband_ring, archiveOne_ring]

theorem State.confirmed_index : (s.confirmed h b withLoss).index = (s.archiveOne b withLoss).index := by
  simp [confirmed_eq]

@[simp] theorem State.confirmed_archiveFront :
    (s.confirmed h b withLoss).archiveFront = (s.archiveOne b withLoss).archiveFront := by
  simp [confirmed_eq]

theorem Rebanded.confirmed : Rebanded s (s.confirmed h b withLoss) := by
  obtain ⟨band, link⟩ := Rebanded.settleRing ((s.archiveOne b withLoss).opened .archive h .confirm) s.archiveFront
  rw [← State.confirmed_eq] at band link
  constructor
  · simpa [State.archiveOne_ring] using band
  · simpa [State.archiveOne_ring, State.occupancy] using link

theorem State.confirmed_control :
    (s.confirmed h b withLoss).control
      = { s.control with
          archiveMark :=
            if (s.archiveOne b withLoss).settleFires s.archiveFront then none else s.control.archiveMark } := by
  simp [confirmed_eq, settleRing_control, settleFires]

theorem State.confirmed_drain :
    (s.confirmed h b withLoss).drain
      = { s.drain with
          parkedTakes := s.drain.parkedTakes.filter fun k => !(s.archiveOne b withLoss).settleEnds s.archiveFront k } := by
  simp [confirmed_eq, settleRing_drain, settleEnds]

theorem Signalled.confirmed :
    Signalled (s.opened .archive h .confirm) (s.confirmed h b withLoss)
      (bandEvents s.ring.band (s.confirmed h b withLoss).ring.band
        ++ if (s.archiveOne b withLoss).settleFires s.archiveFront then [.archiveMark] else []) [] := by
  have archived : Signalled (s.opened .archive h .confirm) ((s.archiveOne b withLoss).opened .archive h .confirm) [] [] := by
    rw [← State.opened_archiveOne, State.archiveOne_eq]
    exact .of_eq rfl fun p => by cases p <;> rfl
  have settled := archived.trans (by simp) (.settleRing _ s.archiveFront)
  rw [← State.confirmed_eq] at settled
  simpa [State.archiveOne_ring, State.settleFires] using settled

theorem State.confirmed_unsignalled :
    (s.confirmed h b withLoss).unsignalled
      = State.unsignalled
          { s with
            ring := (s.confirmed h b withLoss).ring
            index := (s.confirmed h b withLoss).index
            control := (s.confirmed h b withLoss).control
            drain := (s.confirmed h b withLoss).drain
            link := (s.confirmed h b withLoss).link } := by
  simp [unsignalled, confirmed_eq]

end

theorem State.confirmed_sent {b : Block} {withLoss : Bool} {k : ParkedTake} (hk : k ∈ s.drain.parkedTakes)
    (hends : (s.archiveOne b withLoss).settleEnds s.archiveFront k = true) :
    k.response .windowDone ∈ (s.confirmed h b withLoss).sent := by
  rw [confirmed_eq]
  exact settleRing_sent (by simpa using hk) (by simpa [settleEnds] using hends)

section
variable {lbn : BitVec 64} {withLoss : BitVec 8}

theorem exec_confirm_badParam (ht : Taken s .archive h 9)
    (hbad : 3 < h.target.toNat ∨ 2 ^ 40 - 1 < lbn.toNat ∨ 1 < withLoss.toNat) :
    exec (.confirm h lbn withLoss) s = .next (s.refused .archive h .confirm .badParam) := by
  refine congrArg Host.Outcome.next (State.request_refuse ht ?_)
  obtain hc | hl | hw := hbad
  · rw [ctxParam_of_gt hc]
  · rw [lbnParam_of_gt hl]
    cases ctxParam h <;> rfl
  · rw [yesNo_of_gt hw]
    cases ctxParam h <;> cases lbnParam lbn <;> rfl

variable (ht : Taken s .archive h 9) (hc : h.target.toNat = c.val) (hl : lbn.toNat ≤ 2 ^ 40 - 1) (hw : withLoss.toNat ≤ 1)
include ht hc hl hw

theorem exec_confirm_notClaimed (hno : s.claimedBlock c lbn.toNat = none) :
    exec (.confirm h lbn withLoss) s = .next (s.refused .archive h .confirm .notClaimed) := by
  refine congrArg Host.Outcome.next (State.request_refuse ht ?_)
  simp only [ctxParam_of_eq hc, lbnParam_of_le hl, yesNo_of_le hw, State.opened_claimedBlock, hno]

theorem exec_confirm_claimed {b : Block} (hb : s.claimedBlock c lbn.toNat = some b) :
    exec (.confirm h lbn withLoss) s
      = .next ((s.confirmed h b (decide (withLoss = 1))).replied .archive h .confirm .ok
          (.archiveFront (s.confirmed h b (decide (withLoss = 1))).archiveFront)) := by
  refine congrArg Host.Outcome.next ((State.request_taken ht).trans ?_)
  simp only [ctxParam_of_eq hc, lbnParam_of_le hl, yesNo_of_le hw, State.opened_claimedBlock, hb]
  rfl

end

/-! ## Return (R118, R129) -/

/-- A parked take's window covers an LBN (R118). -/
def State.wants (s : State) (n : Nat) (k : ParkedTake) : Bool :=
  (s.drain.contexts[k.ctx].map fun w => w.covers n).getD false

theorem State.wants_eq_true {k : ParkedTake} :
    s.wants n k = true ↔ ∃ w ∈ s.drain.contexts[k.ctx], w.covers n = true := by
  cases hw : s.drain.contexts[k.ctx] <;> simp_all [wants]

theorem State.wants_eq_false {k : ParkedTake} :
    s.wants n k = false ↔ ∀ w ∈ s.drain.contexts[k.ctx], w.covers n = false := by
  cases hw : s.drain.contexts[k.ctx] <;> simp_all [wants]

theorem State.takerOf_eq (s : State) (n : Nat) : s.takerOf n = s.drain.parkedTakes.find? (s.wants n) := rfl

/-- A block that no parked take's window covers stays in the drain order (R118). -/
theorem State.takerOf_eq_none (hk : ∀ k ∈ s.drain.parkedTakes, ∀ w ∈ s.drain.contexts[k.ctx], w.covers n = false) :
    s.takerOf n = none := by
  rw [takerOf_eq, List.find?_eq_none]
  intro k hmem
  rw [wants_eq_false.mpr (hk k hmem)]
  decide

/-- The oldest parked take whose window covers a block receives it (R118). -/
theorem State.takerOf_eq_some {older younger : List ParkedTake} {k : ParkedTake}
    (hsplit : s.drain.parkedTakes = older ++ k :: younger)
    (holder : ∀ j ∈ older, ∀ w ∈ s.drain.contexts[j.ctx], w.covers n = false)
    (hk : ∃ w ∈ s.drain.contexts[k.ctx], w.covers n = true) : s.takerOf n = some k := by
  rw [takerOf_eq, hsplit, List.find?_eq_some_iff_append]
  refine ⟨wants_eq_true.mpr hk, older, younger, rfl, fun j hj => ?_⟩
  rw [wants_eq_false.mpr (holder j hj)]
  rfl

theorem State.findBlock_mapBlock {f : Block → Block} (hf : ∀ b, (f b).lbn = b.lbn) :
    (s.mapBlock n f).findBlock n = (s.findBlock n).map f := by
  have keeps : (fun b : Block => decide (b.lbn = n)) ∘ (fun b => if b.lbn = n then f b else b) = fun b => decide (b.lbn = n) := by
    funext b
    by_cases hb : b.lbn = n <;> simp [hf, hb]
  simp only [findBlock, mapBlock_ring, List.find?_map, keeps]
  refine Option.map_congr fun b hb => if_pos ?_
  simpa using List.find?_some hb

/-- A block that has joined the drain order is claimed for a parked take, which is answered with its Claim record (R118). -/
def State.serveTake (s : State) (k : ParkedTake) (b : Block) : State :=
  ((s.unpark k).claimBlock b.lbn k.ctx).answer .archive k.tag .take .ok (.claim (s.claimRecord b))

/-- The block is Sealed again and not yet offered (R129). -/
def State.unclaim (s : State) (b : Block) : State :=
  s.mapBlock b.lbn fun b => { b with state := .sealed }

theorem State.returnOne_of_no_taker {b : Block} (hk : s.takerOf b.lbn = none) : s.returnOne b = s.unclaim b := by
  have untaken : (s.unclaim b).takerOf b.lbn = none := hk
  rw [returnOne, ← unclaim, offer, untaken]

theorem State.returnOne_of_taker {b : Block} {k : ParkedTake} (hb : s.findBlock b.lbn = some b) (hk : s.takerOf b.lbn = some k) :
    s.returnOne b = (s.unclaim b).serveTake k { b with state := .sealed } := by
  have taken : (s.unclaim b).takerOf b.lbn = some k := hk
  have found : (s.unclaim b).findBlock b.lbn = some { b with state := .sealed } := by
    rw [unclaim, findBlock_mapBlock (by simp), hb]
    rfl
  rw [returnOne, ← unclaim, offer, taken, found]
  rfl

/-- A Return has given its block to a parked take; its own answer has not left (R129). -/
def State.returnedTo (s : State) (h : Header) (k : ParkedTake) (b : Block) : State :=
  ((s.opened .archive h .returnBlock).unclaim b).serveTake k { b with state := .sealed }

section
variable {lbn : BitVec 64}

theorem exec_return_badParam (ht : Taken s .archive h 8) (hbad : 3 < h.target.toNat ∨ 2 ^ 40 - 1 < lbn.toNat) :
    exec (.returnBlock h lbn) s = .next (s.refused .archive h .returnBlock .badParam) := by
  refine congrArg Host.Outcome.next (State.request_refuse ht ?_)
  obtain hc | hl := hbad
  · rw [ctxParam_of_gt hc]
  · rw [lbnParam_of_gt hl]
    cases ctxParam h <;> rfl

variable (ht : Taken s .archive h 8) (hc : h.target.toNat = c.val) (hl : lbn.toNat ≤ 2 ^ 40 - 1)
include ht hc hl

theorem exec_return_notClaimed (hno : s.claimedBlock c lbn.toNat = none) :
    exec (.returnBlock h lbn) s = .next (s.refused .archive h .returnBlock .notClaimed) := by
  refine congrArg Host.Outcome.next (State.request_refuse ht ?_)
  simp only [ctxParam_of_eq hc, lbnParam_of_le hl, State.opened_claimedBlock, hno]

theorem exec_return_claimed {b : Block} (hb : s.claimedBlock c lbn.toNat = some b) :
    exec (.returnBlock h lbn) s
      = .next (((s.opened .archive h .returnBlock).returnOne b).replied .archive h .returnBlock .ok
          (.served ((s.takerOf lbn.toNat).map ParkedTake.ctx))) := by
  refine congrArg Host.Outcome.next ((State.request_taken ht).trans ?_)
  simp only [ctxParam_of_eq hc, lbnParam_of_le hl, State.opened_claimedBlock, State.opened_takerOf, hb]
  rfl

/-- A block that no parked take's window covers is Sealed again, and nothing else changes (R129). -/
theorem exec_return_rejoins {b : Block} (hb : s.claimedBlock c lbn.toNat = some b) (hk : s.takerOf b.lbn = none) :
    exec (.returnBlock h lbn) s = .next ((s.unclaim b).answered .archive h .returnBlock .ok (.served none)) := by
  have ⟨_, _, _, htags⟩ := ht
  obtain ⟨-, hfound, -⟩ := State.claimedBlock_eq_some.mp hb
  rw [exec_return_claimed ht hc hl hb, ← State.lbn_of_findBlock hfound, hk,
    State.returnOne_of_no_taker (by rwa [State.opened_takerOf]), State.unclaim, State.opened_mapBlock]
  exact congrArg Host.Outcome.next (State.opened_answer htags)

theorem exec_return_served {b : Block} {k : ParkedTake} (hb : s.claimedBlock c lbn.toNat = some b)
    (hk : s.takerOf b.lbn = some k) :
    exec (.returnBlock h lbn) s
      = .next ((s.returnedTo h k b).replied .archive h .returnBlock .ok (.served (some k.ctx))) := by
  obtain ⟨-, hfound, -⟩ := State.claimedBlock_eq_some.mp hb
  have hlbn := State.lbn_of_findBlock hfound
  rw [exec_return_claimed ht hc hl hb, ← hlbn, hk,
    State.returnOne_of_taker (by rwa [State.opened_findBlock, hlbn]) (by rwa [State.opened_takerOf])]
  rfl

end

section
variable (s : State) (h : Header) (k : ParkedTake) (b : Block)

theorem State.returnedTo_ring :
    (s.returnedTo h k b).ring
      = { s.ring with
          blocks := s.ring.blocks.map fun x => if x.lbn = b.lbn then { x with state := .claimed k.ctx } else x } := by
  have claimed (x : Block) :
      (if (if x.lbn = b.lbn then { x with state := .sealed } else x).lbn = b.lbn then
          { (if x.lbn = b.lbn then { x with state := .sealed } else x) with state := .claimed k.ctx }
        else if x.lbn = b.lbn then { x with state := .sealed } else x)
        = if x.lbn = b.lbn then { x with state := BlockState.claimed k.ctx } else x := by
    by_cases hx : x.lbn = b.lbn <;> simp [hx]
  simp [returnedTo, serveTake, claimBlock, unclaim, Function.comp_def, claimed]

theorem State.returnedTo_drain :
    (s.returnedTo h k b).drain = { s.drain with parkedTakes := s.drain.parkedTakes.filter fun x => x ≠ k } := by
  simp [returnedTo, serveTake, unpark_drain, unclaim]

@[simp] theorem State.returnedTo_pins : (s.returnedTo h k b).pins = s.pins := by
  simp [returnedTo, serveTake, unclaim]

@[simp] theorem State.returnedTo_power : (s.returnedTo h k b).power = s.power := by
  simp [returnedTo, serveTake, unclaim]

theorem State.returnedTo_unsignalled :
    (s.returnedTo h k b).unsignalled
      = State.unsignalled { s with ring := (s.returnedTo h k b).ring, drain := (s.returnedTo h k b).drain } := by
  simp [unsignalled, returnedTo, serveTake, unclaim]

theorem State.returnedTo_sent :
    (s.returnedTo h k b).sent
      = [{ port := .archive, tag := k.tag, kind := RequestKind.code .take, status := .ok, top := none
           result := .claim (s.claimRecord b), data := [] }] := by
  simp [returnedTo, serveTake, unclaim, answer_sent]
  rfl

end

/-- A take that stands once in the arrival order leaves it, and the others keep their order (R118). -/
theorem filter_ne_split {older younger : List ParkedTake} {k : ParkedTake} (hold : k ∉ older) (hyoung : k ∉ younger) :
    (older ++ k :: younger).filter (fun x => x ≠ k) = older ++ younger := by
  have others {l : List ParkedTake} (hl : k ∉ l) : l.filter (fun x => x ≠ k) = l :=
    List.filter_eq_self.mpr fun x hx => decide_eq_true (ne_of_mem_of_not_mem hx hl)
  rw [List.filter_append, List.filter_cons_of_neg (by simp), others hold, others hyoung]

theorem Signalled.returnedTo {k : ParkedTake} (hk : k ∈ s.drain.parkedTakes) (b : Block) :
    Signalled (s.opened .archive h .returnBlock) (s.returnedTo h k b) [] [] := by
  refine Signalled.answerTake (.of_eq rfl fun p => ?_) (by simpa using hk)
  cases p <;> rfl

/-- A Return leaves every block's archiving as it was: the block it returns was Claimed, and Sealed or Claimed it is no more Archived (R13, R129). -/
theorem RingForm.returnedTo_archiveFront (hr : RingForm s) {b : Block} (hb : s.findBlock b.lbn = some b)
    (hclaimed : b.state = .claimed c) (k : ParkedTake) : (s.returnedTo h k b).archiveFront = s.archiveFront := by
  refine State.archiveFront_map (s.returnedTo_ring h k b) (fun x => ?_) fun x hx => ?_
  · split <;> rfl
  · split
    next hlbn =>
      obtain rfl := hr.eq_of_lbn_eq hx (List.mem_of_find?_eq_some hb) hlbn
      simp [Block.unarchived, hclaimed]
    next => rfl

end Sys2Proof.Machine

namespace Sys2Proof.Proofs
open Sys2Proof.Machine

/-- Settles O38. A Take of an Open context with room for a claim goes by the block that its window chooses: with one, by the power of the block's group, and
without one, by the rows of R115 that follow. -/
theorem takeAnswers : Obligations.TakeAnswers := by
  refine fun h wait s ht => ⟨exec_take_badParam ht, fun c hc hw => ⟨exec_take_closed ht hc hw, fun w hopen =>
    ⟨exec_take_full ht hc hw hopen, fun hroom => ⟨fun b hb => ?_, fun huncovered => ?_⟩⟩⟩⟩
  · rw [← State.chosenBlock_eq] at hb
    exact ⟨exec_take_asleep ht hc hw hopen hroom hb, fun e he => exec_take_claims ht hc hw hopen hroom hb he⟩
  · rw [exec_take_unchosen ht hc hw hopen hroom (State.chosenBlock_eq_none huncovered)]
    refine ⟨fun hdone => ?_, fun hahead => ?_⟩
    · rw [if_pos (Window.done_iff.mpr hdone)]
    rw [if_neg (Window.done_iff.not.mpr (by omega))]
    refine ⟨fun hempty => by rw [if_pos hempty], fun hwait hrun hparked => ?_, fun hwait hrun hfree => ?_⟩
    · rw [if_neg (by simp [hwait, hrun]), if_pos (State.parkedTakeOf_isSome.mpr hparked)]
    · rw [if_neg (by simp [hwait, hrun]), if_neg (State.parkedTakeOf_isSome.not.mpr (by simpa using hfree))]
      rfl

/-- Settles O40. The block is Archived in the state that the request opened, the ring is brought up to date from there, and the request's own answer ends
the act. -/
theorem confirmArchives : Obligations.ConfirmArchives := by
  refine fun h lbn withLoss s ht => ⟨exec_confirm_badParam ht, fun c hc hl hw =>
    ⟨fun hno => exec_confirm_notClaimed ht hc hl hw (State.claimedBlock_eq_none hno), fun b hopen hb hclaimed => ?_⟩⟩
  rw [← State.lbn_of_findBlock hb]
  refine ⟨_, (s.archiveOne b (decide (withLoss = 1))).settleFires s.archiveFront,
    (s.archiveOne b (decide (withLoss = 1))).settleEnds s.archiveFront,
    exec_confirm_claimed ht hc hl hw (State.claimedBlock_eq_some.mpr ⟨hopen, hb, hclaimed⟩), ?_, ?_,
    (Rebanded.confirmed ..).replied, ?_, ?_, ?_, fun k => ?_, ?_, fun k hk hends => ?_, ?_, ?_⟩
  · rw [State.replied_archiveFront]
    exact State.replied_answers _
  · rw [State.replied_ring]
    exact State.confirmed_ring ..
  · simp [State.confirmed_index, State.archiveOne_index]
  · simp [State.settleFires]
  · rw [State.replied_control, State.confirmed_control]
  · simp [State.settleEnds]
  · rw [State.replied_drain, State.confirmed_drain]
  · exact State.mem_replied_sent (State.confirmed_sent hk hends)
  · rw [State.replied_ring]
    exact (Signalled.confirmed ..).replied ht
  · simpa using State.confirmed_unsignalled ..

/-- Settles O41. A block that no parked take's window covers stays Sealed in the drain order; any other goes to the oldest take that covers it, and as neither
state is Archived the fronts of the ring stay. -/
theorem returnRejoins : Obligations.ReturnRejoins := by
  refine fun h lbn s ht => ⟨exec_return_badParam ht, fun c hc hl =>
    ⟨fun hno => exec_return_notClaimed ht hc hl (State.claimedBlock_eq_none hno), fun b hr hopen hb hclaimed => ?_⟩⟩
  have hclaim := State.claimedBlock_eq_some.mpr ⟨hopen, hb, hclaimed⟩
  have hlbn := State.lbn_of_findBlock hb
  rw [← hlbn] at hb ⊢
  refine ⟨fun huncovered => exec_return_rejoins ht hc hl hclaim (State.takerOf_eq_none huncovered),
    fun older younger k hsplit holder hcovers hyounger => ?_⟩
  have hparked : k ∈ s.drain.parkedTakes := by simp [hsplit]
  have htaker := State.takerOf_eq_some hsplit holder hcovers
  have front := hr.returnedTo_archiveFront (h := h) hb hclaimed k
  have floor : (s.returnedTo h k b).holdFloor = s.holdFloor := State.holdFloor_congr (by simp) front
  refine ⟨_, exec_return_served ht hc hl hclaim htaker, State.replied_answers _, ?_, ?_, ?_, ?_,
    (Signalled.returnedTo hparked b).replied ht, ?_⟩
  · exact ⟨_, State.mem_replied_sent_top (by rw [State.returnedTo_sent]; exact List.mem_singleton_self _), rfl, rfl, rfl,
      s.claimRecord b, rfl, rfl, rfl, rfl, rfl⟩
  · rw [State.replied_archiveFront, front]
  · rw [State.replied_holdFloor, floor]
  · rw [State.replied_headroom]
    exact State.headroom_congr (by simp) (by simp [State.returnedTo_ring]) floor
  · have hold : k ∉ older := by
      obtain ⟨w, hw, hcovered⟩ := hcovers
      exact fun hk => by simp [holder k hk w hw] at hcovered
    rw [State.replied_unsignalled, State.returnedTo_unsignalled, State.returnedTo_ring, State.returnedTo_drain, hsplit,
      filter_ne_split hold hyounger]

end Sys2Proof.Proofs

/-!
The requests that name a block by its LBN in a range of their own: Fetch of a claimed block, Read of a pinned one, and Pin and Unpin, which make the ranges
(R122, R137, R138, R141, R142). Before them stand what they share: the piece of a block that a Fetch or a Read names, the range of a pin and the lowest Free
pin, and what a pin that comes or goes does to the ring.
-/
namespace Sys2Proof.Machine

variable {s : State} {p : Port} {h : Header} {k : RequestKind} {c : Fin 4} {i : Fin 8} {r : PinRange} {b : Block}

/-! ## The parameter fields (R122, R137, R142, R203) -/

theorem below_of_eq {n m : Nat} {j : Fin n} (hm : m = j.val) : below n m = some j := by
  simp [below, hm]

theorem below_of_ge {n m : Nat} (hm : n ≤ m) : below n m = none :=
  dif_neg hm.not_gt

theorem pieceOk_iff {offset length : BitVec 32} :
    pieceOk offset length = true
      ↔ offset.toNat % 64 = 0 ∧ length.toNat % 64 = 0 ∧ 64 ≤ length.toNat ∧ length.toNat ≤ 65536 := by
  simp [pieceOk, and_assoc]

/-- A request that joins a queue of the Store Channel in the act of its arrival waits there with its slot (R122, R142, R196). -/
theorem State.opened_queued (f : Store → Store) (htags : ∀ x ∈ (s.port p).slots, x.tag ≠ h.tag) :
    (((s.opened p h k).mapStore f).setProgress p h.tag .queued).endAct = (s.mapStore f).waiting p h k .queued := by
  rw [opened_mapStore, opened_setProgress]
  cases p <;> exact htags

/-! ## Fetch (R122) -/

section
variable {lbn : BitVec 64} {offset length : BitVec 32} (ht : Taken s .archive h 16)
include ht

theorem exec_fetch_badParam
    (hbad : ¬ (h.target.toNat ≤ 3 ∧ lbn.toNat ≤ 2 ^ 40 - 1 ∧ pieceOk offset length = true)) :
    exec (.fetch h lbn offset length) s = .next (s.refused .archive h .fetch .badParam) := by
  refine congrArg Host.Outcome.next (State.request_refuse ht ?_)
  obtain hc | hl | hpiece : 3 < h.target.toNat ∨ 2 ^ 40 - 1 < lbn.toNat ∨ pieceOk offset length = false := by
    grind
  · rw [ctxParam_of_gt hc]
  · rw [lbnParam_of_gt hl]
    cases ctxParam h <;> rfl
  · rw [hpiece]
    cases ctxParam h <;> cases lbnParam lbn <;> rfl

variable (hc : h.target.toNat = c.val) (hl : lbn.toNat ≤ 2 ^ 40 - 1) (hpiece : pieceOk offset length = true)
include hc hl hpiece

theorem exec_fetch_notClaimed (hno : s.claimedBlock c lbn.toNat = none) :
    exec (.fetch h lbn offset length) s = .next (s.refused .archive h .fetch .notClaimed) := by
  refine congrArg Host.Outcome.next (State.request_refuse ht ?_)
  simp only [ctxParam_of_eq hc, lbnParam_of_le hl, hpiece, State.opened_claimedBlock, hno]

/-- The rows of R122 that follow for a block its context claims: its fill, then the power of its group, then the queue. -/
theorem exec_fetch_claimed (hb : s.claimedBlock c lbn.toNat = some b) :
    exec (.fetch h lbn offset length) s
      = .next (if b.fillBytes ≤ offset.toNat then s.refused .archive h .fetch .badParam
        else if s.blockActive b.lbn then
          (s.mapStore fun t =>
            { t with
              archiveQueue :=
                t.archiveQueue
                  ++ [{ tag := h.tag, lbn := b.lbn, offset := offset.toNat
                        length := min length.toNat (b.fillBytes - offset.toNat)
                        clamped := decide (b.fillBytes - offset.toNat < length.toNat) }] }).waiting .archive h .fetch .queued
        else s.refused .archive h .fetch .asleep) := by
  have ⟨_, _, _, htags⟩ := ht
  obtain ⟨-, hfound, -⟩ := State.claimedBlock_eq_some.mp hb
  refine congrArg Host.Outcome.next ((State.request_taken ht).trans ?_)
  simp only [ctxParam_of_eq hc, lbnParam_of_le hl, hpiece, State.opened_claimedBlock, hb, State.lbn_of_findBlock hfound,
    State.opened_blockActive, apply_ite State.endAct, State.opened_refuse ht, State.opened_queued _ htags]
  cases s.blockActive lbn.toNat <;> rfl

end

/-! ## Read (R142) -/

theorem PinRange.covers_iff {n : Nat} : r.covers n = true ↔ r.first ≤ n ∧ n < r.rangeEnd := by
  simp [covers]

section
variable {n offset length : Nat}

theorem State.checkRead_of_outside (hout : n < r.first ∨ r.rangeEnd ≤ n) :
    s.checkRead h i r n offset length = s.refuse .viewer h.tag .read .outOfWindow := by
  have uncovered : r.covers n = false := Bool.eq_false_iff.mpr (PinRange.covers_iff.not.mpr (by omega))
  simp [checkRead, uncovered]

/-- The rows of R142 that follow for a held block that the pin covers: its fill, then the power of its group, then the queue. -/
theorem State.checkRead_of_found (hin : r.first ≤ n ∧ n < r.rangeEnd) (hb : s.findBlock n = some b) :
    s.checkRead h i r n offset length
      = if b.fillBytes ≤ offset then s.refuse .viewer h.tag .read .badParam
        else if s.blockActive b.lbn then
          (s.mapStore fun t =>
            { t with
              viewerQueue :=
                t.viewerQueue ++ [{ tag := h.tag, pin := i, lbn := b.lbn, offset := offset, length := length }] }).setProgress
            .viewer h.tag .queued
        else s.refuse .viewer h.tag .read .asleep := by
  rw [checkRead, PinRange.covers_iff.mpr hin, hb, lbn_of_findBlock hb]
  cases s.blockActive n <;> rfl

end

section
variable {lbn : BitVec 64} {offset length : BitVec 32} (ht : Taken s .viewer h 16)
include ht

theorem exec_read_badParam
    (hbad : ¬ (h.target.toNat ≤ 7 ∧ lbn.toNat ≤ 2 ^ 40 - 1 ∧ pieceOk offset length = true)) :
    exec (.read h lbn offset length) s = .next (s.refused .viewer h .read .badParam) := by
  refine congrArg Host.Outcome.next (State.request_refuse ht ?_)
  obtain hi | hl | hpiece : 8 ≤ h.target.toNat ∨ 2 ^ 40 - 1 < lbn.toNat ∨ pieceOk offset length = false := by
    grind
  · rw [below_of_ge hi]
  · rw [lbnParam_of_gt hl]
    cases below 8 h.target.toNat <;> rfl
  · rw [hpiece]
    cases below 8 h.target.toNat <;> cases lbnParam lbn <;> rfl

variable (hi : h.target.toNat = i.val) (hl : lbn.toNat ≤ 2 ^ 40 - 1) (hpiece : pieceOk offset length = true)
include hi hl hpiece

theorem exec_read_free (hfree : s.pins[i] = none) :
    exec (.read h lbn offset length) s = .next (s.refused .viewer h .read .badParam) := by
  refine congrArg Host.Outcome.next (State.request_refuse ht ?_)
  simp only [below_of_eq hi, lbnParam_of_le hl, hpiece, State.opened_pins, hfree]

/-- The Read of a Live pin is answered by the rows of R142. -/
theorem exec_read_live (hlive : s.pins[i] = some r) :
    exec (.read h lbn offset length) s
      = .next ((s.opened .viewer h .read).checkRead h i r lbn.toNat offset.toNat length.toNat).endAct := by
  refine congrArg Host.Outcome.next ((State.request_taken ht).trans ?_)
  simp only [below_of_eq hi, lbnParam_of_le hl, hpiece, State.opened_pins, hlive]

theorem exec_read_outside (hlive : s.pins[i] = some r) (hout : lbn.toNat < r.first ∨ r.rangeEnd ≤ lbn.toNat) :
    exec (.read h lbn offset length) s = .next (s.refused .viewer h .read .outOfWindow) := by
  rw [exec_read_live ht hi hl hpiece hlive, State.checkRead_of_outside hout, State.opened_refuse ht]

theorem exec_read_found (hlive : s.pins[i] = some r) (hin : r.first ≤ lbn.toNat ∧ lbn.toNat < r.rangeEnd)
    (hb : s.findBlock lbn.toNat = some b) :
    exec (.read h lbn offset length) s
      = .next (if b.fillBytes ≤ offset.toNat then s.refused .viewer h .read .badParam
        else if s.blockActive b.lbn then
          (s.mapStore fun t =>
            { t with
              viewerQueue :=
                t.viewerQueue
                  ++ [{ tag := h.tag, pin := i, lbn := b.lbn, offset := offset.toNat
                        length := length.toNat }] }).waiting .viewer h .read .queued
        else s.refused .viewer h .read .asleep) := by
  have ⟨_, _, _, htags⟩ := ht
  rw [exec_read_live ht hi hl hpiece hlive, State.checkRead_of_found hin (by rwa [State.opened_findBlock])]
  simp only [State.opened_blockActive, apply_ite State.endAct, State.opened_refuse ht, State.opened_queued _ htags]

end

/-! ## The lowest Free pin (R138) -/

theorem State.freePin_eq_none (hlive : ∀ i : Fin 8, s.pins[i].isSome = true) : s.freePin = none := by
  simpa [freePin, Option.ne_none_iff_isSome] using hlive

theorem State.freePin_eq_some (hfree : s.pins[i] = none) (hlive : ∀ j : Fin 8, j < i → s.pins[j].isSome = true) :
    s.freePin = some i := by
  rw [freePin, List.find?_eq_some_iff_getElem]
  refine ⟨by simp only [hfree, Option.isNone_none], i, by simp, by simp, fun j hj => ?_⟩
  have live := hlive ⟨j, hj.trans i.isLt⟩ hj
  simpa [Option.isSome_iff_ne_none] using live

/-! ## A pin that comes or goes (R11, R25, R136, R138, R141) -/

theorem Rebanded.reband (s : State) : Rebanded s s.reband := by
  rw [← State.settleRing_of_still (s := s) rfl]
  exact .settleRing s _

theorem State.reband_unsignalled (s : State) :
    s.reband.unsignalled = State.unsignalled { s with ring := s.reband.ring, link := s.reband.link } := by
  simp [unsignalled]

/-- A pin and the Pin Counts of a range have changed; the band is not yet re-evaluated. -/
def State.pinMoved (s : State) (i : Fin 8) (pin : Option PinRange) (r : PinRange) (f : Nat → Nat) : State :=
  (s.putPin i pin).mapPinCounts r f

theorem State.pinMoved_eq (s : State) (i : Fin 8) (pin : Option PinRange) (r : PinRange) (f : Nat → Nat) :
    s.pinMoved i pin r f
      = { s with
          pins := s.pins.set i pin
          ring :=
            { s.ring with
              blocks := s.ring.blocks.map fun b =>
                if r.first ≤ b.lbn ∧ b.lbn < r.rangeEnd then { b with pinCount := f b.pinCount } else b } } := by
  simp only [pinMoved, mapPinCounts, PinRange.covers_iff]
  rfl

theorem State.takePin_eq (s : State) (i : Fin 8) (r : PinRange) :
    s.takePin i r = (s.pinMoved i (some r) r fun n => n + 1).reband := rfl

theorem State.dropPin_eq (hlive : s.pins[i] = some r) : s.dropPin i = s.pinMoved i none r fun n => n - 1 := by
  rw [dropPin, hlive]
  rfl

section
variable (s : State) (p : Port) (h : Header) (k : RequestKind) (i : Fin 8) (pin : Option PinRange) (r : PinRange) (f : Nat → Nat)

/-- A request's move of a pin has ended in the re-evaluation of the band; its answer has not left. -/
def State.repinned : State :=
  ((s.opened p h k).pinMoved i pin r f).reband

theorem Rebanded.repinned : Rebanded s (s.repinned p h k i pin r f) := by
  obtain ⟨band, link⟩ := Rebanded.reband ((s.opened p h k).pinMoved i pin r f)
  rw [← State.repinned] at band link
  exact ⟨by simpa [State.pinMoved_eq] using band, by simpa [State.pinMoved_eq, State.occupancy] using link⟩

theorem Signalled.repinned :
    Signalled (s.opened p h k) (s.repinned p h k i pin r f)
      (bandEvents s.ring.band (s.repinned p h k i pin r f).ring.band) [] := by
  have moved : Signalled (s.opened p h k) ((s.opened p h k).pinMoved i pin r f) [] [] :=
    .of_eq rfl fun q => by cases q <;> rfl
  have rebanded := moved.trans (by simp [State.pinMoved_eq]) (.reband _)
  rw [← State.repinned] at rebanded
  simpa [State.pinMoved_eq] using rebanded

theorem State.repinned_unsignalled :
    (s.repinned p h k i pin r f).unsignalled
      = State.unsignalled
          { s with
            pins := s.pins.set i pin
            ring :=
              { s.ring with
                blocks := s.ring.blocks.map fun b =>
                  if r.first ≤ b.lbn ∧ b.lbn < r.rangeEnd then { b with pinCount := f b.pinCount } else b
                band := (s.repinned p h k i pin r f).ring.band }
            link := (s.repinned p h k i pin r f).link } := by
  rw [repinned, reband_unsignalled, reband_ring]
  simp [unsignalled, pinMoved_eq]

end

/-! ## Pin (R137, R138) -/

section
variable {first : BitVec 64} {count : BitVec 32} (ht : Taken s .viewer h 12)
include ht

theorem exec_pin_badParam (hbad : 2 ^ 40 - 1 < first.toNat ∨ count.toNat = 0 ∨ 16384 < count.toNat) :
    exec (.pin h first count) s = .next (s.refused .viewer h .pin .badParam) := by
  refine congrArg Host.Outcome.next (State.request_refuse ht ?_)
  by_cases hf : 2 ^ 40 - 1 < first.toNat
  · rw [lbnParam_of_gt hf]
  · simp only [lbnParam_of_le (not_lt.mp hf), if_pos (hbad.resolve_left hf)]

variable (hf : first.toNat ≤ 2 ^ 40 - 1) (hlow : 1 ≤ count.toNat) (hhigh : count.toNat ≤ 16384)
include hf hlow hhigh

theorem exec_pin_limit (hlive : ∀ i : Fin 8, s.pins[i].isSome = true) :
    exec (.pin h first count) s = .next (s.refused .viewer h .pin .limit) := by
  have counted : ¬ (count.toNat = 0 ∨ 16384 < count.toNat) := by omega
  refine congrArg Host.Outcome.next (State.request_refuse ht ?_)
  simp only [lbnParam_of_le hf, if_neg counted, State.opened_freePin, State.freePin_eq_none hlive]

/-- The rows of R137 that follow while a pin is Free: a range that lies all below Tail, one that holds no block, and the range that is taken. -/
theorem exec_pin_free (hfree : s.freePin = some i) (hr : r = s.pinRange first.toNat count.toNat) :
    exec (.pin h first count) s
      = .next (if first.toNat + count.toNat ≤ s.ring.tail then s.refused .viewer h .pin .gone
        else if r.rangeEnd ≤ r.first then s.refused .viewer h .pin .badParam
        else
          (s.repinned .viewer h .pin i (some r) r fun n => n + 1).replied .viewer h .pin
            (if r.first = first.toNat ∧ r.rangeEnd = first.toNat + count.toNat then .ok else .adjusted)
            (.pin i r.first (r.rangeEnd - r.first))) := by
  have counted : ¬ (count.toNat = 0 ∨ 16384 < count.toNat) := by omega
  have whole : r = { first := first.toNat, rangeEnd := first.toNat + count.toNat }
      ↔ r.first = first.toNat ∧ r.rangeEnd = first.toNat + count.toNat := by
    rw [PinRange.mk.injEq]
  refine congrArg Host.Outcome.next ((State.request_taken ht).trans ?_)
  simp only [lbnParam_of_le hf, if_neg counted, State.opened_freePin, hfree, State.opened_pinRange, ← hr, State.opened_ring,
    State.takePin_eq, apply_ite State.endAct, State.opened_refuse ht, whole]
  rfl

end

/-! ## Unpin (R141) -/

theorem exec_unpin_badParam (ht : Taken s .viewer h 0)
    (hbad : 7 < h.target.toNat ∨ ∃ i : Fin 8, h.target.toNat = i.val ∧ s.pins[i] = none) :
    exec (.unpin h) s = .next (s.refused .viewer h .unpin .badParam) := by
  refine congrArg Host.Outcome.next (State.request_refuse ht ?_)
  obtain habove | ⟨i, hi, hfree⟩ := hbad
  · rw [below_of_ge habove]
  · simp only [below_of_eq hi, State.opened_pins, hfree]

theorem exec_unpin_live (ht : Taken s .viewer h 0) (hi : h.target.toNat = i.val) (hlive : s.pins[i] = some r) :
    exec (.unpin h) s
      = .next ((s.repinned .viewer h .unpin i none r fun n => n - 1).replied .viewer h .unpin .ok
          (.unpin r.first (r.rangeEnd - r.first))) := by
  refine congrArg Host.Outcome.next ((State.request_taken ht).trans ?_)
  simp only [below_of_eq hi, State.opened_pins, hlive, State.dropPin_eq ((congrArg (·[i]) (s.opened_pins ..)).trans hlive)]
  rfl

end Sys2Proof.Machine

namespace Sys2Proof.Proofs
open Sys2Proof.Machine

/-- Settles O39. A Fetch goes by the claim of its block and a Read by the range of its pin; past that, each goes by the block's fill and then by the power of
the block's group. -/
theorem fetchesAndReadsAreQueued : Obligations.FetchesAndReadsAreQueued := by
  refine ⟨fun h lbn offset length legal s ht hlegal => ?_, fun h lbn offset length legal s ht hlegal => ?_⟩ <;>
    rw [← pieceOk_iff] at hlegal
  · refine ⟨fun hbad => exec_fetch_badParam ht (hlegal.not.mp hbad), fun c hok hc => ?_⟩
    obtain ⟨-, hl, hpiece⟩ := hlegal.mp hok
    refine ⟨fun hno => exec_fetch_notClaimed ht hc hl hpiece (State.claimedBlock_eq_none hno), fun b hopen hb hclaimed => ?_⟩
    rw [exec_fetch_claimed ht hc hl hpiece (State.claimedBlock_eq_some.mpr ⟨hopen, hb, hclaimed⟩)]
    refine ⟨fun hpast => by rw [if_pos hpast], fun hleft hasleep => ?_, fun hleft hactive => ?_⟩
    · rw [if_neg hleft.not_ge, if_neg (State.blockActive_iff.not.mpr hasleep)]
    · rw [if_neg hleft.not_ge, if_pos (State.blockActive_iff.mpr hactive), Nat.min_def]
      rfl
  · refine ⟨fun hbad => exec_read_badParam ht (hlegal.not.mp hbad), fun i hok hi => ?_⟩
    obtain ⟨-, hl, hpiece⟩ := hlegal.mp hok
    refine ⟨exec_read_free ht hi hl hpiece, fun r hlive =>
      ⟨exec_read_outside ht hi hl hpiece hlive, fun b hfrom hto hb => ?_⟩⟩
    rw [exec_read_found ht hi hl hpiece hlive ⟨hfrom, hto⟩ hb]
    refine ⟨fun hpast => by rw [if_pos hpast], fun hleft hasleep => ?_, fun hleft hactive => ?_⟩
    · rw [if_neg hleft.not_ge, if_neg (State.blockActive_iff.not.mpr hasleep)]
    · rw [if_neg hleft.not_ge, if_pos (State.blockActive_iff.mpr hactive)]
      rfl

/-- Settles O42. A Pin and an Unpin that are taken are one move each of a pin and of the Pin Counts of its range, after which the band is re-evaluated and the
request's own answer ends the act. -/
theorem pinsAreTakenAndRemoved : Obligations.PinsAreTakenAndRemoved := by
  refine ⟨fun h first count s ht => ⟨exec_pin_badParam ht, fun hf hlow hhigh =>
      ⟨exec_pin_limit ht hf hlow hhigh, fun i hfree hlive => ?_⟩⟩,
    fun h s ht => ⟨exec_unpin_badParam ht, fun i r hi hlive => ?_⟩⟩
  · have taken := exec_pin_free ht hf hlow hhigh (State.freePin_eq_some hfree hlive) rfl
    refine ⟨fun hgone => by rw [taken, if_pos hgone], fun hheld r hr => ?_⟩
    obtain rfl : r = s.pinRange first.toNat count.toNat := hr
    rw [taken, if_neg hheld.not_ge]
    refine ⟨fun hempty => by rw [if_pos hempty], fun hblocks => ?_⟩
    rw [if_neg hblocks.not_ge]
    refine ⟨_, rfl, State.replied_answers _, (Rebanded.repinned ..).replied, ?_, ?_⟩
    · rw [State.replied_ring]
      exact (Signalled.repinned ..).replied ht
    · simpa using State.repinned_unsignalled ..
  · refine ⟨_, exec_unpin_live ht hi hlive, State.replied_answers _, (Rebanded.repinned ..).replied, ?_, ?_⟩
    · rw [State.replied_ring]
      exact (Signalled.repinned ..).replied ht
    · simpa using State.repinned_unsignalled ..

end Sys2Proof.Proofs

/-!
The bank groups' recorded changes and the forming of the ring: SetGroupNext, the refusals of ApplyGroups, SetGroupMap and Reform (R105, R167, R168, R176 to
R179). SetGroupMap and Reform share one end, the evaluation of the band afresh against a re-clamped profile, which stands before them.
-/
namespace Sys2Proof.Machine

variable {s t : State} {p : Port} {h : Header} {k : RequestKind} {g : Fin 16}

/-! ## SetGroupNext (R167) -/

theorem groupPowerParam_of_gt {next : BitVec 8} (hn : 2 < next.toNat) : groupPowerParam next = none := by
  unfold groupPowerParam
  rw [if_neg (by bv_omega), if_neg (by bv_omega), if_neg (by bv_omega)]

theorem groupPowerParam_of_eq {next : BitVec 8} {n : GroupPower}
    (hn : (next = 0 ∧ n = .off) ∨ (next = 1 ∧ n = .retain) ∨ (next = 2 ∧ n = .active)) : groupPowerParam next = some n := by
  obtain ⟨rfl, rfl⟩ | ⟨rfl, rfl⟩ | ⟨rfl, rfl⟩ := hn <;> rfl

section
variable {next : BitVec 8} (ht : Taken s .viewer h 1)
include ht

theorem exec_setGroupNext_badParam (hbad : 15 < h.target.toNat ∨ 2 < next.toNat) :
    exec (.setGroupNext h next) s = .next (s.refused .viewer h .setGroupNext .badParam) := by
  refine congrArg Host.Outcome.next (State.request_refuse ht ?_)
  obtain hg | hn := hbad
  · rw [below_of_ge hg]
  · rw [groupPowerParam_of_gt hn]
    cases below 16 h.target.toNat <;> rfl

theorem exec_setGroupNext {n : GroupPower} (hg : h.target.toNat = g.val) (hn : groupPowerParam next = some n) :
    exec (.setGroupNext h next) s
      = .next ((s.putGroup g { s.power.groups[g] with next := n }).answered .viewer h .setGroupNext .ok
          (.groupNext s.power.groups[g].state n)) := by
  have ⟨_, _, _, htags⟩ := ht
  refine congrArg Host.Outcome.next (State.request_answer ht (by simpa [State.port] using htags) ?_)
  simp only [below_of_eq hg, hn, State.opened_power, State.opened_putGroup]

end

/-! ## The refusals of ApplyGroups (R168) -/

theorem Group.isChanging_iff {r : Group} :
    r.isChanging = true ↔ ∃ start target phase, r.state = .changing start target phase := by
  cases hr : r.state <;> simp [isChanging, hr]

theorem any_toList_iff {α : Type} {n : Nat} {v : Vector α n} {f : α → Bool} :
    v.toList.any f = true ↔ ∃ i : Fin n, f v[i] = true := by
  simp only [List.any_eq_true, Vector.mem_toList_iff, Vector.mem_iff_getElem]
  exact ⟨fun ⟨_, ⟨i, hi, rfl⟩, hf⟩ => ⟨⟨i, hi⟩, hf⟩, fun ⟨i, hf⟩ => ⟨_, ⟨i, i.isLt, rfl⟩, hf⟩⟩

theorem State.anyChanging_iff : s.anyChanging = true ↔ ∃ g : Fin 16, s.changing g :=
  any_toList_iff.trans (exists_congr fun _ => Group.isChanging_iff)

/-- The change that a mapped group wants is not legal in the capture state (R168). -/
def State.illegalChange (s : State) (g : Fin 16) : Prop :=
  g ∈ s.power.groupMap ∧ s.power.groups[g].state ≠ .settled s.power.groups[g].next
    ∧ (s.capturing ∨ (s.control.capture = .stopped ∧ s.power.groups[g].next = .off))

theorem State.refusedGroup_eq_find (s : State) [DecidablePred s.illegalChange] :
    s.refusedGroup = Fin.find? fun g => decide (s.illegalChange g) := by
  rw [refusedGroup, wanting, List.find?_filter, Fin.find?_eq_find?_finRange]
  refine List.find?_congr fun g _ => ?_
  cases hc : s.control.capture <;>
    simp [illegalChange, capturing, Group.wantsChange, mapped, hc, Bool.and_assoc, Bool.and_comm]

/-- ApplyGroups is refused for the lowest-numbered group whose change is not legal (R168). -/
theorem State.refusedGroup_eq_some (hg : s.illegalChange g) (hlow : ∀ j : Fin 16, j < g → ¬ s.illegalChange j) :
    s.refusedGroup = some g := by
  classical
  rw [refusedGroup_eq_find, Fin.find?_eq_some_iff]
  exact ⟨decide_eq_true hg, fun j hj => decide_eq_false (hlow j hj)⟩

section
variable (ht : Taken s .viewer h 0)
include ht

theorem exec_applyGroups_inTransition (hchanging : ∃ g : Fin 16, s.changing g) :
    exec (.applyGroups h) s = .next (s.answered .viewer h .applyGroups .inTransition (.refusedGroup none)) := by
  have ⟨_, _, _, htags⟩ := ht
  refine congrArg Host.Outcome.next (State.request_answer ht htags ?_)
  simp only [State.opened_anyChanging, State.anyChanging_iff.mpr hchanging, if_true]

theorem exec_applyGroups_wrongState (hsettled : ∀ g : Fin 16, ¬ s.changing g) (hg : s.refusedGroup = some g) :
    exec (.applyGroups h) s = .next (s.answered .viewer h .applyGroups .wrongState (.refusedGroup (some g))) := by
  have ⟨_, _, _, htags⟩ := ht
  refine congrArg Host.Outcome.next (State.request_answer ht htags ?_)
  have still : ¬ s.anyChanging = true := State.anyChanging_iff.not.mpr (by simpa using hsettled)
  simp only [State.opened_anyChanging, if_neg still, State.opened_refusedGroup, hg]

end

/-! ## The band evaluated afresh (R26, R40, R105) -/

theorem State.archiveFront_of_empty (hb : s.ring.blocks = []) : s.archiveFront = s.ring.head := by
  simp [archiveFront, hb]

theorem pauseLevel_idem (band : Band) (pauseOnCritical : Bool) (occupancy : Nat) (before : Bool) :
    pauseLevel band pauseOnCritical occupancy (pauseLevel band pauseOnCritical occupancy before)
      = pauseLevel band pauseOnCritical occupancy before := by
  unfold pauseLevel
  split_ifs <;> rfl

/-- The band is evaluated without hysteresis and the Pause line brought up to date (R26, R40). -/
def State.bandAfresh (s : State) : State :=
  s.rebandFresh.updatePause

theorem State.bandAfresh_ring (s : State) :
    s.bandAfresh.ring
      = { s.ring with band := bandFresh s.headroom s.control.active.pressed s.control.active.critical } := by
  rw [bandAfresh, updatePause_ring, rebandFresh, setBand_ring]

@[simp] theorem State.bandAfresh_control (s : State) : s.bandAfresh.control = s.control := by
  simp [bandAfresh]

@[simp] theorem State.bandAfresh_pins (s : State) : s.bandAfresh.pins = s.pins := by
  simp [bandAfresh]

@[simp] theorem State.bandAfresh_power (s : State) : s.bandAfresh.power = s.power := by
  simp [bandAfresh]

@[simp] theorem State.bandAfresh_drain (s : State) : s.bandAfresh.drain = s.drain := by
  simp [bandAfresh]

@[simp] theorem State.bandAfresh_archiveFront (s : State) : s.bandAfresh.archiveFront = s.archiveFront :=
  archiveFront_congr (by simp [bandAfresh]) (by simp [bandAfresh])

@[simp] theorem State.bandAfresh_headroom (s : State) : s.bandAfresh.headroom = s.headroom :=
  headroom_congr (by simp) (by simp [bandAfresh]) (holdFloor_congr (by simp) (by simp))

/-- The Pause line follows the band once, whether the band has changed or not. -/
theorem State.bandAfresh_link (s : State) :
    s.bandAfresh.link
      = { s.link with
          pause := pauseLevel s.bandAfresh.ring.band s.control.active.pauseOnCritical s.occupancy s.link.pause } := by
  have held : s.rebandFresh.occupancy = s.occupancy := by simp [occupancy]
  rw [bandAfresh, updatePause_link, updatePause_ring, held, rebandFresh_control, rebandFresh, setBand_link_eq, setBand_ring]
  dsimp only
  split
  next => rfl
  next => rw [pauseLevel_idem]

theorem State.bandAfresh_unsignalled (s : State) :
    s.bandAfresh.unsignalled
      = State.unsignalled { s with ring := s.bandAfresh.ring, link := s.bandAfresh.link } := by
  simp [unsignalled, bandAfresh]

theorem BandedAfresh.bandAfresh (s : State) : BandedAfresh s s.bandAfresh where
  band := by rw [State.bandAfresh_ring, State.bandAfresh_headroom, State.bandAfresh_control]
  link := by rw [State.bandAfresh_link, State.bandAfresh_control]

theorem Signalled.bandAfresh (s : State) : Signalled s s.bandAfresh (bandEvents s.ring.band s.bandAfresh.ring.band) [] := by
  rw [State.bandAfresh_ring]
  exact (Signalled.setBand s _).of_ports (State.updatePause_flags _) (State.updatePause_port _)

/-- An evaluation of the band speaks of the Sample Link Receiver before it, and after it of the link, the ring's bounds and the active profile. -/
theorem BandedAfresh.congr {s' t' : State} (hst : BandedAfresh s t) (hs : s'.link = s.link) (hring : t'.ring = t.ring)
    (hlink : t'.link = t.link) (hactive : t'.control.active = t.control.active) (hheadroom : t'.headroom = t.headroom) :
    BandedAfresh s' t' where
  band := by rw [hring, hheadroom, hactive, hst.band]
  link := by rw [hring, hlink, hactive, hs, State.occupancy, hs, hst.link, State.occupancy]

theorem BandedAfresh.replied {st : Status} {r : Result} (hst : BandedAfresh s t) : BandedAfresh s (t.replied p h k st r) :=
  hst.congr rfl (State.replied_ring _) (State.replied_link _) (congrArg Control.active (State.replied_control _))
    (State.replied_headroom _)

/-! ## The parameters of SetGroupMap (R176) -/

section
variable {span : BitVec 8} {groups : List (BitVec 8)}

/-- The groups that a list of bytes names; a byte that is no group's number names none. -/
def namedGroups (groups : List (BitVec 8)) : List (Fin 16) :=
  groups.filterMap fun g => below 16 g.toNat

theorem below_isSome {n m : Nat} : (below n m).isSome = true ↔ m < n := by
  simp [below]

theorem namedGroups_length_eq : (namedGroups groups).length = groups.length ↔ ∀ g ∈ groups, g.toNat ≤ 15 := by
  simp [namedGroups, List.filterMap_length_eq_length, below_isSome, Nat.lt_succ_iff]

theorem namedGroups_map_val (hr : ∀ g ∈ groups, g.toNat ≤ 15) :
    (namedGroups groups).map Fin.val = groups.map BitVec.toNat := by
  induction groups with
  | nil => rfl
  | cons g rest ih =>
    obtain ⟨hg, hrest⟩ := List.forall_mem_cons.mp hr
    have named : below 16 g.toNat = some ⟨g.toNat, Nat.lt_succ_iff.mpr hg⟩ := dif_pos (Nat.lt_succ_iff.mpr hg)
    rw [namedGroups, List.filterMap_cons_some (f := fun g : BitVec 8 => below 16 g.toNat) named, List.map_cons, List.map_cons]
    exact congrArg _ (ih hrest)

theorem namedGroups_nodup (hr : ∀ g ∈ groups, g.toNat ≤ 15) : (namedGroups groups).Nodup ↔ groups.Nodup := by
  rw [← List.nodup_map_iff Fin.val_injective, namedGroups_map_val hr, List.nodup_map_iff fun _ _ => BitVec.eq_of_toNat_eq]

/-- A Span that is one of its values, and a list of exactly Span groups, no two the same (R176). -/
def GroupMapLegal (span : BitVec 8) (groups : List (BitVec 8)) : Prop :=
  (span.toNat = 1 ∨ span.toNat = 2 ∨ span.toNat = 4 ∨ span.toNat = 8 ∨ span.toNat = 16)
    ∧ groups.length = span.toNat ∧ (∀ g ∈ groups, g.toNat ≤ 15) ∧ groups.Nodup

theorem groupMapParam_eq [Decidable (GroupMapLegal span groups)] :
    groupMapParam span groups = if GroupMapLegal span groups then some (namedGroups groups) else none := by
  refine if_congr ?_ rfl rfl
  have spans : (span = 1 ∨ span = 2 ∨ span = 4 ∨ span = 8 ∨ span = 16)
      ↔ (span.toNat = 1 ∨ span.toNat = 2 ∨ span.toNat = 4 ∨ span.toNat = 8 ∨ span.toNat = 16) := by
    bv_omega
  rw [GroupMapLegal, spans]
  refine and_congr_right fun _ => and_congr_right fun _ => ?_
  rw [← namedGroups_length_eq]
  exact and_congr_right fun hlen => namedGroups_nodup (namedGroups_length_eq.mp hlen)

end

/-! ## SetGroupMap (R176, R177) -/

/-- The Group Map is taken, the Block Table emptied, capture Unformed and the active profile re-clamped; the band is not yet evaluated (R177). -/
def State.mapTaken (s : State) (map : List (Fin 16)) : State :=
  { s with
    power := { s.power with groupMap := map }
    ring := { s.ring with blocks := [] }
    control :=
      { s.control with
        capture := .unformed
        active := s.control.requested.clampedTo (1024 * map.length) } }

theorem State.putMap_eq (s : State) (map : List (Fin 16)) : s.putMap map = (s.mapTaken map).bandAfresh := by
  rw [mapTaken, ← Profile.effective_eq_clampedTo]
  rfl

theorem State.opened_mapTaken (s : State) (p : Port) (h : Header) (k : RequestKind) (map : List (Fin 16)) :
    (s.opened p h k).mapTaken map = (s.mapTaken map).opened p h k := by
  cases p <;> rfl

/-- A SetGroupMap has taken its map; its own answer has not left (R177). -/
def State.remapped (s : State) (h : Header) (map : List (Fin 16)) : State :=
  ((s.mapTaken map).opened .viewer h .setGroupMap).bandAfresh

section
variable (s : State) (h : Header) (map : List (Fin 16))

theorem State.remapped_ring : (s.remapped h map).ring = { s.ring with blocks := [], band := (s.remapped h map).ring.band } := by
  rw [remapped, bandAfresh_ring, opened_ring]
  rfl

@[simp] theorem State.remapped_control : (s.remapped h map).control = (s.mapTaken map).control := by
  simp [remapped]

@[simp] theorem State.remapped_power : (s.remapped h map).power = { s.power with groupMap := map } := by
  simp [remapped, mapTaken]

theorem BandedAfresh.remapped : BandedAfresh s (s.remapped h map) := by
  refine (BandedAfresh.bandAfresh ((s.mapTaken map).opened .viewer h .setGroupMap)).congr ?_ rfl rfl rfl rfl
  simp [State.mapTaken]

theorem Signalled.remapped :
    Signalled (s.opened .viewer h .setGroupMap) (s.remapped h map)
      (bandEvents s.ring.band (s.remapped h map).ring.band) [] := by
  have taken : Signalled (s.opened .viewer h .setGroupMap) ((s.mapTaken map).opened .viewer h .setGroupMap) [] [] := by
    rw [← State.opened_mapTaken]
    exact .of_eq rfl fun p => by cases p <;> rfl
  have banded := taken.trans (by simp [State.mapTaken]) (.bandAfresh _)
  simpa [State.remapped, State.mapTaken] using banded

theorem State.remapped_unsignalled :
    (s.remapped h map).unsignalled
      = State.unsignalled
          { s with
            power := { s.power with groupMap := map }
            ring := (s.remapped h map).ring
            control := (s.remapped h map).control
            link := (s.remapped h map).link } := by
  rw [remapped_control, remapped, bandAfresh_unsignalled]
  simp [unsignalled, mapTaken]

end

section
variable {span : BitVec 8} {groups : List (BitVec 8)} (ht : Taken s .viewer h (1 + groups.length))
include ht

theorem exec_setGroupMap_badParam (hbad : ¬ GroupMapLegal span groups) :
    exec (.setGroupMap h span groups) s = .next (s.refused .viewer h .setGroupMap .badParam) := by
  classical
  refine congrArg Host.Outcome.next (State.request_refuse ht ?_)
  rw [groupMapParam_eq, if_neg hbad]

variable (hlegal : GroupMapLegal span groups)
include hlegal

theorem exec_setGroupMap_wrongState (hcapture : ¬ (s.control.capture = .unformed ∨ s.control.capture = .idle)) :
    exec (.setGroupMap h span groups) s = .next (s.refused .viewer h .setGroupMap .wrongState) := by
  classical
  refine congrArg Host.Outcome.next (State.request_refuse ht ?_)
  simp only [groupMapParam_eq, if_pos hlegal, State.opened_control, if_neg hcapture]

theorem exec_setGroupMap (hcapture : s.control.capture = .unformed ∨ s.control.capture = .idle) :
    exec (.setGroupMap h span groups) s
      = .next ((s.remapped h (namedGroups groups)).replied .viewer h .setGroupMap .ok
          (.groupMap (namedGroups groups).length (1024 * (namedGroups groups).length) (namedGroups groups))) := by
  classical
  refine congrArg Host.Outcome.next ((State.request_taken ht).trans ?_)
  simp only [groupMapParam_eq, if_pos hlegal, State.opened_control, if_pos hcapture, State.putMap_eq, State.opened_mapTaken]
  rfl

end

/-! ## Reform (R178, R179) -/

theorem State.claims_isEmpty {c : Fin 4} : (s.claims c).isEmpty = false ↔ ∃ b ∈ s.ring.blocks, b.state = .claimed c := by
  simp [claims]

/-- What stands in the way of a Reform: the capture state, a claim, a Live pin, or a read in flight on a held block (R178). -/
theorem State.reformBlocked_iff :
    (s.control.capture = .running ∨ s.control.capture = .stopping ∨ s.reformBlocked = true)
      ↔ s.capturing ∨ (∃ b ∈ s.ring.blocks, ∃ c, b.state = .claimed c) ∨ (∃ i : Fin 8, s.pins[i].isSome = true)
          ∨ ∃ b ∈ s.ring.blocks, 0 < b.readsInFlight := by
  have claimed : (List.finRange 4).any (fun c => !(s.claims c).isEmpty) = true
      ↔ ∃ b ∈ s.ring.blocks, ∃ c, b.state = .claimed c := by
    simp only [List.any_eq_true, List.mem_finRange, true_and, Bool.not_eq_true', claims_isEmpty]
    exact ⟨fun ⟨c, b, hb, hc⟩ => ⟨b, hb, c, hc⟩, fun ⟨b, hb, c, hc⟩ => ⟨c, b, hb, hc⟩⟩
  have pinned : s.pins.toList.any Option.isSome = true ↔ ∃ i : Fin 8, s.pins[i].isSome = true := any_toList_iff
  simp only [reformBlocked, Bool.or_eq_true, claimed, pinned, List.any_eq_true, decide_eq_true_eq, capturing, or_assoc]

theorem State.mapActive_iff : s.mapActive = true ↔ ∀ g ∈ s.power.groupMap, s.power.groups[g].state = .settled .active := by
  simp [mapActive, groupActive]

/-- The ring and the index are emptied, Tail set to Head, capture Idle and the active profile re-clamped; the band is not yet evaluated (R179). -/
def State.ringEmptied (s : State) : State :=
  { s with
    ring := { s.ring with blocks := [], tail := s.ring.head }
    index := []
    control :=
      { s.control with
        capture := .idle
        stopReason := .none
        active := s.control.requested.clampedTo s.capacity } }

theorem State.reform_eq (s : State) : s.reform = s.ringEmptied.bandAfresh.testArchiveMark := by
  rw [ringEmptied, ← Profile.effective_eq_clampedTo]
  rfl

theorem State.opened_ringEmptied (s : State) (p : Port) (h : Header) (k : RequestKind) :
    (s.opened p h k).ringEmptied = s.ringEmptied.opened p h k := by
  cases p <;> rfl

/-- The ring of a Reform is formed and its band evaluated; the Archive Mark is not yet tested (R179). -/
def State.formed (s : State) (h : Header) : State :=
  (s.ringEmptied.opened .viewer h .reform).bandAfresh

/-- A Reform has formed its ring and tested the Archive Mark; its own answer has not left (R179). -/
def State.reformed (s : State) (h : Header) : State :=
  (s.formed h).testArchiveMark

section
variable (s : State) (h : Header)

@[simp] theorem State.reformed_ring :
    (s.reformed h).ring = { head := s.ring.head, tail := s.ring.head, blocks := [], band := (s.formed h).ring.band } := by
  rw [reformed, testArchiveMark_ring, formed, bandAfresh_ring, opened_ring]
  rfl

theorem State.formed_control : (s.formed h).control = s.ringEmptied.control := by
  simp [formed]

/-- With no block held ArchiveFront is Head, so a Reform tests the Archive Mark against Head (R13, R179). -/
theorem State.formed_markReached :
    (s.formed h).markReached = (s.control.archiveMark.map fun lbn => decide (lbn ≤ s.ring.head)).getD false := by
  have front : (s.formed h).archiveFront = s.ring.head := by
    rw [formed, bandAfresh_archiveFront, opened_archiveFront]
    exact archiveFront_of_empty (s := s.ringEmptied) rfl
  rw [markReached, formed_control, front]
  rfl

theorem State.reformed_control :
    (s.reformed h).control
      = { s.control with
          capture := .idle
          stopReason := .none
          active := s.control.requested.clampedTo s.capacity
          archiveMark := if (s.formed h).markReached then none else s.control.archiveMark } := by
  rw [reformed, testArchiveMark_control, formed_control]
  rfl

@[simp] theorem State.reformed_power : (s.reformed h).power = s.power := by
  simp [reformed, formed, ringEmptied]

theorem BandedAfresh.reformed : BandedAfresh s (s.reformed h) := by
  refine (BandedAfresh.bandAfresh (s.ringEmptied.opened .viewer h .reform)).congr ?_ ?_ ?_ ?_ ?_
  · simp [State.ringEmptied]
  · exact State.testArchiveMark_ring _
  · exact State.testArchiveMark_link _
  · exact State.testArchiveMark_control_active _
  · exact State.headroom_congr (State.testArchiveMark_power _) (congrArg Ring.head (State.testArchiveMark_ring _))
      (State.holdFloor_congr (State.testArchiveMark_pins _) (State.testArchiveMark_archiveFront _))

theorem Signalled.reformed :
    Signalled (s.opened .viewer h .reform) (s.reformed h)
      (bandEvents s.ring.band (s.reformed h).ring.band
        ++ if (s.formed h).markReached then [.archiveMark] else []) [] := by
  have emptied : Signalled (s.opened .viewer h .reform) (s.ringEmptied.opened .viewer h .reform) [] [] := by
    rw [← State.opened_ringEmptied]
    exact .of_eq rfl fun p => by cases p <;> rfl
  have banded : Signalled (s.opened .viewer h .reform) (s.formed h) (bandEvents s.ring.band (s.formed h).ring.band) [] := by
    have afresh := Signalled.bandAfresh (s.ringEmptied.opened .viewer h .reform)
    rw [State.opened_ring] at afresh
    exact emptied.trans (by simp [State.ringEmptied]) afresh
  rw [State.reformed_ring]
  exact banded.trans (by simp [State.formed, State.ringEmptied]) (.testArchiveMark _)

theorem State.reformed_unsignalled :
    (s.reformed h).unsignalled
      = State.unsignalled
          { s with
            ring := (s.reformed h).ring
            index := []
            control := (s.reformed h).control
            link := (s.reformed h).link } := by
  simp [unsignalled, reformed, formed, ringEmptied, bandAfresh]

end

section
variable (ht : Taken s .viewer h 0)
include ht

theorem exec_reform_wrongState
    (hblocked : s.control.capture = .running ∨ s.control.capture = .stopping ∨ s.reformBlocked = true) :
    exec (.reform h) s = .next (s.refused .viewer h .reform .wrongState) := by
  refine congrArg Host.Outcome.next (State.request_refuse ht ?_)
  simp only [State.opened_control, State.opened_reformBlocked, if_pos hblocked]

variable (hfree : ¬ (s.control.capture = .running ∨ s.control.capture = .stopping ∨ s.reformBlocked = true))
include hfree

theorem exec_reform_asleep (hasleep : s.mapActive = false) :
    exec (.reform h) s = .next (s.refused .viewer h .reform .asleep) := by
  refine congrArg Host.Outcome.next (State.request_refuse ht ?_)
  simp only [State.opened_control, State.opened_reformBlocked, if_neg hfree, State.opened_mapActive, hasleep]
  rfl

theorem exec_reform (hactive : s.mapActive = true) :
    exec (.reform h) s
      = .next ((s.reformed h).replied .viewer h .reform .ok (.reformed s.ring.head s.capacity (s.reformed h).ring.band)) := by
  have formed : (s.opened .viewer h .reform).reform = s.reformed h := by
    rw [State.reform_eq, State.opened_ringEmptied]
    rfl
  refine congrArg Host.Outcome.next ((State.request_taken ht).trans ?_)
  simp only [State.opened_control, State.opened_reformBlocked, if_neg hfree, State.opened_mapActive, hactive, formed]
  simp [State.capacity, State.replied]

end

end Sys2Proof.Machine

namespace Sys2Proof.Proofs
open Sys2Proof.Machine

/-- Settles O32. A Next in its range is recorded whatever the group's state. An ApplyGroups is refused for a group that is Changing, and else for the lowest
of the mapped groups whose change the capture state forbids. -/
theorem groupChangesAreRecordedAndTested : Obligations.GroupChangesAreRecordedAndTested := by
  refine ⟨fun h next s ht => ⟨exec_setGroupNext_badParam ht, fun g n hg hn => exec_setGroupNext ht hg (groupPowerParam_of_eq hn)⟩,
    fun h s ht => ⟨exec_applyGroups_inTransition ht, fun illegal hillegal g hsettled hg hlow => ?_⟩⟩
  refine exec_applyGroups_wrongState ht hsettled (State.refusedGroup_eq_some ((hillegal g).mp hg) fun j hj => ?_)
  exact (hillegal j).not.mp (hlow j hj)

/-- Settles O35. The parameters are legal exactly when they name a map; a SetGroupMap that is taken evaluates the band afresh from the emptied Block Table and
the re-clamped profile, and its own answer ends the act. -/
theorem setGroupMapTakesTheMap : Obligations.SetGroupMapTakesTheMap := by
  rintro h span groups legal s ht (hlegal : legal ↔ GroupMapLegal span groups)
  rw [hlegal]
  refine ⟨exec_setGroupMap_badParam ht, fun hmap hcapture => exec_setGroupMap_wrongState ht hmap ?_, fun hmap hcapture => ?_⟩
  · rintro (hc | hc) <;> simp [State.capturing, hc] at hcapture
  have ⟨_, hspan, hrange, _⟩ := hmap
  have length_eq : (namedGroups groups).length = span.toNat := (namedGroups_length_eq.mpr hrange).trans hspan
  rw [← length_eq]
  refine ⟨_, namedGroups groups, namedGroups_map_val hrange, exec_setGroupMap ht hmap hcapture, State.replied_answers _, ?_, ?_,
    (BandedAfresh.remapped ..).replied, ?_, ?_⟩
  · simp [State.capacity, State.replied]
  · rw [State.replied_control, State.remapped_control]
    rfl
  · rw [State.replied_ring]
    exact (Signalled.remapped ..).replied ht
  · simpa [← State.remapped_ring] using State.remapped_unsignalled ..

/-- Settles O36. A Reform that nothing stands in the way of evaluates the band afresh from the emptied ring, where ArchiveFront is Head, tests the Archive Mark
there, and its own answer ends the act. -/
theorem reformFormsTheRing : Obligations.ReformFormsTheRing := by
  rintro h blocked s ht hblocked
  rw [hblocked, ← State.reformBlocked_iff]
  refine ⟨exec_reform_wrongState ht, fun hfree hasleep => exec_reform_asleep ht hfree ?_, fun hfree hactive => ?_⟩
  · simpa [← Bool.not_eq_true, State.mapActive_iff] using hasleep
  refine ⟨_, (s.formed h).markReached, exec_reform ht hfree (State.mapActive_iff.mpr hactive), s.formed_markReached h, ?_, ?_,
    (BandedAfresh.reformed ..).replied, ?_, ?_⟩
  · rw [State.replied_ring]
    exact State.replied_answers _
  · rw [State.replied_control, State.reformed_control]
  · rw [State.replied_ring]
    exact (Signalled.reformed ..).replied ht
  · simpa using State.reformed_unsignalled ..

end Sys2Proof.Proofs

/-!
The Sync Flag Unit's SetFlagSource and ClearFlag (R183, R186) and the three requests that manage a port's own Notice Unit (R192, R193).
-/
namespace Sys2Proof.Machine

variable {s : State} {p : Port} {h : Header} {k : RequestKind} {i : Fin 8}

/-! ## The parameters (R183, R203) -/

theorem flagParam_of_gt (hi : 7 < h.target.toNat) : flagParam h = none :=
  below_of_ge hi

theorem flagParam_of_eq (hi : h.target.toNat = i.val) : flagParam h = some i :=
  below_of_eq hi

/-- The Sources by their numbers (R182, R203). -/
def flagSources : List FlagSource :=
  [.none, .segmentClosed, .blockSealed, .bandPressedOrCritical, .bandRelaxed, .headMark, .archiveMark, .captureStopped, .mediaError,
    .groupsSettled]

theorem flagSourceParam_eq_getElem? (source : BitVec 8) : flagSourceParam source = flagSources[source.toNat]? := by
  unfold flagSourceParam
  generalize source.toNat = n
  match n with
  | 0 | 1 | 2 | 3 | 4 | 5 | 6 | 7 | 8 | 9 => rfl
  | _ + 10 => rfl

theorem flagSourceParam_of_gt {source : BitVec 8} (hs : 9 < source.toNat) : flagSourceParam source = none :=
  (flagSourceParam_eq_getElem? source).trans (List.getElem?_eq_none hs)

/-- Each port selects the Sources of its four flags (R182). -/
theorem ownsFlag_iff : ownsFlag p i = true ↔ (p = .viewer ∧ i.val ≤ 3) ∨ (p = .archive ∧ 4 ≤ i.val) := by
  cases p <;> simp [ownsFlag, Nat.lt_succ_iff]

theorem ownsFlag_eq_false_iff : ownsFlag p i = false ↔ (p = .archive ∧ i.val ≤ 3) ∨ (p = .viewer ∧ 4 ≤ i.val) := by
  cases p with
  | viewer => simp [ownsFlag]
  | archive => simp [ownsFlag, Nat.lt_succ_iff]

/-! ## SetFlagSource (R183) -/

section
variable {source : BitVec 8} {src : FlagSource} (ht : Taken s p h 1)
include ht

theorem exec_setFlagSource_badParam (hbad : 7 < h.target.toNat ∨ 9 < source.toNat) :
    exec (.setFlagSource p h source) s = .next (s.refused p h .setFlagSource .badParam) := by
  refine congrArg Host.Outcome.next (State.request_refuse ht ?_)
  obtain hflag | hsource := hbad
  · rw [flagParam_of_gt hflag]
  · rw [flagSourceParam_of_gt hsource]
    cases flagParam h <;> rfl

variable (hi : h.target.toNat = i.val) (hsrc : flagSourceParam source = some src)
include hi hsrc

theorem exec_setFlagSource_unowned (howns : ownsFlag p i = false) :
    exec (.setFlagSource p h source) s = .next (s.refused p h .setFlagSource .unsupported) := by
  refine congrArg Host.Outcome.next (State.request_refuse ht ?_)
  simp [flagParam_of_eq hi, hsrc, howns]

theorem exec_setFlagSource_owned (howns : ownsFlag p i = true) :
    exec (.setFlagSource p h source) s
      = .next ((s.putFlag i { s.flags[i] with source := src }).answered p h .setFlagSource .ok
          (.flagSource s.flags[i].source src)) := by
  have ⟨_, _, _, htags⟩ := ht
  refine congrArg Host.Outcome.next (State.request_answer ht (by simpa [State.port] using htags) ?_)
  simp only [flagParam_of_eq hi, hsrc, if_pos howns, State.opened_flags, State.opened_putFlag]

end

/-! ## ClearFlag (R186) -/

theorem exec_clearFlag_badParam (ht : Taken s p h 0) (hbad : 7 < h.target.toNat) :
    exec (.clearFlag p h) s = .next (s.refused p h .clearFlag .badParam) :=
  congrArg Host.Outcome.next (State.request_refuse ht (by rw [flagParam_of_gt hbad]))

theorem exec_clearFlag (ht : Taken s p h 0) (hi : h.target.toNat = i.val) :
    exec (.clearFlag p h) s
      = .next ((s.putFlag i { s.flags[i] with value := false }).answered p h .clearFlag .ok (.wasSet s.flags[i].value)) := by
  have ⟨_, _, _, htags⟩ := ht
  refine congrArg Host.Outcome.next (State.request_answer ht (by simpa [State.port] using htags) ?_)
  simp only [flagParam_of_eq hi, State.opened_flags, State.opened_putFlag]

/-! ## The requests of a Notice Unit (R192, R193) -/

theorem noticeSetParam_of_ge {kinds : BitVec 16} (hk : 2 ^ 13 ≤ kinds.toNat) : noticeSetParam kinds = none :=
  if_neg hk.not_gt

theorem noticeSetParam_of_lt {kinds : BitVec 16} (hk : kinds.toNat < 2 ^ 13) : noticeSetParam kinds = some (kinds.setWidth 13) :=
  if_pos hk

@[simp] theorem State.opened_mapNotices (s : State) (p q : Port) (h : Header) (k : RequestKind) (f : NoticeUnit → NoticeUnit) :
    (s.opened p h k).mapNotices q f = (s.mapNotices q f).opened p h k := by
  cases p <;> cases q <;> rfl

@[simp] theorem State.opened_notices (s : State) (p q : Port) (h : Header) (k : RequestKind) :
    ((s.opened p h k).port q).notices = (s.port q).notices := by
  cases p <;> cases q <;> rfl

@[simp] theorem State.mapNotices_notices (s : State) (p : Port) (f : NoticeUnit → NoticeUnit) :
    ((s.mapNotices p f).port p).notices = (f (s.port p).notices).drive := by
  cases p <;> rfl

@[simp] theorem State.mapNotices_slots (s : State) (p : Port) (f : NoticeUnit → NoticeUnit) :
    ((s.mapNotices p f).port p).slots = (s.port p).slots := by
  cases p <;> rfl

/-- A change of a port's Notice Unit, as the unit it leaves. -/
theorem State.mapNotices_eq (s : State) (p : Port) (f : NoticeUnit → NoticeUnit) :
    s.mapNotices p f = s.mapPort p fun q => { q with notices := (f (s.port p).notices).drive } := by
  cases p <;> rfl

section
variable {kinds : BitVec 16} {f : NoticeSet → NoticeUnit → NoticeUnit} (ht : Taken s p h 2)
include ht

theorem State.request_manageNotices_badParam (hk : 2 ^ 13 ≤ kinds.toNat) :
    s.request p k h 2 (fun s => s.manageNotices p h k kinds f) = s.refused p h k .badParam := by
  refine request_refuse ht ?_
  rw [manageNotices, noticeSetParam_of_ge hk]

/-- A request with a legal set changes its port's own unit by `f`, brings the line up to date, and answers the Pending set and Mask it leaves. -/
theorem State.request_manageNotices (hk : kinds.toNat < 2 ^ 13) {u : NoticeUnit}
    (hu : f (kinds.setWidth 13) (s.port p).notices = u) :
    s.request p k h 2 (fun s => s.manageNotices p h k kinds f)
      = (s.mapPort p fun q => { q with notices := u.drive }).answered p h k .ok (.notices u.pending u.mask) := by
  have ⟨_, _, _, htags⟩ := ht
  rw [← hu, ← mapNotices_eq]
  refine request_answer ht (by simpa using htags) ?_
  simp only [manageNotices, noticeSetParam_of_lt hk, opened_mapNotices, opened_notices, mapNotices_notices]
  rfl

end

end Sys2Proof.Machine

namespace Sys2Proof.Proofs
open Sys2Proof.Machine

/-- Settles O47. A SetFlagSource goes by its parameters' ranges and then by the port that selects the flag's Source; a ClearFlag only by its flag. -/
theorem flagSourceAndClear : Obligations.FlagSourceAndClear := by
  refine ⟨fun p h source s ht => ⟨exec_setFlagSource_badParam ht, fun i hi hle => ⟨fun hother => ?_, fun hown src hsrc => ?_⟩⟩,
    fun p h s ht => ⟨exec_clearFlag_badParam ht, fun i hi => exec_clearFlag ht hi⟩⟩
  · have named : flagSourceParam source = some (flagSources[source.toNat]'(Nat.lt_succ_of_le hle)) :=
      (flagSourceParam_eq_getElem? source).trans (List.getElem?_eq_getElem _)
    exact exec_setFlagSource_unowned ht hi named (ownsFlag_eq_false_iff.mpr hother)
  · exact exec_setFlagSource_owned ht hi ((flagSourceParam_eq_getElem? source).trans hsrc) (ownsFlag_iff.mpr hown)

/-- Settles O50. Each of the three requests is one change of the Pending set or of the Mask, made by the operation they share. -/
theorem noticeRequestsManageTheirOwnUnit : Obligations.NoticeRequestsManageTheirOwnUnit := by
  intro p h kinds s c kind pending mask ht hc
  obtain ⟨f, u, hexec, hu, rfl, rfl⟩ : ∃ f u,
      exec c s = .next (s.request p kind h 2 fun s => s.manageNotices p h kind kinds f)
        ∧ f (kinds.setWidth 13) (s.port p).notices = u ∧ u.pending = pending ∧ u.mask = mask := by
    obtain ⟨rfl, rfl, rfl, rfl⟩ | ⟨rfl, rfl, rfl, rfl⟩ | ⟨rfl, rfl, rfl, rfl⟩ := hc
    · exact ⟨fun set u => { u with mask := set }, _, rfl, rfl, rfl, rfl⟩
    · exact ⟨fun set u => { u with pending := u.pending &&& ~~~set }, _, rfl, rfl, rfl, rfl⟩
    · exact ⟨fun set u => { u with pending := u.pending ||| set }, _, rfl, rfl, rfl, rfl⟩
  rw [hexec]
  exact ⟨fun hk => congrArg _ (State.request_manageNotices_badParam ht hk),
    fun hk => congrArg _ (State.request_manageNotices ht hk hu)⟩

end Sys2Proof.Proofs

/-!
The block as a whole: one step, the answer every command gives, the tests of a port, the Top Notice of responses, port and device resets (R193 to R200).
-/
namespace Sys2Proof.Machine

variable {s t : State} {p : Port} {h : Header} {k : RequestKind}

/-! ## The waiting commands -/

namespace State

@[simp] theorem reject_pending (s : State) (p : Port) (tag : Byte) (kind : BitVec 8) (status : Status) :
    (s.reject p tag kind status).pending = s.pending :=
  rfl

theorem act_pending {f : State → State} (hf : ∀ u : State, (f u).pending = u.pending) (s : State) :
    (s.act f).pending = s.pending := by
  rw [act, endAct_pending, hf, beginAct_pending]

/-- The tests of a port reach no waiting command, so a request reaches those its owning block's act reaches. -/
theorem request_pending {f : State → State} (hf : ∀ u : State, (f u).pending = u.pending) (s : State) (p : Port)
    (k : RequestKind) (h : Header) (n : Nat) : (s.request p k h n f).pending = s.pending := by
  unfold request
  dsimp only
  rw [endAct_pending]
  (repeat' split) <;> simp [hf]

@[simp] theorem exhaustLbn_pending (s : State) : s.exhaustLbn.pending = s.pending := by
  simp [exhaustLbn]

@[simp] theorem overrun_pending (s : State) (f : Frame) : (s.overrun f).pending = s.pending := by
  unfold overrun
  dsimp only
  (repeat' split) <;> simp

@[simp] theorem indexFull_pending (s : State) : s.indexFull.pending = s.pending := by
  unfold indexFull
  dsimp only
  split <;> simp

theorem requestBlock_pending (hg : s.requestBlock = .granted t) : t.pending = s.pending := by
  unfold requestBlock at hg
  split at hg
  · cases hg
  split at hg
  · cases hg; rfl
  split at hg
  · cases hg
  split at hg <;> cases hg <;> simp

theorem makeRoom_pending (s : State) (fuel : Nat) : (s.makeRoom fuel).state.pending = s.pending := by
  induction fuel generalizing s with
  | zero => unfold makeRoom; split <;> rfl
  | succ fuel ih =>
    unfold makeRoom
    split
    · rfl
    split
    · rfl
    split
    · rw [ih, recycleTail_pending]
    · rw [ih, evictTail_pending]
    · rfl
    · rfl

@[simp] theorem finishOpening_pending (s : State) (before : Nat) (f : Frame) :
    (s.finishOpening before f).pending = s.pending := by
  simp [finishOpening]

@[simp] theorem openSegment_pending (s : State) (f : Frame) (loss : Option LossRecord) :
    (s.openSegment f loss).pending = s.pending := by
  simp [openSegment]

@[simp] theorem openWithBlock_pending (s : State) (before : Nat) (f : Frame) (loss : Option LossRecord) :
    (s.openWithBlock before f loss).pending = s.pending := by
  unfold openWithBlock
  split
  next granted => simp [requestBlock_pending granted]
  all_goals simp

@[simp] theorem openWithRoom_pending (s : State) (before : Nat) (f : Frame) (loss : Option LossRecord) :
    (s.openWithRoom before f loss).pending = s.pending := by
  have hroom := s.makeRoom_pending s.ring.blocks.length
  unfold openWithRoom
  split <;> simp_all [RoomAnswer.state]

@[simp] theorem discardCarried_pending (s : State) : s.discardCarried.pending = s.pending :=
  rfl

@[simp] theorem beginSegment_pending (s : State) (before : Nat) (f : Frame) (loss : Option LossRecord) :
    (s.beginSegment before f loss).pending = s.pending := by
  unfold beginSegment
  dsimp only
  (repeat' split) <;> simp

@[simp] theorem nextBlock_pending (s : State) (before : Nat) (e : Entry) (f : Frame) :
    (s.nextBlock before e f).pending = s.pending := by
  unfold nextBlock
  split
  next granted => simp [requestBlock_pending granted]
  all_goals simp

@[simp] theorem placeFrame_pending (s : State) (before : Nat) (f : Frame) (loss : Option LossRecord) :
    (s.placeFrame before f loss).pending = s.pending := by
  unfold placeFrame placeInSegment
  (repeat' split) <;> simp

@[simp] theorem workFront_pending (s : State) : s.workFront.pending = s.pending := by
  unfold workFront workFrame resumeFrame
  dsimp only
  (repeat' split) <;> simp

@[simp] theorem startCapture_pending (s : State) : s.startCapture.pending = s.pending :=
  rfl

@[simp] theorem stopAtEnd_pending (s : State) : s.stopAtEnd.pending = s.pending := by
  unfold stopAtEnd
  (repeat' split) <;> simp

@[simp] theorem takeStop_pending (s : State) (h : Header) (mode : BitVec 8) : (s.takeStop h mode).pending = s.pending := by
  unfold takeStop
  dsimp only
  (repeat' split) <;> simp

@[simp] theorem stage_pending (s : State) (q : Profile) : (s.stage q).pending = s.pending := by
  unfold stage
  dsimp only
  split <;> simp

@[simp] theorem takePin_pending (s : State) (i : Fin 8) (r : PinRange) : (s.takePin i r).pending = s.pending := by
  simp [takePin]

@[simp] theorem checkRead_pending (s : State) (h : Header) (i : Fin 8) (r : PinRange) (lbn offset length : Nat) :
    (s.checkRead h i r lbn offset length).pending = s.pending := by
  unfold checkRead
  dsimp only
  (repeat' split) <;> simp

@[simp] theorem beginChange_pending (s : State) (g : Fin 16) : (s.beginChange g).pending = s.pending := by
  unfold beginChange
  split <;> simp

@[simp] theorem endFirstPhase_pending (s : State) (g : Fin 16) : (s.endFirstPhase g).pending = s.pending := by
  unfold endFirstPhase
  split <;> simp

@[simp] theorem applyChanges_pending (s : State) : s.applyChanges.pending = s.pending := by
  unfold applyChanges
  rw [foldl_keeps _ State.pending endFirstPhase_pending, foldl_keeps _ State.pending beginChange_pending]

@[simp] theorem putMap_pending (s : State) (map : List (Fin 16)) : (s.putMap map).pending = s.pending := by
  simp [putMap]

@[simp] theorem reform_pending (s : State) : s.reform.pending = s.pending := by
  simp [reform]

@[simp] theorem parkTake_pending (s : State) (ctx : Fin 4) (tag : Byte) : (s.parkTake ctx tag).pending = s.pending := by
  simp [parkTake]

@[simp] theorem takeFrom_pending (s : State) (h : Header) (ctx : Fin 4) (w : Window) (wait : Bool) :
    (s.takeFrom h ctx w wait).pending = s.pending := by
  unfold takeFrom
  (repeat' split) <;> simp

@[simp] theorem confirmBlock_pending (s : State) (b : Block) (withLoss : Bool) :
    (s.confirmBlock b withLoss).pending = s.pending := by
  unfold confirmBlock markLoss
  split <;> simp

@[simp] theorem returnOne_pending (s : State) (b : Block) : (s.returnOne b).pending = s.pending := by
  simp [returnOne]

@[simp] theorem cancelTake_pending (s : State) (ctx : Fin 4) : (s.cancelTake ctx).pending = s.pending := by
  unfold cancelTake
  split <;> simp

@[simp] theorem closeOne_pending (s : State) (ctx : Fin 4) : (s.closeOne ctx).pending = s.pending := by
  unfold closeOne
  rw [putContext_pending, foldl_keeps _ State.pending returnOne_pending, cancelTake_pending]

@[simp] theorem takeWait_pending (s : State) (i : Fin 8) (w : ParkedWait) : (s.takeWait i w).pending = s.pending := by
  unfold takeWait parkWait
  (repeat' split) <;> simp

@[simp] theorem manageNotices_pending (s : State) (p : Port) (h : Header) (kind : RequestKind) (kinds : BitVec 16)
    (f : NoticeSet → NoticeUnit → NoticeUnit) : (s.manageNotices p h kind kinds f).pending = s.pending := by
  unfold manageNotices
  split <;> simp

@[simp] theorem dropWaits_pending (s : State) (p : Port) : (s.dropWaits p).pending = s.pending :=
  rfl

@[simp] theorem resetOwners_pending (s : State) (p : Port) : (s.resetOwners p).pending = s.pending := by
  cases p with
  | viewer =>
    simp only [resetOwners, resetViewer, reband_pending]
    rw [foldl_keeps _ State.pending dropPin_pending, mapStore_pending]
  | archive => rfl

@[simp] theorem resetPort_pending (s : State) (p : Port) : (s.resetPort p).pending = s.pending := by
  simp [resetPort, discardReads, discardSlots]

@[simp] theorem issueRead_pending (s : State) (p : Port) (tag : Byte) (op : Operation) (lbn offset length : Nat) :
    (s.issueRead p tag op lbn offset length).pending = s.pending := by
  simp [issueRead]

@[simp] theorem grantFetch_pending (s : State) (r : FetchRequest) : (s.grantFetch r).pending = s.pending := by
  unfold grantFetch
  (repeat' split) <;> simp

@[simp] theorem grantRead_pending (s : State) (r : ReadRequest) : (s.grantRead r).pending = s.pending := by
  unfold grantRead
  (repeat' split) <;> simp

@[simp] theorem popInFlight_pending (s : State) : s.popInFlight.pending = s.pending :=
  rfl

@[simp] theorem storePayload_pending (s : State) (address : Nat) (payload : List Byte) :
    (s.storePayload address payload).pending = s.pending :=
  rfl

@[simp] theorem countCorrected_pending (s : State) (units : List UnitResult) : (s.countCorrected units).pending = s.pending :=
  rfl

@[simp] theorem answerRead_pending (s : State) (e : InFlight) (kind : RequestKind) (clamped failed : Bool) (result : Result)
    (data : List Byte) : (s.answerRead e kind clamped failed result data).pending = s.pending := by
  unfold answerRead
  (repeat' split) <;> simp

@[simp] theorem markDamaged_pending (s : State) (lbn : Nat) : (s.markDamaged lbn).pending = s.pending := by
  unfold markDamaged
  dsimp only
  split <;> simp

@[simp] theorem endRead_pending (s : State) (lbn : Nat) (g : Fin 16) : (s.endRead lbn g).pending = s.pending := by
  unfold endRead wakeAssembler
  split <;> simp

@[simp] theorem completeRead_pending (s : State) (e : InFlight) (units : List UnitResult) (kind : RequestKind)
    (clamped : Bool) (result : Result) : (s.completeRead e units kind clamped result).pending = s.pending := by
  unfold completeRead
  dsimp only
  split <;> simp

@[simp] theorem receive_pending (s : State) (bytes : List Byte) : (s.receive bytes).pending = s.pending := by
  unfold receive sequenceTest offerFrame
  dsimp only
  (repeat' split) <;> simp [joinIntake, dropAtIntake, expectAfter]

@[simp] theorem resync_pending (s : State) : s.resync.pending = s.pending := by
  unfold resync placeResync
  dsimp only
  (repeat' split) <;> simp

@[simp] theorem takeHalt_pending (s : State) : s.takeHalt.pending = s.pending := by
  unfold takeHalt
  (repeat' split) <;> simp [startOrderlyHalt]

@[simp] theorem takeMarker_pending (s : State) : s.takeMarker.pending = s.pending :=
  rfl

end State

/-- Every command answers a next state, and its act reaches no waiting command. -/
theorem exec_pending (c : Instr) (s : State) : ∃ t, exec c s = .next t ∧ t.pending = s.pending := by
  cases c with
  | start hd | stopAtSegmentEnd hd mode | stopNow hd mode | flush hd | stageProfile hd p | readProfile hd which
  | setHeadMark hd lbn action | clearHeadMark hd | unpin hd | read hd lbn offset length | setGroupNext hd next
  | applyGroups hd | setGroupMap hd span groups | reform hd | openContext hd first length | closeContext hd | take hd wait
  | fetch hd lbn offset length | confirm hd lbn withLoss | returnBlock hd lbn | setArchiveMark hd lbn
  | clearArchiveMark hd | setFlagSource p hd source | post p hd | wait p hd mode timeout | clearFlag p hd
  | readIndex p hd first count | readStatus p hd | readCounts p hd | setNoticeMask p hd kinds | clearNotice p hd kinds
  | forceNotice p hd kinds =>
    exact ⟨_, rfl, State.request_pending (fun u => by (repeat' split) <;> simp) ..⟩
  | pin hd first count =>
    exact ⟨_, rfl, State.request_pending (fun u => by dsimp only; (repeat' split) <;> simp) ..⟩
  | resetPort p hd | unsupportedKind p kind hd =>
    exact ⟨_, rfl, by (repeat' split) <;> simp⟩
  | deviceReset levels => exact ⟨_, rfl, rfl⟩
  | portLinkDown p cameUp | frameArrival bytes | resyncMarker | linkLockLoss relocked | haltAssertion | haltRelease
  | idleFlushExpiry | waitTimeout flag p tag | groupSettle group | admissionGrant | fetchGrant | readGrant
  | haltMarkerWorked | resyncMarkerWorked | admissionWriteCompletion | fetchCompletion units | readCompletion units =>
    exact ⟨_, rfl, State.act_pending (fun u => by (repeat' split) <;> simp) s⟩

end Sys2Proof.Machine

namespace Sys2Proof.Machine

variable {s t : State} {p : Port} {h : Header} {k : RequestKind}

/-! ## The Top Notice (R193) -/

theorem NoticeKind.all_getElem_number (k : NoticeKind) : NoticeKind.all[k.number]? = some k := by
  cases k <;> rfl

theorem NoticeKind.number_of_getElem {i : Nat} (hi : i < NoticeKind.all.length) : NoticeKind.all[i].number = i := by
  revert i
  decide

/-- The first kind of the priority order that is pending and enabled is the one with the lowest number. -/
theorem NoticeUnit.top_eq_some {u : NoticeUnit} {k : NoticeKind} :
    u.top = some k
      ↔ (u.pending &&& u.mask).getLsbD k.number = true
        ∧ ∀ j : NoticeKind, j.number < k.number → (u.pending &&& u.mask).getLsbD j.number = false := by
  rw [NoticeUnit.top, List.find?_eq_some_iff_getElem]
  refine and_congr_right fun _ => ⟨?_, fun hlow => ?_⟩
  · rintro ⟨i, hi, rfl, hlow⟩ j hj
    rw [NoticeKind.number_of_getElem] at hj
    obtain ⟨_, hget⟩ := List.getElem?_eq_some_iff.mp j.all_getElem_number
    have hall := hlow j.number hj
    rwa [hget, Bool.not_eq_true'] at hall
  · obtain ⟨hk, hget⟩ := List.getElem?_eq_some_iff.mp k.all_getElem_number
    refine ⟨k.number, hk, hget, fun j hj => ?_⟩
    have hnumber : NoticeKind.all[j].number = j := NoticeKind.number_of_getElem (by omega)
    rw [Bool.not_eq_true', hlow _ (by rwa [hnumber])]

theorem NoticeUnit.top_eq_none {u : NoticeUnit} :
    u.top = none ↔ ∀ k : NoticeKind, (u.pending &&& u.mask).getLsbD k.number = false := by
  have hall (k : NoticeKind) : k ∈ NoticeKind.all := List.mem_of_getElem? k.all_getElem_number
  simp [NoticeUnit.top, List.find?_eq_none, hall]

theorem State.top_of_mem_endAct_sent {r : Response} (hr : r ∈ s.endAct.sent) :
    r.top = (s.endAct.port r.port).notices.top := by
  obtain ⟨x, _, rfl⟩ := List.mem_map.mp hr
  cases hp : x.port <;> simp [State.endAct, State.port]

/-- Every command but a device reset, which sends nothing, closes its act. -/
theorem exec_ends_act (c : Instr) (s : State) : ∃ t, exec c s = .next t ∧ (t.sent = [] ∨ ∃ u : State, t = u.endAct) := by
  cases c with
  | deviceReset levels => exact ⟨_, rfl, .inl rfl⟩
  | _ => exact ⟨_, rfl, .inr ⟨_, rfl⟩⟩

/-! ## The tests of the port (R195) -/

/-- A request in its port's set, a ResetPort apart, goes through the tests of its port. -/
theorem exec_eq_request {i : Instr} {kind : BitVec 8} {body : List Byte} (hrow : i.inRow = true) (hh : i.header = some h)
    (hm : i.message = some (p, kind, body)) (hset : p.supportsCode kind = true) (hk : kind ≠ RequestKind.code .resetPort)
    (s : State) : ∃ k act, kind = RequestKind.code k ∧ exec i s = .next (s.request p k h i.bodyBytes act) := by
  cases i with
  | unsupportedKind q code hd =>
    cases hm
    simp [Instr.inRow, hset] at hrow
  | resetPort q hd =>
    cases hm
    exact absurd rfl hk
  | portLinkDown | frameArrival | resyncMarker | linkLockLoss | haltAssertion | haltRelease | deviceReset | idleFlushExpiry
  | waitTimeout | groupSettle | admissionGrant | fetchGrant | readGrant | haltMarkerWorked | resyncMarkerWorked
  | admissionWriteCompletion | fetchCompletion | readCompletion => cases hh
  | _ =>
    cases hh
    cases hm
    exact ⟨_, _, rfl, rfl⟩

/-! ## The level of a port's link (R200) -/

/-- A port's link is up or down, and nothing else of the state differs. -/
def State.setLinkUp (s : State) (p : Port) (up : Bool) : State :=
  s.mapPort p fun q => { q with linkUp := up }

namespace State

variable {up : Bool}

@[simp] theorem setLinkUp_ring (s : State) (p : Port) (up : Bool) : (s.setLinkUp p up).ring = s.ring := by
  cases p <;> rfl

@[simp] theorem setLinkUp_flags (s : State) (p : Port) (up : Bool) : (s.setLinkUp p up).flags = s.flags := by
  cases p <;> rfl

@[simp] theorem setLinkUp_pins (s : State) (p : Port) (up : Bool) : (s.setLinkUp p up).pins = s.pins := by
  cases p <;> rfl

theorem setLinkUp_setLinkUp (s : State) (p : Port) (a b : Bool) : (s.setLinkUp p a).setLinkUp p b = s.setLinkUp p b := by
  cases p <;> rfl

theorem setLinkUp_completeWait (s : State) (p : Port) (up : Bool) (i : Fin 8) (d : ParkedWait × Bool) :
    (s.setLinkUp p up).completeWait i d = (s.completeWait i d).setLinkUp p up := by
  unfold completeWait answer answerWith freeSlot mapPort setLinkUp
  cases d.1.port <;> cases p <;> rfl

theorem setLinkUp_putFlag (s : State) (p : Port) (up : Bool) (i : Fin 8) (f : SyncFlag) :
    (s.setLinkUp p up).putFlag i f = (s.putFlag i f).setLinkUp p up := by
  cases p <;> rfl

theorem setLinkUp_raiseNotice (s : State) (p : Port) (up : Bool) (k : NoticeKind) :
    (s.setLinkUp p up).raiseNotice k = (s.raiseNotice k).setLinkUp p up := by
  cases p <;> rfl

theorem setLinkUp_setFlag (s : State) (p : Port) (up : Bool) (i : Fin 8) :
    (s.setLinkUp p up).setFlag i = (s.setFlag i).setLinkUp p up := by
  unfold setFlag
  simp only [setLinkUp_flags, setLinkUp_putFlag]
  split
  · rfl
  · exact List.foldl_hom (fun u : State => u.setLinkUp p up) fun u d => setLinkUp_completeWait u p up i d

theorem setLinkUp_raise (s : State) (p : Port) (up : Bool) (e : Event) :
    (s.setLinkUp p up).raise e = (s.raise e).setLinkUp p up := by
  unfold raise
  rw [setLinkUp_raiseNotice]
  refine List.foldl_hom (fun u : State => u.setLinkUp p up) fun u i => ?_
  rw [setLinkUp_flags, setLinkUp_setFlag]
  split <;> rfl

theorem setLinkUp_updatePause (s : State) (p : Port) (up : Bool) :
    (s.setLinkUp p up).updatePause = s.updatePause.setLinkUp p up := by
  cases p <;> rfl

theorem setLinkUp_setBand (s : State) (p : Port) (up : Bool) (b : Band) :
    (s.setLinkUp p up).setBand b = (s.setBand b).setLinkUp p up := by
  have hband : (s.setLinkUp p up).mapRing (fun r => { r with band := b })
      = (s.mapRing fun r => { r with band := b }).setLinkUp p up := by cases p <;> rfl
  unfold setBand
  rw [setLinkUp_ring, hband, setLinkUp_raise, setLinkUp_updatePause]
  split <;> rfl

theorem setLinkUp_reband (s : State) (p : Port) (up : Bool) : (s.setLinkUp p up).reband = s.reband.setLinkUp p up := by
  have hmove : (s.setLinkUp p up).headroom = s.headroom ∧ (s.setLinkUp p up).control = s.control := by cases p <;> exact ⟨rfl, rfl⟩
  rw [reband, setLinkUp_ring, hmove.1, hmove.2, setLinkUp_setBand, reband]

theorem setLinkUp_dropPin (s : State) (p : Port) (up : Bool) (i : Fin 8) :
    (s.setLinkUp p up).dropPin i = (s.dropPin i).setLinkUp p up := by
  unfold dropPin
  rw [setLinkUp_pins]
  split
  · cases p <;> rfl
  · rfl

/-- A port reset neither reads nor changes the level of the port's link. -/
theorem setLinkUp_resetPort (s : State) (p : Port) (up : Bool) :
    (s.setLinkUp p up).resetPort p = (s.resetPort p).setLinkUp p up := by
  cases p with
  | archive => rfl
  | viewer =>
    have hend (u : State) : ((u.setLinkUp .viewer up).discardReads .viewer).mapPort .viewer
          (fun q => { q with notices := resetNotices })
        = ((u.discardReads .viewer).mapPort .viewer fun q => { q with notices := resetNotices }).setLinkUp .viewer up := rfl
    have hstart : (((s.setLinkUp .viewer up).discardSlots .viewer).dropWaits .viewer).mapStore
          (fun t => { t with viewerQueue := [] })
        = (((s.discardSlots .viewer).dropWaits .viewer).mapStore fun t => { t with viewerQueue := [] }).setLinkUp .viewer up :=
      rfl
    unfold resetPort resetOwners resetViewer
    dsimp only
    rw [hstart, List.foldl_hom (fun u : State => u.setLinkUp .viewer up) fun u i => setLinkUp_dropPin u .viewer up i,
      setLinkUp_reband, hend]

end State

/-- A loss of the link does what ResetPort does but for its response and the link's level (R200). -/
theorem exec_portLinkDown_eq {cameUp : Bool} (hup : (s.port p).linkUp = true ∨ cameUp = true) :
    exec (.portLinkDown p cameUp) s = .next ((s.beginAct.resetPort p).setLinkUp p false).endAct := by
  have hport : ((s.beginAct.port p).linkUp || cameUp) = true := by
    cases p <;> simpa [State.port, State.beginAct] using hup
  simp only [exec, execPortLinkDown, State.act, hport, if_true]
  rfl

theorem exec_resetPort_eq (hf : h.bodyLength.toNat = h.received) (he : h.received = 0) :
    exec (.resetPort p h) s
      = .next ((((s.arrive p).resetPort p).reject p h.tag (RequestKind.code .resetPort) .ok).endAct) := by
  simp [exec, execResetPort, hf, he]

end Sys2Proof.Machine

namespace Sys2Proof.Proofs
open Sys2Proof.Machine

/-- Settles O1: the two equations of `step`. -/
theorem stepRunsTheFrontCommand : Obligations.StepRunsTheFrontCommand := by
  refine ⟨fun c rest s hs => ?_, fun s hs => ?_⟩ <;> simp only [step, hs]

/-- Settles O2: no command's act reaches the waiting commands. -/
theorem everyCommandAnswersANextState : Obligations.EveryCommandAnswersANextState :=
  exec_pending

/-- Settles O3: an act ends by writing the Top Notice of the moment into every response, and the priority order lists the kinds by number. -/
theorem responsesCarryTheTopNotice : Obligations.ResponsesCarryTheTopNotice := by
  refine ⟨fun c s t hst r hr => ?_, fun u k => NoticeUnit.top_eq_some, fun u => NoticeUnit.top_eq_none⟩
  obtain ⟨v, hv, hempty | ⟨u, rfl⟩⟩ := exec_ends_act c s <;> cases hv.symm.trans hst
  · simp [hempty] at hr
  · exact State.top_of_mem_endAct_sent hr

/-- Settles O4, by the test that fails first. -/
theorem portTestsRefuse : Obligations.PortTestsRefuse := by
  refine ⟨fun i p h kind body s hrow hh hm hset hk => ?_, fun p kind h s hset => ?_, fun p h s hbad => ?_⟩
  · obtain ⟨k, act, rfl, hexec⟩ := exec_eq_request hrow hh hm hset hk s
    rw [hexec]
    exact ⟨fun hf => congrArg _ (State.request_misframed hf),
      fun hf hs => congrArg _ (State.request_busy hf hs),
      fun hf hs hd => congrArg _ (State.request_duplicate hf hs hd),
      fun hf hs hd hn => congrArg _ (State.request_wrong_length hf hs hd hn)⟩
  · simp only [exec, execUnsupportedKind, hset, Bool.false_eq_true, if_false]
    by_cases hf : h.bodyLength.toNat = h.received
    · rw [if_neg (by simp [hf]), if_pos hf]
      exact congrArg _ (State.reject_arrive s p h.tag kind .unsupported)
    · rw [if_pos hf, if_neg hf]
      exact congrArg _ (State.reject_arrive s p h.tag kind .badParam)
  · have hrefused := State.reject_arrive s p h.tag (RequestKind.code .resetPort) .badParam
    simp only [exec, execResetPort]
    by_cases hf : h.bodyLength.toNat = h.received
    · rw [if_neg (by simp [hf]), if_pos (hbad.resolve_left (by simp [hf])), hrefused]
    · rw [if_pos hf, hrefused]

/-- Settles O7: neither form of a port reset reads the level of the link, and the response of a ResetPort is the last of its act. -/
theorem linkLossIsAPortReset : Obligations.LinkLossIsAPortReset := by
  refine fun p cameUp s => ⟨fun hup h hf he => ⟨_, exec_resetPort_eq hf he, ?_⟩, fun hdown hcame => ?_⟩
  · have harrive : s.arrive p = s.beginAct.setLinkUp p true := rfl
    rw [exec_portLinkDown_eq hup, harrive, State.setLinkUp_resetPort]
    cases p <;> simp [State.setLinkUp, State.mapPort, State.endAct, State.reject, State.send, State.port]
      <;> exact fun r _ => by cases r.port <;> rfl
  · subst hcame
    cases p <;> simp_all [exec, execPortLinkDown, State.act, State.port, State.beginAct, State.endAct, State.silent]

/-- Settles O5. -/
theorem archivePortReset : Obligations.ArchivePortReset := by
  intro h s hf he
  have hblock (b : Block) : b.unclaim = match b.state with
      | .claimed _ => { b with state := .sealed }
      | _ => b := by
    unfold Block.unclaim
    cases b.state <;> rfl
  have hread (e : InFlight) : e.discardFor .archive = match e.requester with
      | .request .archive _ => { e with requester := .discarded }
      | _ => e := by
    unfold InFlight.discardFor
    obtain _ | ⟨_ | _, _⟩ | _ := e.requester <;> rfl
  rw [exec_resetPort_eq hf he]
  simp only [State.resetPort, State.resetOwners, State.resetDrain, State.discardReads, State.discardSlots, State.dropWaits,
    State.mapStore, State.mapRing, State.mapDrain, State.mapPort, State.arrive, State.beginAct, State.reject, State.send,
    State.endAct, State.respond, State.port, funext hblock, funext hread, List.nil_append, List.map_cons, List.map_nil] <;>
    rfl

/-- Settles O8: a device reset leaves `resetWith` of the levels presented, but for the queue and the count of reads. -/
theorem deviceResetLeavesTheSpecValues : Obligations.DeviceResetLeavesTheSpecValues := by
  refine ⟨fun l s => ⟨_, rfl, ?_⟩, rfl, rfl⟩
  refine ⟨rfl, rfl, rfl, rfl, rfl, rfl, fun g => ?_, rfl, rfl, rfl, rfl, rfl, rfl, rfl, rfl, rfl, rfl, rfl, rfl, rfl,
    fun c => ?_, rfl, fun i => ?_, rfl, rfl, rfl, rfl, rfl, rfl, fun i => ?_, fun p => ?_, rfl, rfl, rfl, rfl⟩
  · exact Vector.getElem_replicate ..
  · exact Vector.getElem_replicate ..
  · exact Vector.getElem_replicate ..
  · exact Vector.getElem_replicate ..
  · cases p <;> exact ⟨rfl, rfl⟩

/-- Settles O60: after a device reset nothing is held, nothing waits and nothing is in flight. -/
theorem resetHasEveryForm : Obligations.ResetHasEveryForm := by
  refine ⟨?_, ?_, ?_, ?_, ?_, ?_, ?_, ?_, ?_, ?_, ?_, ?_, ?_⟩
  · exact ⟨rfl, Nat.zero_le 64⟩
  · simp [ControlForm, State.capturing, State.reset, resetWith]
  · simp [RingForm, State.reset, resetWith, State.capacity, lastLbn]
  · simp [AssemblyForm, State.capturing, State.reset, resetWith, State.openEntry, State.fillingBlock]
  · simp [IndexForm, State.reset, resetWith, indexCapacity, tiles]
  · simp [GapForm, State.reset, resetWith]
  · simp [PinForm, State.reset, resetWith, Vector.toList_replicate]
  · simp [StoreForm, State.reset, resetWith, Memory.wf]
  · simp [DrainForm, State.reset, resetWith, State.claims]
  · simp [PowerForm, State.reset, resetWith, State.capturing, GroupState.legal]
  · simp [SignalForm, State.reset, resetWith, resetPortState, resetNotices]
  · intro p
    cases p <;>
      simp [State.reset, resetWith, resetPortState, State.port, State.waitSlots, State.queueSlots, Vector.toList_replicate]
  · simp [BandForm, State.reset, resetWith, resetProfile, State.capacity, State.headroom, State.holdFloor,
      State.archiveFront, Vector.toList_replicate, minWith, Band.agrees]

end Sys2Proof.Proofs

/-!
Capture Control between acts (R41, R90, R94 to R96, R98). A `CaptureView` is what these rules speak of; `CaptureView.Step` says once what the commands can
do to it, and each rule is then kept by every such step.
-/
namespace Sys2Proof.Machine

/-! ## The view -/

/-- What the rules of Capture Control speak of: its state and reasons, Capture Enable, whether a segment is open and whether a halt marker is in intake. -/
@[ext] structure CaptureView where
  enable : Bool
  capture : CaptureState
  stopReason : StopReason
  stoppingReason : Option StoppingReason
  orderlyHalt : Bool
  swapPending : Bool
  segmentOpen : Bool
  halting : Bool

/-- The view a state gives. -/
def State.captureView (s : State) : CaptureView where
  enable := s.link.captureEnable
  capture := s.control.capture
  stopReason := s.control.stopReason
  stoppingReason := s.control.stoppingReason
  orderlyHalt := s.control.orderlyHalt
  swapPending := s.control.swapPending
  segmentOpen := s.index.any Entry.isOpen
  halting := s.link.intake.any IntakeItem.isHaltMarker

namespace CaptureView

/-- Capture is Running or Stopping. -/
def capturing (v : CaptureView) : Prop :=
  v.capture = .running ∨ v.capture = .stopping

/-- The view once capture has entered Stopped (R95). -/
def stopped (reason : StopReason) (segmentOpen : Bool) : CaptureView where
  enable := false
  capture := .stopped
  stopReason := reason
  stoppingReason := none
  orderlyHalt := false
  swapPending := false
  segmentOpen := segmentOpen
  halting := false

/-- What an act can do to the view. -/
inductive Step : CaptureView → CaptureView → Prop where
  | same (v : CaptureView) : Step v v
  | trans {u v w : CaptureView} : Step u v → Step v w → Step u w
  | stops {reason : StopReason} (v : CaptureView) (segmentOpen : Bool) : reason ≠ .none → Step v (stopped reason segmentOpen)
  | awaitsClose {v : CaptureView} (reason : StoppingReason) : v.capture = .running → v.segmentOpen = true →
      Step v { v with capture := .stopping, stoppingReason := some reason }
  | swapTaken (v : CaptureView) : Step v { v with swapPending := false }
  | swapLeft {v : CaptureView} : v.capturing → Step v { v with swapPending := true }
  | opens (v : CaptureView) : Step v { v with segmentOpen := true }
  | closes {v : CaptureView} : v.capture ≠ .stopping → Step v { v with segmentOpen := false }
  | halts {v : CaptureView} : v.capturing → Step v { v with orderlyHalt := true, halting := true }
  | starts {v : CaptureView} : v.capture = .idle ∨ v.capture = .stopped →
      Step v { v with capture := .running, stopReason := .none, enable := true }
  | mapTaken {v : CaptureView} : v.capture = .unformed ∨ v.capture = .idle → Step v { v with capture := .unformed }
  | forms {v : CaptureView} : ¬ v.capturing → Step v { v with capture := .idle, stopReason := .none, segmentOpen := false }
  | resets (v : CaptureView) : Step v State.reset.captureView

theorem Step.of_eq {u v : CaptureView} (h : v = u) : Step u v :=
  h ▸ .same u

end CaptureView

open CaptureView (Step)

/-! ## Operations that leave the view as it is -/

namespace State

theorem openEntry_isSome (s : State) : s.openEntry.isSome = s.index.any Entry.isOpen := by
  rw [Bool.eq_iff_iff, openEntry, List.find?_isSome, List.any_eq_true]

theorem captureView_congr {s t : State} (hl : t.link = s.link) (hc : t.control = s.control) (hi : t.index = s.index) :
    t.captureView = s.captureView := by
  rw [captureView, captureView, hl, hc, hi]

theorem any_isOpen_map {f : Entry → Entry} (hf : ∀ e, (f e).isOpen = e.isOpen) (es : List Entry) :
    (es.map f).any Entry.isOpen = es.any Entry.isOpen := by
  rw [List.any_map]
  exact congrArg (List.any es) (funext hf)

/-- A retired entry is Closed. -/
theorem any_isOpen_retire (es : List Entry) :
    (es.filter fun e => e.isOpen || !e.emptied).any Entry.isOpen = es.any Entry.isOpen := by
  rw [List.any_filter]
  congr 1
  funext e
  cases e.isOpen <;> simp

theorem mapOpen_captureView (s : State) {f : Entry → Entry} (hf : ∀ e, (f e).isOpen = e.isOpen) :
    (s.mapOpen f).captureView = s.captureView := by
  have hmap (e : Entry) : (if e.isOpen then f e else e).isOpen = e.isOpen := by split <;> simp [hf]
  simp only [captureView, mapOpen, any_isOpen_map hmap]

theorem mapEntry_captureView (s : State) (n : Nat) {f : Entry → Entry} (hf : ∀ e, (f e).isOpen = e.isOpen) :
    (s.mapEntry n f).captureView = s.captureView := by
  have hmap (e : Entry) : (if e.number = n then f e else e).isOpen = e.isOpen := by split <;> simp [hf]
  simp only [captureView, mapEntry, any_isOpen_map hmap]

@[simp] theorem retire_captureView (s : State) : s.retire.captureView = s.captureView := by
  simp only [captureView, retire, any_isOpen_retire]

@[simp] theorem raise_captureView (s : State) (e : Event) : (s.raise e).captureView = s.captureView := by
  simp [captureView]

@[simp] theorem raiseNotice_captureView (s : State) (k : NoticeKind) : (s.raiseNotice k).captureView = s.captureView := by
  simp [captureView]

@[simp] theorem setBand_captureView (s : State) (b : Band) : (s.setBand b).captureView = s.captureView := by
  simp [captureView]

@[simp] theorem reband_captureView (s : State) : s.reband.captureView = s.captureView := by
  simp [captureView]

@[simp] theorem settleRing_captureView (s : State) (n : Nat) : (s.settleRing n).captureView = s.captureView := by
  simp [captureView]

@[simp] theorem sealFilling_captureView (s : State) : s.sealFilling.captureView = s.captureView := by
  simp [captureView]

@[simp] theorem sealFull_captureView (s : State) : s.sealFull.captureView = s.captureView := by
  simp [captureView]

@[simp] theorem clearTimers_captureView (s : State) (c : Option Continuation) : (s.clearTimers c).captureView = s.captureView := by
  simp [captureView]

@[simp] theorem spendSlice_captureView (s : State) (n : Nat) : (s.spendSlice n).captureView = s.captureView := by
  simp [captureView]

@[simp] theorem spendFrame_captureView (s : State) (f : Frame) : (s.spendFrame f).captureView = s.captureView := by
  simp [captureView]

@[simp] theorem dropContinuation_captureView (s : State) : s.dropContinuation.captureView = s.captureView := by
  simp [captureView]

@[simp] theorem waitAtFront_captureView (s : State) (x : Stage) : (s.waitAtFront x).captureView = s.captureView := by
  simp [captureView]

@[simp] theorem present_captureView (s : State) : s.present.captureView = s.captureView := by
  simp [captureView]

@[simp] theorem appendPayload_captureView (s : State) (b : Block) (f : Frame) :
    (s.appendPayload b f).captureView = s.captureView := by
  simp [captureView]

@[simp] theorem openBlock_captureView (s : State) (n : Nat) (a : Bool) (f : Frame) :
    (s.openBlock n a f).captureView = s.captureView := by
  simp [captureView]

@[simp] theorem discardCarried_captureView (s : State) : s.discardCarried.captureView = s.captureView :=
  rfl

theorem addGap_isOpen (e : Entry) (lost : BitVec 64) (cause : GapCause) (mixed : Bool) :
    (e.addGap lost cause mixed).isOpen = e.isOpen := by
  unfold Entry.addGap
  dsimp only
  (repeat' split) <;> rfl

theorem recordTrigger_isOpen (e : Entry) (f : Frame) (n : Nat) : (e.recordTrigger f n).isOpen = e.isOpen := by
  unfold Entry.recordTrigger
  dsimp only
  split <;> rfl

@[simp] theorem recordGap_captureView (s : State) (lost : Nat) (cause : GapCause) (mixed : Bool) :
    (s.recordGap lost cause mixed).captureView = s.captureView := by
  unfold recordGap
  split
  · rfl
  · rw [spendSlice_captureView, mapOpen_captureView _ fun e => addGap_isOpen e _ _ _]

@[simp] theorem recordLoss_captureView (s : State) (loss : Option LossRecord) (stamp : Option Tick) :
    (s.recordLoss loss stamp).captureView = s.captureView := by
  unfold recordLoss
  split
  · rw [recordGap_captureView, mapOpen_captureView]
    exact fun _ => rfl
  · rfl

@[simp] theorem recordTrigger_captureView (s : State) (f : Frame) : (s.recordTrigger f).captureView = s.captureView := by
  unfold recordTrigger
  split
  · exact mapOpen_captureView _ fun e => recordTrigger_isOpen e _ _
  · rfl

@[simp] theorem leavingReport_captureView (s : State) (b : Block) (evicted : Bool) :
    (s.leavingReport b evicted).captureView = s.captureView := by
  rw [leavingReport, retire_captureView, mapEntry_captureView]
  exact fun _ => rfl

@[simp] theorem recycleTail_captureView (s : State) (b : Block) : (s.recycleTail b).captureView = s.captureView :=
  leavingReport_captureView ..

@[simp] theorem evictTail_captureView (s : State) (b : Block) : (s.evictTail b).captureView = s.captureView := by
  rw [evictTail, raiseNotice_captureView]
  exact leavingReport_captureView ..

@[simp] theorem leaveIntake_intake (s : State) : s.leaveIntake.link.intake = s.link.intake.tail :=
  rfl

@[simp] theorem discardIntake_intake (s : State) : s.discardIntake.link.intake = [] :=
  rfl

/-- The frame at the front leaves intake: no marker leaves with it. -/
theorem leaveIntake_captureView {s : State} (hs : frameInFront s.link.intake = true) :
    s.leaveIntake.captureView = s.captureView := by
  have hhalt : s.link.intake.tail.any IntakeItem.isHaltMarker = s.link.intake.any IntakeItem.isHaltMarker := by
    rcases hi : s.link.intake with _ | ⟨_ | _ | _, rest⟩
    · rfl
    · rfl
    · simp [hi, frameInFront, IntakeItem.isFrame] at hs
    · simp [hi, frameInFront, IntakeItem.isFrame] at hs
  simp [captureView, hhalt]

theorem dropFront_captureView {s : State} (hs : frameInFront s.link.intake = true) :
    s.dropFront.captureView = s.captureView :=
  leaveIntake_captureView (s := s.count _) hs

theorem countPlaced_captureView {s : State} (hs : frameInFront s.link.intake = true) (f : Frame) :
    (s.countPlaced f).captureView = s.captureView := by
  rw [countPlaced, leaveIntake_captureView]
  · exact mapOpen_captureView s fun _ => rfl
  · simpa using hs

end State

/-! ## Closes, stops and the working of a frame -/

/-- From `s` to `t` Capture Control has made one of the steps its rules speak of. -/
abbrev CaptureStep (s t : State) : Prop :=
  s.captureView.Step t.captureView

namespace CaptureStep

variable {s t u : State}

theorem of_view (h : t.captureView = s.captureView) : CaptureStep s t :=
  Step.of_eq h

theorem then_view (h : CaptureStep s t) (hu : u.captureView = t.captureView) : CaptureStep s u :=
  h.trans (.of_eq hu)

theorem after_view (hs : t.captureView = s.captureView) (h : CaptureStep t u) : CaptureStep s u :=
  (Step.of_eq hs).trans h

/-- The close of the open segment seals its block, closes its entry and leaves no entry Open (R59). -/
theorem closeSegment_view (s : State) (r : CloseReason) :
    (s.closeSegment r).captureView = { s.captureView with segmentOpen := false } := by
  have hnone : s.openEntry = none → s.captureView = { s.captureView with segmentOpen := false } := fun h => by
    simp [State.captureView, ← State.openEntry_isSome, h]
  have hclosed : (s.index.map fun e => if e.isOpen then { e with closeReason := some r } else e).any Entry.isOpen = false := by
    rw [List.any_map, List.any_eq_false]
    intro e _
    by_cases he : e.isOpen = true
    · rw [Function.comp_apply, if_pos he]
      exact Bool.false_ne_true
    · rwa [Function.comp_apply, if_neg he]
  unfold State.closeSegment
  split
  next h => exact hnone h
  · rw [State.clearTimers_captureView, State.raise_captureView, State.retire_captureView]
    simp [State.captureView, State.mapOpen, hclosed]

theorem enterStopped_view (s : State) (r : StopReason) :
    (s.enterStopped r).captureView = .stopped r s.captureView.segmentOpen := by
  simp [State.captureView, CaptureView.stopped, State.enterStopped_control, State.takeSwap_control, State.haltCapture,
    State.enterStopped_link]

theorem enterStopped (s : State) {r : StopReason} (hr : r ≠ .none) : CaptureStep s (s.enterStopped r) := by
  rw [CaptureStep, enterStopped_view]
  exact .stops _ _ hr

theorem closeAndStop (s : State) (c : CloseReason) {r : StopReason} (hr : r ≠ .none) :
    CaptureStep s ((s.closeSegment c).enterStopped r) := by
  rw [CaptureStep, enterStopped_view, closeSegment_view]
  exact .stops _ _ hr

theorem stopAtOnce (s : State) (c : CloseReason) {r : StopReason} (hr : r ≠ .none) : CaptureStep s (s.stopAtOnce c r) := by
  have hopen : s.discardIntake.captureView.segmentOpen = s.captureView.segmentOpen := by simp [State.captureView]
  rw [CaptureStep, State.stopAtOnce, enterStopped_view, closeSegment_view]
  exact .stops _ _ hr

theorem reasonAfterClose_ne (c : Control) : c.reasonAfterClose ≠ .none := by
  unfold Control.reasonAfterClose
  split
  · nofun
  · split <;> nofun

theorem closeInCourse (s : State) (r : CloseReason) : CaptureStep s (s.closeInCourse r) := by
  unfold State.closeInCourse
  split
  · exact .same _
  · dsimp only
    split
    · exact closeAndStop s r (reasonAfterClose_ne _)
    next h =>
      rw [CaptureStep, closeSegment_view]
      exact .closes (by simpa [State.captureView] using h)

/-- An armed Stop takes Running to Stopping with a segment open, and to Stopped without one (R92, R108). -/
theorem mapControl_stopping {r : StoppingReason} (hc : s.control.capture = .running) (ho : s.openEntry.isSome = true) :
    CaptureStep s (s.mapControl fun c => { c with capture := .stopping, stoppingReason := some r }) :=
  .awaitsClose r hc ((s.openEntry_isSome).symm.trans ho)

theorem testHeadMark (s : State) : CaptureStep s s.testHeadMark := by
  have hfired : s.headMarkFired.captureView = s.captureView := by
    simp [State.captureView, State.headMarkFired, State.disarmHeadMark]
  cases hm : s.control.headMark with
  | none => exact of_view (by simp [State.testHeadMark, hm])
  | some m =>
    by_cases hle : m.lbn ≤ s.ring.head
    · rw [State.testHeadMark_of_reached hm hle]
      refine after_view hfired ?_
      split
      next h =>
        have hcapture : s.headMarkFired.control.capture = .running := by
          simpa [State.headMarkFired, State.disarmHeadMark] using h.2
        have hopen : s.headMarkFired.openEntry.isSome = s.openEntry.isSome := by
          simp [State.headMarkFired, State.disarmHeadMark]
        split
        next ho => exact mapControl_stopping hcapture (hopen.trans ho)
        · exact enterStopped _ (by decide)
      · exact .same _
    · exact of_view (by rw [State.testHeadMark_of_above hm (Nat.not_le.mp hle)])

theorem stopAtEnd (s : State) : CaptureStep s s.stopAtEnd := by
  unfold State.stopAtEnd
  split
  next hc =>
    split
    next ho => exact mapControl_stopping hc ho
    · exact enterStopped _ (by decide)
  · exact .same _

theorem activate (s : State) : CaptureStep s s.activate := by
  have hview : s.activate.captureView = { s.captureView with swapPending := false } := by
    simp [State.captureView]
  rw [CaptureStep, hview]
  exact .swapTaken _

theorem afterPlaced (s : State) (f : Frame) : CaptureStep s (s.afterPlaced f) := by
  unfold State.afterPlaced State.endFrame
  refine after_view (t := ((s.recordTrigger f).spendFrame f).sealFull) (by simp) ?_
  split
  · exact closeInCourse _ _
  · split
    · exact closeInCourse _ _
    · exact .same _

section
variable (hs : frameInFront s.link.intake = true)
include hs

theorem exhaustLbn : CaptureStep s s.exhaustLbn :=
  after_view (by rw [State.raiseNotice_captureView, State.dropFront_captureView hs]) (closeAndStop _ _ (by decide))

theorem overrun (f : Frame) : CaptureStep s (s.overrun f) := by
  have stops {u : State} (hu : u.captureView = s.captureView) :
      CaptureStep s (if u.control.active.overrunPolicy = .stop then (u.closeSegment .overrun).enterStopped .overrun else u) := by
    refine after_view hu ?_
    split
    · exact closeAndStop _ _ (by decide)
    · exact .same _
  have hdrop := State.dropFront_captureView hs
  unfold State.overrun
  dsimp only
  split <;> exact stops (by simp [hdrop])

theorem indexFull : CaptureStep s s.indexFull := by
  unfold State.indexFull
  refine after_view (t := (s.dropFront.raiseNotice .indexFull).dropContinuation) (by simp [State.dropFront_captureView hs]) ?_
  dsimp only
  split
  · exact enterStopped _ (by decide)
  · exact .same _

theorem finishOpening (before : Nat) (f : Frame) : CaptureStep s (s.finishOpening before f) :=
  after_view (by rw [State.settleRing_captureView, State.countPlaced_captureView hs])
    ((testHeadMark _).trans (afterPlaced _ f))

end

theorem requestBlock_view (h : s.requestBlock = .granted t) : t.captureView = s.captureView := by
  unfold State.requestBlock at h
  split at h
  · cases h
  split at h
  · cases h; rfl
  split at h
  · cases h
  split at h <;> cases h <;> simp

theorem makeRoom_view (s : State) (fuel : Nat) : (s.makeRoom fuel).state.captureView = s.captureView := by
  induction fuel generalizing s with
  | zero => unfold State.makeRoom; split <;> rfl
  | succ fuel ih =>
    unfold State.makeRoom
    split
    · rfl
    split
    · rfl
    split
    · rw [ih, State.recycleTail_captureView]
    · rw [ih, State.evictTail_captureView]
    · rfl
    · rfl

theorem frameInFront_of_frameBook (h : t.link.frameBook = s.link.frameBook) :
    frameInFront t.link.intake = frameInFront s.link.intake :=
  congrArg (fun b => frameInFront b.intake) h

theorem openSegment (s : State) (f : Frame) (loss : Option LossRecord) : CaptureStep s (s.openSegment f loss) := by
  have hview : (s.openSegment f loss).captureView = { s.captureView with segmentOpen := true } := by
    simp [State.captureView, State.openSegment, State.newEntry, Entry.isOpen]
  rw [CaptureStep, hview]
  exact .opens _

section
variable (hs : frameInFront s.link.intake = true)
include hs

theorem openWithBlock (before : Nat) (f : Frame) (loss : Option LossRecord) :
    CaptureStep s (s.openWithBlock before f loss) := by
  have hsettled : frameInFront (s.settleRing before).link.intake = true := by simpa using hs
  unfold State.openWithBlock
  split
  next u granted =>
    have hu : frameInFront (u.openSegment f loss).link.intake = true := by
      have hg := frameInFront_of_frameBook (State.requestBlock_frameBook granted)
      simpa [State.openSegment, hs] using hg
    exact (after_view (requestBlock_view granted) (openSegment u f loss)).trans (finishOpening hu before f)
  · exact after_view (by simp) (exhaustLbn (s := (s.settleRing before).dropContinuation) (by simpa using hs))
  · exact of_view (by simp)
  · exact after_view (by simp) (overrun hsettled f)

theorem openWithRoom (before : Nat) (f : Frame) (loss : Option LossRecord) :
    CaptureStep s (s.openWithRoom before f loss) := by
  have hview := makeRoom_view s s.ring.blocks.length
  have hfront := frameInFront_of_frameBook (s.makeRoom_frameBook s.ring.blocks.length)
  unfold State.openWithRoom
  split
  next u made =>
    rw [made] at hview hfront
    exact after_view hview (openWithBlock (hfront.trans hs) before f loss)
  next u made =>
    rw [made] at hview
    exact of_view (by simpa [RoomAnswer.state] using hview)
  next u made =>
    rw [made] at hview hfront
    exact after_view (by simpa [RoomAnswer.state] using hview)
      (indexFull (s := u.settleRing before) (by simpa [RoomAnswer.state] using hfront.trans hs))

theorem beginSegment (before : Nat) (f : Frame) (loss : Option LossRecord) :
    CaptureStep s (s.beginSegment before f loss) := by
  have begun {u : State} (hu : CaptureStep s u) (hi : frameInFront u.link.intake = true) :
      CaptureStep s
        (if lastSegment ≤ u.assembler.nextSegment then
          ((u.dropFront.raiseNotice .overrunLoss).dropContinuation).enterStopped .segmentNumberExhausted
        else u.openWithRoom before f loss) := by
    refine hu.trans ?_
    split
    · exact after_view (by simp [State.dropFront_captureView hi]) (enterStopped _ (by decide))
    · exact openWithRoom hi before f loss
  unfold State.beginSegment
  dsimp only
  split
  · exact begun (activate s) (by simpa [State.discardCarried] using hs)
  · exact begun (.same _) hs

theorem nextBlock (before : Nat) (e : Entry) (f : Frame) : CaptureStep s (s.nextBlock before e f) := by
  unfold State.nextBlock
  split
  next u granted =>
    have hg := frameInFront_of_frameBook (State.requestBlock_frameBook granted)
    refine after_view ?_ (finishOpening (by simpa [hs] using hg) before f)
    rw [State.mapOpen_captureView, State.openBlock_captureView, requestBlock_view granted]
    exact fun _ => rfl
  · exact exhaustLbn hs
  · exact of_view (by simp)
  · exact overrun hs f

theorem placeInSegment (before : Nat) (e : Entry) (f : Frame) : CaptureStep s (s.placeInSegment before e f) := by
  unfold State.placeInSegment
  split
  next b _ =>
    split
    · exact after_view (by rw [State.countPlaced_captureView (by simpa using hs), State.appendPayload_captureView])
        (afterPlaced _ f)
    · exact after_view (by simp) (nextBlock (s := s.sealFilling) (by simpa using hs) before e f)
  · exact nextBlock hs before e f

theorem placeFrame (before : Nat) (f : Frame) (loss : Option LossRecord) : CaptureStep s (s.placeFrame before f loss) := by
  unfold State.placeFrame
  split
  · exact placeInSegment hs before _ f
  · exact beginSegment hs before f loss

theorem workFrame (f : Frame) (loss : Option LossRecord) : CaptureStep s (s.workFrame f loss) := by
  have hi : frameInFront (s.recordLoss loss f.stamp).link.intake = true := by simpa using hs
  have hclose := closeInCourse (s.recordLoss loss f.stamp) .missingEnd
  unfold State.workFrame
  refine after_view (s.recordLoss_captureView loss f.stamp) ?_
  dsimp only
  split
  · split
    · exact hclose
    next going =>
      have hrun : (s.recordLoss loss f.stamp).control.capture ≠ .stopping := by simpa using going
      rw [State.closeInCourse_of_not_stopping _ hrun] at hclose ⊢
      exact hclose.trans (placeFrame (by simpa using hi) _ f loss)
  · exact placeFrame hi _ f loss

theorem resumeFrame (x : Stage) (f : Frame) (loss : Option LossRecord) : CaptureStep s (s.resumeFrame x f loss) := by
  unfold State.resumeFrame
  cases x with
  | makeRoom => exact openWithRoom hs _ f loss
  | openBlock => exact openWithBlock hs _ f loss
  | nextBlock =>
    dsimp only
    split
    · exact nextBlock hs _ _ f
    · exact .same _

end

theorem workFront (s : State) : CaptureStep s s.workFront := by
  unfold State.workFront
  dsimp only
  split
  next f loss rest front =>
    have hfront : frameInFront ((s.mapStore fun t => { t with admission := false }).mapAssembler fun a =>
        { a with stage := none }).link.intake = true := by
      rw [front]
      rfl
    refine then_view ?_ (State.present_captureView _)
    split
    · exact after_view rfl (workFrame hfront f loss)
    · exact after_view rfl (resumeFrame hfront _ f loss)
  · exact .same _

end CaptureStep
end Sys2Proof.Machine

namespace Sys2Proof.Machine
open CaptureView (Step)

/-! ## The commands at Capture Control -/

namespace State

@[simp] theorem arrive_captureView (s : State) (p : Port) : (s.arrive p).captureView = s.captureView := by
  cases p <;> rfl

@[simp] theorem endAct_captureView (s : State) : s.endAct.captureView = s.captureView :=
  rfl

@[simp] theorem reject_captureView (s : State) (p : Port) (tag : Byte) (k : BitVec 8) (st : Status) :
    (s.reject p tag k st).captureView = s.captureView :=
  rfl

@[simp] theorem beginAct_captureView (s : State) : s.beginAct.captureView = s.captureView :=
  rfl

@[simp] theorem answer_captureView (s : State) (p : Port) (tag : Byte) (k : RequestKind) (st : Status) (r : Result) :
    (s.answer p tag k st r).captureView = s.captureView := by
  simp [captureView]

@[simp] theorem refuse_captureView (s : State) (p : Port) (tag : Byte) (k : RequestKind) (st : Status) :
    (s.refuse p tag k st).captureView = s.captureView :=
  answer_captureView ..

end State

namespace CaptureStep

variable {s : State} {f : State → State}

theorem act (hf : ∀ u, CaptureStep u (f u)) (s : State) : CaptureStep s (s.act f) :=
  (after_view (t := s.beginAct) rfl (hf _)).then_view rfl

/-- The tests of a port do not reach Capture Control, so a request steps as its owning block's act does. -/
theorem request (hf : ∀ u, CaptureStep u (f u)) (s : State) (p : Port) (k : RequestKind) (h : Header) (n : Nat) :
    CaptureStep s (s.request p k h n f) := by
  unfold State.request
  dsimp only
  refine (after_view (s.arrive_captureView p) ?_).then_view (State.endAct_captureView _)
  (repeat' split)
  · exact of_view rfl
  · exact of_view rfl
  · exact of_view rfl
  · exact of_view (by simp [State.captureView])
  · exact after_view (by simp [State.captureView]) (hf _)

theorem startCapture {s : State} (hidle : s.control.capture = .idle ∨ s.control.capture = .stopped) :
    CaptureStep s s.startCapture :=
  .starts hidle

theorem takeStop (s : State) (hd : Header) (mode : BitVec 8) : CaptureStep s (s.takeStop hd mode) := by
  unfold State.takeStop
  split
  · exact of_view (State.refuse_captureView ..)
  dsimp only
  split
  · refine then_view ?_ (State.answer_captureView ..)
    split
    · exact stopAtOnce _ _ (by decide)
    · exact stopAtEnd _
  · exact of_view (State.refuse_captureView ..)

theorem stage (s : State) (q : Profile) : CaptureStep s (s.stage q) := by
  unfold State.stage
  dsimp only
  split
  next h => exact .swapLeft h
  · exact after_view (t := s.mapControl fun c => { c with staged := q }) rfl (activate _)

theorem putMap {s : State} (map : List (Fin 16)) (hc : s.control.capture = .unformed ∨ s.control.capture = .idle) :
    CaptureStep s (s.putMap map) := by
  have hview : (s.putMap map).captureView = { s.captureView with capture := .unformed } := by
    simp [State.putMap, State.captureView]
  rw [CaptureStep, hview]
  exact .mapTaken hc

theorem reform {s : State} (hc : ¬ s.captureView.capturing) : CaptureStep s s.reform := by
  have hview : s.reform.captureView = { s.captureView with capture := .idle, stopReason := .none, segmentOpen := false } := by
    simp [State.reform, State.captureView]
  rw [CaptureStep, hview]
  exact .forms hc

/-- A halt marker in intake says that an Orderly halt has started (R98). -/
theorem startOrderlyHalt {s : State} (hc : s.captureView.capturing) : CaptureStep s s.startOrderlyHalt := by
  have hview : s.startOrderlyHalt.captureView = { s.captureView with orderlyHalt := true, halting := true } := by
    simp [State.startOrderlyHalt, State.captureView, IntakeItem.isHaltMarker]
  rw [CaptureStep, hview]
  exact .halts hc

theorem takeHalt (s : State) : CaptureStep s s.takeHalt := by
  unfold State.takeHalt
  split
  next hc =>
    split
    · exact stopAtOnce _ _ (by decide)
    · split
      · exact .same _
      · exact startOrderlyHalt hc
  · exact .same _

/-- Frames and resync markers that join intake are no halt markers. -/
theorem receive (s : State) (bytes : List Byte) : (s.receive bytes).captureView = s.captureView := by
  unfold State.receive State.sequenceTest State.offerFrame
  dsimp only
  (repeat' split) <;>
    simp [State.captureView, State.joinIntake, State.dropAtIntake, State.expectAfter, IntakeItem.isHaltMarker]

theorem resync (s : State) : s.resync.captureView = s.captureView := by
  unfold State.resync State.placeResync
  dsimp only
  (repeat' split) <;> simp [State.captureView, IntakeItem.isHaltMarker]

theorem takeMarker_of_resync {s : State} {loss : Option LossRecord} {rest : List IntakeItem}
    (h : s.link.intake = .resyncMarker loss :: rest) : s.takeMarker.captureView = s.captureView := by
  simp [State.captureView, State.takeMarker, h, IntakeItem.isHaltMarker]

theorem markLoss (s : State) (b : Block) (withLoss : Bool) : (s.markLoss b withLoss).captureView = s.captureView := by
  unfold State.markLoss
  split
  · exact State.mapEntry_captureView s _ fun _ => rfl
  · rfl

theorem confirmBlock (s : State) (b : Block) (withLoss : Bool) : (s.confirmBlock b withLoss).captureView = s.captureView := by
  rw [State.confirmBlock, State.settleRing_captureView, markLoss]
  simp [State.captureView]

end CaptureStep

namespace State

@[simp] theorem count_captureView (s : State) (f : StreamCounts → StreamCounts) :
    (s.count f).captureView = s.captureView :=
  rfl

@[simp] theorem markDamaged_captureView (s : State) (lbn : Nat) : (s.markDamaged lbn).captureView = s.captureView := by
  unfold markDamaged
  dsimp only
  rw [raise_captureView, count_captureView]
  split
  · rw [mapEntry_captureView]
    · exact captureView_congr rfl rfl rfl
    · exact fun _ => rfl
  · rfl

@[simp] theorem takePin_captureView (s : State) (i : Fin 8) (r : PinRange) :
    (s.takePin i r).captureView = s.captureView := by
  simp [takePin, captureView]

@[simp] theorem checkRead_captureView (s : State) (h : Header) (i : Fin 8) (r : PinRange) (lbn offset length : Nat) :
    (s.checkRead h i r lbn offset length).captureView = s.captureView := by
  unfold checkRead
  dsimp only
  (repeat' split) <;> simp [captureView]

@[simp] theorem beginChange_captureView (s : State) (g : Fin 16) : (s.beginChange g).captureView = s.captureView := by
  unfold beginChange
  split <;> simp [captureView]

@[simp] theorem endFirstPhase_captureView (s : State) (g : Fin 16) : (s.endFirstPhase g).captureView = s.captureView := by
  unfold endFirstPhase
  split <;> simp [captureView]

@[simp] theorem applyChanges_captureView (s : State) : s.applyChanges.captureView = s.captureView := by
  unfold applyChanges
  rw [foldl_keeps _ State.captureView endFirstPhase_captureView, foldl_keeps _ State.captureView beginChange_captureView]

@[simp] theorem takeFrom_captureView (s : State) (h : Header) (ctx : Fin 4) (w : Window) (wait : Bool) :
    (s.takeFrom h ctx w wait).captureView = s.captureView := by
  unfold takeFrom parkTake
  (repeat' split) <;> simp [captureView]

@[simp] theorem returnOne_captureView (s : State) (b : Block) : (s.returnOne b).captureView = s.captureView := by
  simp [returnOne, captureView]

@[simp] theorem closeOne_captureView (s : State) (ctx : Fin 4) : (s.closeOne ctx).captureView = s.captureView := by
  have hcancel : (s.cancelTake ctx).captureView = s.captureView := by
    unfold cancelTake
    split <;> simp [captureView]
  have hput (u : State) (w : Option Window) : (u.putContext ctx w).captureView = u.captureView := rfl
  rw [closeOne, hput, foldl_keeps _ State.captureView returnOne_captureView, hcancel]

@[simp] theorem takeWait_captureView (s : State) (i : Fin 8) (w : ParkedWait) :
    (s.takeWait i w).captureView = s.captureView := by
  unfold takeWait parkWait
  (repeat' split) <;> simp [captureView]

@[simp] theorem manageNotices_captureView (s : State) (p : Port) (h : Header) (kind : RequestKind) (kinds : BitVec 16)
    (f : NoticeSet → NoticeUnit → NoticeUnit) : (s.manageNotices p h kind kinds f).captureView = s.captureView := by
  unfold manageNotices
  split <;> simp [captureView]

@[simp] theorem resetOwners_captureView (s : State) (p : Port) : (s.resetOwners p).captureView = s.captureView := by
  cases p with
  | archive => rfl
  | viewer =>
    have hdrop (u : State) (i : Fin 8) : (u.dropPin i).captureView = u.captureView := by simp [captureView]
    rw [resetOwners, resetViewer, reband_captureView, foldl_keeps _ State.captureView hdrop]
    rfl

@[simp] theorem resetPort_captureView (s : State) (p : Port) : (s.resetPort p).captureView = s.captureView := by
  have hbegin : ((s.discardSlots p).dropWaits p).captureView = s.captureView := by cases p <;> rfl
  have hend (u : State) (f : PortState → PortState) : ((u.discardReads p).mapPort p f).captureView = u.captureView := by
    cases p <;> rfl
  rw [resetPort, hend, resetOwners_captureView, hbegin]

@[simp] theorem grantFetch_captureView (s : State) (r : FetchRequest) : (s.grantFetch r).captureView = s.captureView := by
  unfold grantFetch
  (repeat' split) <;> simp [captureView, issueRead]

@[simp] theorem grantRead_captureView (s : State) (r : ReadRequest) : (s.grantRead r).captureView = s.captureView := by
  unfold grantRead
  (repeat' split) <;> simp [captureView, issueRead]

@[simp] theorem endRead_captureView (s : State) (lbn : Nat) (g : Fin 16) : (s.endRead lbn g).captureView = s.captureView := by
  unfold endRead wakeAssembler
  split <;> simp [captureView]

@[simp] theorem answerRead_captureView (s : State) (e : InFlight) (kind : RequestKind) (clamped failed : Bool)
    (result : Result) (data : List Byte) : (s.answerRead e kind clamped failed result data).captureView = s.captureView := by
  unfold answerRead
  (repeat' split) <;> simp [captureView]

@[simp] theorem completeRead_captureView (s : State) (e : InFlight) (units : List UnitResult) (kind : RequestKind)
    (clamped : Bool) (result : Result) : (s.completeRead e units kind clamped result).captureView = s.captureView := by
  unfold completeRead
  dsimp only
  split <;> simp <;> rfl

end State

/-- Every command makes one of the steps of Capture Control: most none at all. -/
theorem exec_captureStep (c : Instr) (s : State) : ∃ t, exec c s = .next t ∧ CaptureStep s t := by
  open CaptureStep in
  cases c with
  | start hd =>
    refine ⟨_, rfl, request (fun u => ?_) ..⟩
    split
    · exact of_view (State.refuse_captureView ..)
    next hstate =>
      split
      · exact of_view (State.refuse_captureView ..)
      · refine (startCapture ?_).then_view (State.answer_captureView ..)
        cases hc : u.control.capture <;> simp_all
  | stopAtSegmentEnd hd mode | stopNow hd mode => exact ⟨_, rfl, request (fun u => takeStop u hd mode) ..⟩
  | flush hd | readProfile hd which | clearHeadMark hd | unpin hd | read hd lbn offset length | setGroupNext hd next
  | applyGroups hd | openContext hd first length | closeContext hd | take hd wait | fetch hd lbn offset length
  | returnBlock hd lbn | setArchiveMark hd lbn | clearArchiveMark hd | setFlagSource p hd source | post p hd
  | wait p hd mode timeout | clearFlag p hd | readIndex p hd first count | readStatus p hd | readCounts p hd
  | setNoticeMask p hd kinds | clearNotice p hd kinds | forceNotice p hd kinds =>
    refine ⟨_, rfl, request (fun u => of_view ?_) ..⟩
    (repeat' split) <;> simp <;> simp [State.captureView]
  | stageProfile hd q =>
    refine ⟨_, rfl, request (fun u => ?_) ..⟩
    split
    · exact of_view (State.refuse_captureView ..)
    · dsimp only
      split <;> exact (stage _ _).then_view (State.answer_captureView ..)
  | setHeadMark hd lbn action =>
    refine ⟨_, rfl, request (fun u => ?_) ..⟩
    split
    next n a _ _ =>
      exact (after_view (t := u.mapControl fun c => { c with headMark := some { lbn := n, action := a } }) rfl
        (testHeadMark _)).then_view (State.answer_captureView ..)
    · exact of_view (State.refuse_captureView ..)
  | pin hd first count =>
    refine ⟨_, rfl, request (fun u => of_view ?_) ..⟩
    dsimp only
    (repeat' split) <;> simp
  | setGroupMap hd span groups =>
    refine ⟨_, rfl, request (fun u => ?_) ..⟩
    split
    · exact of_view (State.refuse_captureView ..)
    · split
      next hc => exact (putMap _ hc).then_view (State.answer_captureView ..)
      · exact of_view (State.refuse_captureView ..)
  | reform hd =>
    refine ⟨_, rfl, request (fun u => ?_) ..⟩
    split
    · exact of_view (State.refuse_captureView ..)
    next hstate =>
      split
      · exact of_view (State.refuse_captureView ..)
      · refine (reform ?_).then_view (State.answer_captureView ..)
        rintro (hc | hc)
        · exact hstate (.inl hc)
        · exact hstate (.inr (.inl hc))
  | confirm hd lbn withLoss =>
    refine ⟨_, rfl, request (fun u => of_view ?_) ..⟩
    (repeat' split) <;> simp [confirmBlock]
  | resetPort p hd | unsupportedKind p kind hd =>
    refine ⟨_, rfl, of_view ?_⟩
    (repeat' split) <;> simp
  | portLinkDown p cameUp =>
    refine ⟨_, rfl, act (fun u => of_view ?_) s⟩
    split
    · exact (State.captureView_congr (by simp) (by simp) (by simp)).trans (State.resetPort_captureView u p)
    · rfl
  | frameArrival bytes => exact ⟨_, rfl, act (fun u => of_view (receive u bytes)) s⟩
  | resyncMarker => exact ⟨_, rfl, act (fun u => of_view (resync (u.mapLink _))) s⟩
  | linkLockLoss relocked =>
    refine ⟨_, rfl, act (fun u => of_view ?_) s⟩
    split
    · exact resync _
    · rfl
  | haltAssertion =>
    refine ⟨_, rfl, act (fun u => ?_) s⟩
    split
    · exact .same _
    · exact after_view (t := u.mapLink fun l => { l with haltLine := true }) rfl (takeHalt _)
  | haltRelease => exact ⟨_, rfl, act (fun u => of_view rfl) s⟩
  | deviceReset levels => exact ⟨_, rfl, .resets _⟩
  | idleFlushExpiry | waitTimeout flag p tag | groupSettle group | admissionWriteCompletion =>
    refine ⟨_, rfl, act (fun u => of_view ?_) s⟩
    (repeat' split) <;> simp [State.captureView, State.storePayload, State.popInFlight]
  | fetchGrant | readGrant | fetchCompletion units | readCompletion units =>
    refine ⟨_, rfl, act (fun u => of_view ?_) s⟩
    (repeat' split) <;> simp <;> rfl
  | admissionGrant =>
    refine ⟨_, rfl, act (fun u => ?_) s⟩
    split
    · exact workFront u
    · exact .same _
  | haltMarkerWorked =>
    refine ⟨_, rfl, act (fun u => ?_) s⟩
    split
    · rw [CaptureStep, enterStopped_view]
      exact .stops _ _ (by decide)
    · exact .same _
  | resyncMarkerWorked =>
    refine ⟨_, rfl, act (fun u => ?_) s⟩
    split
    next front =>
      exact (after_view (by rw [State.recordLoss_captureView, takeMarker_of_resync front])
        (closeInCourse _ .linkReset)).then_view (State.present_captureView _)
    · exact .same _

/-! ## The rules every step keeps -/

/-- A property of a step from each state to the next, proved command by command: the queue is no part of it. -/
theorem keeps_of_exec {P : State → Prop} (hpending : ∀ s rest, P s → P { s with pending := rest })
    (hexec : ∀ c s, P s → ∃ t, exec c s = .next t ∧ P t) {s t : State} (hs : P s) (hst : step s = .next t) : P t := by
  unfold step at hst
  split at hst
  · cases hst
    exact hs
  next c rest _ =>
    obtain ⟨u, hu, hP⟩ := hexec c _ (hpending s rest hs)
    cases hu.symm.trans hst
    exact hP

namespace CaptureView

/-- `ControlForm`, of the view. -/
def Consistent (v : CaptureView) : Prop :=
  (v.enable = true ↔ v.capturing) ∧ (v.stopReason ≠ .none ↔ v.capture = .stopped)
    ∧ (v.stoppingReason.isSome = true ↔ v.capture = .stopping) ∧ (v.orderlyHalt = true → v.capturing)
    ∧ (v.swapPending = true → v.capturing)

/-- In Stopping a segment is open, and an Orderly halt is in progress exactly while a halt marker is in intake (R90, R98). -/
def Awaiting (v : CaptureView) : Prop :=
  (v.capture = .stopping → v.segmentOpen = true) ∧ v.orderlyHalt = v.halting

theorem Step.consistent {u v : CaptureView} (h : u.Step v) : u.Consistent → v.Consistent := by
  induction h with
  | same => exact id
  | trans _ _ hu hv => exact hv ∘ hu
  | stops _ _ hr => exact fun _ => by simp [Consistent, stopped, capturing, hr]
  | awaitsClose _ hc _ => simp_all [Consistent, capturing]
  | starts hc | mapTaken hc => rcases hc with hc | hc <;> simp_all [Consistent, capturing]
  | swapTaken | opens | closes | forms => simp_all [Consistent, capturing]
  | swapLeft hc => exact fun ⟨he, hr, hs, hh, _⟩ => ⟨he, hr, hs, hh, fun _ => hc⟩
  | halts hc => exact fun ⟨he, hr, hs, _, hp⟩ => ⟨he, hr, hs, fun _ => hc, hp⟩
  | resets => exact fun _ => by simp [Consistent, capturing, State.captureView, State.reset, resetWith]

theorem Step.awaiting {u v : CaptureView} (h : u.Step v) : u.Awaiting → v.Awaiting := by
  induction h with
  | same => exact id
  | trans _ _ hu hv => exact hv ∘ hu
  | stops => exact fun _ => ⟨nofun, rfl⟩
  | awaitsClose _ _ ho => exact fun ⟨_, hh⟩ => ⟨fun _ => ho, hh⟩
  | starts | mapTaken | forms => exact fun ⟨_, hh⟩ => ⟨nofun, hh⟩
  | swapTaken | swapLeft => exact id
  | opens => exact fun ⟨_, hh⟩ => ⟨fun _ => rfl, hh⟩
  | closes hc => exact fun ⟨_, hh⟩ => ⟨fun h => absurd h hc, hh⟩
  | halts => exact fun ⟨ho, _⟩ => ⟨ho, rfl⟩
  | resets => exact fun _ => ⟨nofun, rfl⟩

end CaptureView

theorem exec_controlForm (c : Instr) {s : State} (h : ControlForm s) : ∃ t, exec c s = .next t ∧ ControlForm t := by
  obtain ⟨t, ht, hstep⟩ := exec_captureStep c s
  exact ⟨t, ht, hstep.consistent h⟩

end Sys2Proof.Machine

namespace Sys2Proof.Proofs
open Sys2Proof.Machine

/-- Settles O52: `ControlForm` speaks of the view alone, and no step of Capture Control leaves it inconsistent. -/
theorem everyStepKeepsCaptureConsistent : Obligations.EveryStepKeepsCaptureConsistent :=
  fun _ _ h hst => keeps_of_exec (fun _ _ h => h) (fun c _ h => exec_controlForm c h) h hst

end Sys2Proof.Proofs

/-!
The acts of the Block Assembler as the relations of the statements have them (R9, R48 to R60, R66, R78, R94, R95, R118). For each act of the model stands
what it does to the part of the state that no event and no answer reaches (`unsignalled`), which events and kinds it raises, and which parked takes it ends.
-/
namespace Sys2Proof.Machine

variable {s t u v : State} {es es' : List Event} {ks ks' : List NoticeKind}

/-! ## Runs of events and kinds -/

/-- Kinds join a Pending set in any order. -/
theorem foldl_single_perm {ks ks' : List NoticeKind} (h : ks.Perm ks') (set : NoticeSet) :
    ks.foldl (fun set k => set ||| k.single) set = ks'.foldl (fun set k => set ||| k.single) set :=
  h.foldl_eq' (fun x _ y _ z => by ac_rfl) set

theorem Signalled.append (hst : Signalled s t es ks) (hd : t.drain.parkedTakes ⊆ s.drain.parkedTakes)
    (htu : Signalled t u es' ks') : Signalled s u (es ++ es') (ks ++ ks') where
  flags := by rw [htu.flags, hst.flags, List.foldl_append]
  pending p := by
    rw [htu.pending, hst.pending, ← List.foldl_append]
    refine foldl_single_perm ?_ _
    rw [List.map_append, List.append_assoc, List.append_assoc]
    refine List.Perm.append_left _ ?_
    rw [← List.append_assoc, ← List.append_assoc]
    exact (List.perm_append_comm).append_right _
  mask p := (htu.mask p).trans (hst.mask p)
  links p := (htu.links p).trans (hst.links p)
  slots p x := by
    obtain ⟨back, forth⟩ := hst.slots p x
    obtain ⟨back', forth'⟩ := htu.slots p x
    exact ⟨back ∘ back', fun hx hwaits htakes =>
      forth' (forth hx hwaits htakes) (fun i w hw => hwaits i w (hst.waits_subset i hw)) fun k hk => htakes k (hd hk)⟩

theorem Signalled.raiseNotice (s : State) (k : NoticeKind) : Signalled s (s.raiseNotice k) [] [k] where
  flags := by simp
  pending p := by cases p <;> rfl
  mask p := by cases p <;> rfl
  links p := by cases p <;> rfl
  slots p x := by
    have hslots : ((s.raiseNotice k).port p).slots = (s.port p).slots := by cases p <;> rfl
    rw [hslots]
    exact ⟨id, fun hx _ _ => hx⟩

theorem Signalled.refl (s : State) : Signalled s s [] [] :=
  .of_eq rfl fun _ => rfl

/-! ## What events and answers do not reach -/

namespace State

theorem drain_of_unsignalled (h : t.unsignalled = s.unsignalled) : t.drain = s.drain := by
  obtain ⟨_, _, _, _, rfl⟩ := eq_of_unsignalled h
  rfl

@[simp] theorem raiseNotice_unsignalled (s : State) (k : NoticeKind) : (s.raiseNotice k).unsignalled = s.unsignalled := by
  simp [unsignalled]

@[simp] theorem refuse_unsignalled (s : State) (p : Port) (tag : Byte) (k : RequestKind) (st : Status) :
    (s.refuse p tag k st).unsignalled = s.unsignalled :=
  answer_unsignalled ..

@[simp] theorem beginAct_unsignalled (s : State) : s.beginAct.unsignalled = s.unsignalled :=
  rfl

end State

namespace Becomes

theorem unsignalled_eq {w : State} (h : Becomes s t u es ks) (hw : w.unsignalled = u.unsignalled) : Becomes s t w es ks :=
  ⟨h.1, h.2.trans hw.symm⟩

theorem refl (s : State) : Becomes s s s [] [] :=
  ⟨.refl s, rfl⟩

/-- One act after another. The second is told of the state `t` that the first has left; it does as much from the data `u` of that state. -/
theorem append {w w' : State} (h : Becomes s t u es ks) (hd : u.drain.parkedTakes ⊆ s.drain.parkedTakes)
    (h' : Becomes t v w es' ks') (hw : w.unsignalled = w'.unsignalled) : Becomes s v w' (es ++ es') (ks ++ ks') :=
  ⟨h.1.append (State.drain_of_unsignalled h.2 ▸ hd) h'.1, h'.2.trans hw⟩

/-- What an act does with the data of a state, it does with those of any state that differs from it in signals alone. -/
theorem of_data {f : State → State} (h : Becomes s t u es ks)
    (hf : ∀ a b : State, a.unsignalled = b.unsignalled → (f a).unsignalled = (f b).unsignalled) :
    (f t).unsignalled = (f u).unsignalled :=
  hf t u h.2

/-- An act of the data alone, to which the flags and the ports are nothing. -/
theorem of_ports (hf : t.flags = s.flags) (hp : ∀ p, t.port p = s.port p) (hu : t.unsignalled = u.unsignalled) :
    Becomes s t u [] [] :=
  ⟨.of_eq hf hp, hu⟩

theorem raise (s : State) (e : Event) : Becomes s (s.raise e) s [e] [] :=
  ⟨.raise s e, by simp⟩

theorem raiseNotice (s : State) (k : NoticeKind) : Becomes s (s.raiseNotice k) s [] [k] :=
  ⟨.raiseNotice s k, by simp⟩

end Becomes

/-! ## The seal of the Filling block (R9, R51, R118) -/

/-- The Filling block is Sealed and counted; it is not yet offered to the parked takes. -/
def State.sealOne (s : State) (b : Block) : State :=
  (s.unclaim b).count fun c => { c with blocksSealed := c.blocksSealed + 1 }

theorem State.sealFilling_of_none (h : s.fillingBlock = none) : s.sealFilling = s := by
  rw [sealFilling, h]

theorem State.sealFilling_of_some {b : Block} (h : s.fillingBlock = some b) :
    s.sealFilling
      = if b.archiveRequired then ((s.sealOne b).raise .blockSealed).offer b.lbn else (s.sealOne b).raise .blockSealed := by
  rw [sealFilling, h]
  rfl

theorem State.sealOne_takerOf (s : State) (b : Block) (n : Nat) : ((s.sealOne b).raise .blockSealed).takerOf n = s.takerOf n := by
  simp [takerOf, sealOne, unclaim]

theorem State.findBlock_isSome_of_mem {b : Block} (h : b ∈ s.ring.blocks) : ∃ x, s.findBlock b.lbn = some x := by
  have hsome : (s.findBlock b.lbn).isSome = true := by
    rw [findBlock, List.find?_isSome]
    exact ⟨b, h, by simp⟩
  exact Option.isSome_iff_exists.mp hsome

theorem State.mem_of_fillingBlock {b : Block} (h : s.fillingBlock = some b) : b ∈ s.ring.blocks ∧ b.state = .filling :=
  ⟨List.mem_of_find?_eq_some h, by simpa using List.find?_some h⟩

/-- The block that a seal offers is the one it has sealed. -/
theorem State.sealOne_findBlock {b : Block} (h : s.fillingBlock = some b) :
    ∃ x, ((s.sealOne b).raise .blockSealed).findBlock b.lbn = some x
      ∧ ∃ y, s.findBlock b.lbn = some y ∧ x = { y with state := .sealed } := by
  obtain ⟨y, hy⟩ := findBlock_isSome_of_mem (mem_of_fillingBlock h).1
  have hfound : ((s.sealOne b).raise .blockSealed).findBlock b.lbn = (s.unclaim b).findBlock b.lbn := by
    simp [findBlock, sealOne]
  refine ⟨{ y with state := .sealed }, ?_, y, hy, rfl⟩
  rw [hfound, unclaim, findBlock_mapBlock (by simp), hy]
  rfl

/-- The acts of a seal, by the take that receives the block. -/
theorem State.sealFilling_cases {b : Block} (h : s.fillingBlock = some b) :
    ((b.archiveRequired = true → s.takerOf b.lbn = none) ∧ s.sealFilling = (s.sealOne b).raise .blockSealed)
      ∨ ∃ k x, b.archiveRequired = true ∧ s.takerOf b.lbn = some k ∧ s.findBlock b.lbn = some x
          ∧ s.sealFilling = ((s.sealOne b).raise .blockSealed).serveTake k { x with state := .sealed } := by
  obtain ⟨_, hx, y, hy, rfl⟩ := sealOne_findBlock h
  have hlbn : y.lbn = b.lbn := lbn_of_findBlock hy
  rw [sealFilling_of_some h]
  by_cases ha : b.archiveRequired = true
  · rw [if_pos ha, offer, sealOne_takerOf, hx]
    cases hk : s.takerOf b.lbn with
    | none => exact .inl ⟨fun _ => rfl, rfl⟩
    | some k =>
      refine .inr ⟨k, y, ha, rfl, hy, ?_⟩
      rw [serveTake, hlbn]
  · rw [if_neg ha]
    exact .inl ⟨fun h => absurd h ha, rfl⟩

theorem Becomes.sealFilling (s : State) : Becomes s s.sealFilling s.afterSeal s.sealEvents [] := by
  cases hb : s.fillingBlock with
  | none =>
    rw [State.sealFilling_of_none hb]
    simpa [State.afterSeal, State.sealEvents, hb] using Becomes.refl s
  | some b =>
    have hone : Signalled s ((s.sealOne b).raise .blockSealed) [.blockSealed] [] :=
      (Signalled.of_eq (s := s) (t := s.sealOne b) rfl fun p => by cases p <;> rfl).append
        (by simp [State.sealOne, State.unclaim]) (.raise _ _)
    have hevents : s.sealEvents = [.blockSealed] := by simp [State.sealEvents, hb]
    rw [hevents]
    obtain ⟨hnone, heq⟩ | ⟨k, x, ha, hk, hx, heq⟩ := State.sealFilling_cases hb <;> rw [heq]
    · refine ⟨hone, ?_⟩
      have hstate : (if b.archiveRequired then ((s.takerOf b.lbn).map fun k => BlockState.claimed k.ctx).getD .sealed else .sealed)
          = BlockState.sealed := by
        split
        next ha => simp [hnone ha]
        next => rfl
      have htakes : (s.drain.parkedTakes.filter fun k => !(b.archiveRequired && decide (s.takerOf b.lbn = some k)))
          = s.drain.parkedTakes := by
        rw [List.filter_eq_self]
        intro k _
        by_cases ha : b.archiveRequired = true <;> simp [ha, hnone]
      rw [State.raise_unsignalled]
      simp only [State.afterSeal, State.sealedBlocks, hb, hstate, htakes]
      rfl
    · have hmem : k ∈ s.drain.parkedTakes := List.mem_of_find?_eq_some (s.takerOf_eq b.lbn ▸ hk)
      have hlbn : x.lbn = b.lbn := State.lbn_of_findBlock hx
      have hclaim (x : State) (n : Nat) (c : Fin 4) (p : Port) : ((x.unpark k).claimBlock n c).port p = x.port p := by
        cases p <;> rfl
      refine ⟨?_, ?_⟩
      · exact Signalled.answerTake (hone.of_ports (by simp) (hclaim _ _ _)) hmem
      · have hblock (y : Block) :
            (if (if y.lbn = b.lbn then { y with state := .sealed } else y).lbn = x.lbn then
              { (if y.lbn = b.lbn then { y with state := .sealed } else y) with state := .claimed k.ctx }
            else if y.lbn = b.lbn then { y with state := .sealed } else y)
              = if y.lbn = b.lbn then { y with state := .claimed k.ctx } else y := by
          by_cases hy : y.lbn = b.lbn <;> simp [hy, hlbn]
        have htakes : s.drain.parkedTakes.filter (fun j => !decide (j = k)) = s.drain.parkedTakes.filter fun j => !decide (k = j) :=
          List.filter_congr fun j _ => by simp [eq_comm]
        rw [State.serveTake, State.answer_unsignalled]
        simp only [State.afterSeal, State.sealedBlocks, hb, ha, hk, if_true, Option.map_some, Option.getD_some]
        simp [State.unsignalled, State.claimBlock, State.unpark, State.mapBlock, State.mapRing, State.mapDrain, State.sealOne,
          State.unclaim, State.count, State.mapLink, hblock, htakes]

end Sys2Proof.Machine

/-!
The close of the open segment, in the course of capture and in a stop at once, as the relations of the statements have it (R59, R93 to R95).
-/
namespace Sys2Proof.Machine

variable {s t u v : State} {es es' : List Event} {ks ks' : List NoticeKind}

/-! ## Acts one after another -/

namespace Becomes

/-- A change of the data that follows an act: it moves no flag and no port, and does as much to every state with the same data. -/
theorem map (f : State → State) (h : Becomes s t u es ks) (hflags : (f t).flags = t.flags)
    (hport : ∀ p, (f t).port p = t.port p) (hf : ∀ a : State, (f a).unsignalled = f a.unsignalled) :
    Becomes s (f t) (f u) es ks :=
  ⟨h.1.of_ports hflags hport, by rw [hf, h.2, ← hf]⟩

theorem mapControl (h : Becomes s t u es ks) (f : Control → Control) : Becomes s (t.mapControl f) (u.mapControl f) es ks :=
  h.map (·.mapControl f) rfl (fun p => by cases p <;> rfl) fun _ => rfl

theorem mapAssembler (h : Becomes s t u es ks) (f : Assembler → Assembler) :
    Becomes s (t.mapAssembler f) (u.mapAssembler f) es ks :=
  h.map (·.mapAssembler f) rfl (fun p => by cases p <;> rfl) fun _ => rfl

theorem mapOpen (h : Becomes s t u es ks) (f : Entry → Entry) : Becomes s (t.mapOpen f) (u.mapOpen f) es ks :=
  h.map (·.mapOpen f) rfl (fun p => by cases p <;> rfl) fun _ => rfl

/-- An event that follows an act. -/
theorem thenRaise (h : Becomes s t u es ks) (hd : u.drain.parkedTakes ⊆ s.drain.parkedTakes) (e : Event) :
    Becomes s (t.raise e) u (es ++ [e]) ks := by
  simpa using h.append hd (.raise t e) (w' := u) h.2

/-- A notice that follows an act. -/
theorem thenRaiseNotice (h : Becomes s t u es ks) (hd : u.drain.parkedTakes ⊆ s.drain.parkedTakes) (k : NoticeKind) :
    Becomes s (t.raiseNotice k) u es (ks ++ [k]) := by
  simpa using h.append hd (.raiseNotice t k) (w' := u) h.2

end Becomes

/-! ## Seal and close -/

theorem State.afterSeal_takes (s : State) : s.afterSeal.drain.parkedTakes ⊆ s.drain.parkedTakes := by
  unfold afterSeal
  split
  · exact List.Subset.refl _
  · exact List.filter_subset_self _

theorem State.afterSeal_index (s : State) : s.afterSeal.index = s.index := by
  unfold afterSeal
  split <;> rfl

theorem State.afterSeal_assembler (s : State) : s.afterSeal.assembler = s.assembler := by
  unfold afterSeal
  split <;> rfl

/-- The open entry is Closed with a reason, and retired if none of its blocks is held (R80, R83). -/
def State.closeEntry (s : State) (reason : CloseReason) : State :=
  (s.mapOpen fun e => { e with closeReason := some reason }).retire

theorem State.closeEntry_flags (s : State) (reason : CloseReason) : (s.closeEntry reason).flags = s.flags := rfl

theorem State.closeEntry_port (s : State) (reason : CloseReason) (p : Port) : (s.closeEntry reason).port p = s.port p := by
  cases p <;> rfl

theorem State.clearTimers_port (s : State) (next : Option Continuation) (p : Port) : (s.clearTimers next).port p = s.port p := by
  cases p <;> rfl

/-- The Continuation that a close for a reason keeps (R59, R71). -/
def State.nextOf (s : State) (e : Entry) (reason : CloseReason) : Option Continuation :=
  if reason = .slice then some (s.continuationOf e) else none

theorem State.closeSegment_of_open {e : Entry} (h : s.openEntry = some e) (reason : CloseReason) :
    s.closeSegment reason = ((s.sealFilling.closeEntry reason).raise .segmentClosed).clearTimers (s.nextOf e reason) := by
  rw [closeSegment, h]
  rfl

theorem State.closeSegment_of_none (h : s.openEntry = none) (reason : CloseReason) : s.closeSegment reason = s := by
  rw [closeSegment, h]

theorem State.closeEvents_of_open {e : Entry} (h : s.openEntry = some e) : s.closeEvents = s.sealEvents ++ [.segmentClosed] := by
  simp [closeEvents, sealEvents, h]

/-- The data once the segment has closed: those of the seal, with the entry Closed and the timers gone. -/
theorem State.afterClose_eq {e : Entry} (h : s.openEntry = some e) (reason : CloseReason) :
    (s.afterSeal.closeEntry reason).clearTimers (s.nextOf e reason) = s.afterClose reason := by
  have hnext : (s.nextOf e reason).or s.assembler.continuation
      = if reason = .slice then s.openEntry.map s.continuationOf else s.assembler.continuation := by
    unfold nextOf
    split <;> simp [h]
  unfold afterClose closeEntry clearTimers
  simp only [mapAssembler, mapOpen, retire, afterSeal_index, afterSeal_assembler, closedIndex, hnext]
  rfl

theorem Becomes.closeSegment (h : s.openEntry.isSome = true) (reason : CloseReason) :
    Becomes s (s.closeSegment reason) (s.afterClose reason) s.closeEvents [] := by
  obtain ⟨e, he⟩ := Option.isSome_iff_exists.mp h
  rw [State.closeSegment_of_open he, State.closeEvents_of_open he, ← State.afterClose_eq he]
  have closed := (Becomes.sealFilling s).map (·.closeEntry reason) (State.closeEntry_flags ..) (State.closeEntry_port _ _) fun _ => rfl
  have raised := closed.thenRaise (by simpa [State.closeEntry] using s.afterSeal_takes) .segmentClosed
  exact raised.map (·.clearTimers (s.nextOf e reason)) (State.clearTimers_flags ..) (State.clearTimers_port _ _) fun _ => rfl

/-- The parked take that a seal serves is answered OK. -/
theorem State.sealFilling_answers {k : ParkedTake} (hk : k ∈ s.drain.parkedTakes) (hgone : k ∉ s.afterSeal.drain.parkedTakes) :
    ∃ r ∈ s.sealFilling.sent, r.port = .archive ∧ r.tag = k.tag ∧ r.status = .ok := by
  cases hb : s.fillingBlock with
  | none => exact absurd hk (by simpa [afterSeal, hb] using hgone)
  | some b =>
    have htaker : b.archiveRequired = true ∧ s.takerOf b.lbn = some k := by
      simpa [afterSeal, hb, hk] using hgone
    obtain ⟨hnone, -⟩ | ⟨j, x, -, hj, -, heq⟩ := sealFilling_cases hb
    · simp [hnone htaker.1] at htaker
    · obtain rfl : j = k := Option.some.inj (hj.symm.trans htaker.2)
      rw [heq]
      exact ⟨_, List.mem_append_right _ (List.mem_singleton.mpr rfl), rfl, rfl, rfl⟩

/-! ## The parked takes that end, with their answers (R118 to R120) -/

/-- From `s` to `t` no response is taken back, and every parked take that ends is answered with a status of this kind. -/
structure TakesEnd (kind : Status → Prop) (s t : State) : Prop where
  sent : s.sent ⊆ t.sent
  answered : ∀ k ∈ s.drain.parkedTakes, k ∉ t.drain.parkedTakes →
    ∃ r ∈ t.sent, r.port = .archive ∧ r.tag = k.tag ∧ kind r.status

namespace TakesEnd

variable {kind kind' : Status → Prop}

theorem of_drain (hdrain : t.drain = s.drain) (hsent : s.sent ⊆ t.sent) : TakesEnd kind s t where
  sent := hsent
  answered _ hk hgone := absurd (hdrain ▸ hk) hgone

theorem of_same (hdrain : t.drain = s.drain) (hsent : t.sent = s.sent) : TakesEnd kind s t :=
  of_drain hdrain (hsent ▸ List.Subset.refl _)

theorem refl (s : State) : TakesEnd kind s s :=
  of_same rfl rfl

theorem trans (hst : TakesEnd kind s t) (htu : TakesEnd kind t u) : TakesEnd kind s u where
  sent := List.Subset.trans hst.sent htu.sent
  answered k hk hgone := by
    by_cases ht : k ∈ t.drain.parkedTakes
    · exact htu.answered k ht hgone
    · obtain ⟨r, hr, hanswer⟩ := hst.answered k hk ht
      exact ⟨r, htu.sent hr, hanswer⟩

theorem mono (hst : TakesEnd kind s t) (hkind : ∀ st, kind st → kind' st) : TakesEnd kind' s t where
  sent := hst.sent
  answered k hk hgone := by
    obtain ⟨r, hr, hport, htag, hstatus⟩ := hst.answered k hk hgone
    exact ⟨r, hr, hport, htag, hkind _ hstatus⟩

end TakesEnd

theorem State.completeWaits_sent (s : State) (served : List (Fin 8 × ParkedWait × Bool)) :
    s.sent ⊆ (s.completeWaits served).sent := by
  unfold completeWaits
  induction served generalizing s with
  | nil => exact List.Subset.refl _
  | cons d served ih =>
    have first : s.sent ⊆ (s.completeWait d.1 d.2).sent := by
      rw [completeWait, answer_sent]
      exact List.subset_append_left _ _
    exact List.Subset.trans first (ih (s.completeWait d.1 d.2))

theorem State.raise_sent (s : State) (e : Event) : s.sent ⊆ (s.raise e).sent := by
  rw [raise_eq]
  have taken : (s.eventTaken e).sent = s.sent := by simp [eventTaken]
  rw [← taken]
  exact completeWaits_sent ..

theorem State.setBand_sent (s : State) (b : Band) : s.sent ⊆ (s.setBand b).sent := by
  unfold setBand
  split
  · exact List.Subset.refl _
  · rw [updatePause_sent]
    exact raise_sent (s.mapRing _) _

theorem State.activate_sent (s : State) : s.sent ⊆ s.activate.sent := by
  rw [activate_eq, updatePause_sent]
  exact setBand_sent s.takeProfile _

theorem State.takeSwap_sent (s : State) : s.sent ⊆ s.takeSwap.sent := by
  unfold takeSwap
  split
  · exact s.activate_sent
  · exact List.Subset.refl _

namespace TakesEnd

variable {kind : Status → Prop}

theorem raise (s : State) (e : Event) : TakesEnd kind s (s.raise e) :=
  of_drain (by simp) (s.raise_sent e)

/-- A parked take that a block is claimed for is answered OK. -/
theorem serveTake (s : State) (k : ParkedTake) (b : Block) (hok : kind .ok) : TakesEnd kind s (s.serveTake k b) where
  sent := by
    rw [State.serveTake, State.answer_sent, State.claimBlock_sent, State.unpark_sent]
    exact List.subset_append_left _ _
  answered j hj hgone := by
    obtain rfl : j = k := by
      by_contra hne
      exact hgone (List.mem_filter.mpr ⟨hj, by simpa using hne⟩)
    rw [State.serveTake, State.answer_sent]
    exact ⟨_, List.mem_append_right _ (List.mem_singleton.mpr rfl), rfl, rfl, hok⟩

theorem sealFilling (s : State) (hok : kind .ok) : TakesEnd kind s s.sealFilling := by
  cases hb : s.fillingBlock with
  | none =>
    rw [State.sealFilling_of_none hb]
    exact refl s
  | some b =>
    have sealed : TakesEnd kind s ((s.sealOne b).raise .blockSealed) :=
      (of_same (s := s) (t := s.sealOne b) rfl rfl).trans (raise _ _)
    obtain ⟨-, heq⟩ | ⟨k, x, -, -, -, heq⟩ := State.sealFilling_cases hb <;> rw [heq]
    · exact sealed
    · exact sealed.trans (serveTake _ k _ hok)

theorem closeSegment (s : State) (reason : CloseReason) (hok : kind .ok) : TakesEnd kind s (s.closeSegment reason) := by
  cases he : s.openEntry with
  | none =>
    rw [State.closeSegment_of_none he]
    exact refl s
  | some e =>
    rw [State.closeSegment_of_open he]
    have closed : TakesEnd kind s (s.sealFilling.closeEntry reason) :=
      (sealFilling s hok).trans (of_same (t := s.sealFilling.closeEntry reason) rfl rfl)
    refine (closed.trans (raise _ .segmentClosed)).trans ?_
    exact of_same (by simp) (by simp)

end TakesEnd

/-! ## Stops (R93 to R95) -/

/-- Sealing the Filling block leaves ArchiveFront where it is: a Filling block counts as unarchived when a Sealed or Claimed one does (R13). -/
theorem State.archiveFront_afterSeal (hd : (s.ring.blocks.map Block.lbn).Nodup) : s.afterSeal.archiveFront = s.archiveFront := by
  cases hb : s.fillingBlock with
  | none => simp [afterSeal, hb]
  | some b =>
    obtain ⟨hmem, hstate⟩ := mem_of_fillingBlock hb
    refine archiveFront_map (g := fun x => if x.lbn = b.lbn then
      { x with state := if b.archiveRequired then ((s.takerOf b.lbn).map fun k => BlockState.claimed k.ctx).getD .sealed else .sealed }
      else x) (by simp [afterSeal, sealedBlocks, hb]) (fun x => by split <;> rfl) fun x hx => ?_
    by_cases hx' : x.lbn = b.lbn
    · obtain rfl : x = b := List.inj_on_of_nodup_map hd hx hmem hx'
      cases s.takerOf x.lbn <;> cases har : x.archiveRequired <;> simp [Block.unarchived, hstate, har]
    · simp [hx']

theorem State.headroom_of_unsignalled (h : t.unsignalled = s.unsignalled) : t.headroom = s.headroom := by
  obtain ⟨_, _, _, _, rfl⟩ := eq_of_unsignalled h
  rfl

theorem State.headroom_afterClose (hd : (s.ring.blocks.map Block.lbn).Nodup) (reason : CloseReason) :
    (s.afterClose reason).headroom = s.headroom := by
  have hfront : (s.afterClose reason).archiveFront = s.archiveFront := s.archiveFront_afterSeal hd
  refine headroom_congr ?_ ?_ (holdFloor_congr ?_ hfront) <;> (unfold afterClose afterSeal; split <;> rfl)

/-- An entry to Stopped depends on the state it is entered from by what Capture Control, the Sample Link Receiver and the band show there. -/
theorem EnteredStopped.of_same {reason : StopReason} (h : EnteredStopped t u reason) (hcontrol : t.control = s.control)
    (hcapacity : t.capacity = s.capacity) (hheadroom : t.headroom = s.headroom) (hband : t.ring.band = s.ring.band)
    (hlink : ∃ intake loss pause counts,
      t.link = { s.link with intake := intake, pendingLoss := loss, pause := pause, counts := counts })
    (hdiscarded : t.link.counts.framesDiscarded + BitVec.ofNat 64 t.occupancy
      = s.link.counts.framesDiscarded + BitVec.ofNat 64 s.occupancy)
    (hnumber : t.assembler.nextSegment = s.assembler.nextSegment)
    (hstore : ∃ admission, t.store = { s.store with admission := admission })
    (hdrain : t.drain.contexts = s.drain.contexts) : EnteredStopped s u reason where
  control := by rw [h.control, hcontrol, hcapacity]
  link := by
    obtain ⟨_, _, _, _, hlink⟩ := hlink
    rw [h.link, hlink]
  discarded := h.discarded.trans hdiscarded
  band := by rw [h.band, hcontrol, hheadroom, hband]
  continuation := h.continuation
  stage := h.stage
  number := h.number.trans hnumber
  store := by
    obtain ⟨_, hstore⟩ := hstore
    rw [h.store, hstore]
  drain := by simp only [h.drain, hdrain]

/-- The open segment, if any, closes, and capture enters Stopped (R94, R95). -/
def State.closeAndStop (s : State) (close : CloseReason) (reason : StopReason) : State :=
  (s.closeSegment close).enterStopped reason

/-- The Sample Link Receiver once the segment has closed: Blocks Sealed has counted the block that filled. -/
theorem State.afterClose_link (s : State) (close : CloseReason) :
    (s.afterClose close).link
      = { s.link with
          counts :=
            { s.link.counts with
              blocksSealed :=
                if s.fillingBlock.isSome = true then s.link.counts.blocksSealed + 1 else s.link.counts.blocksSealed } } := by
  unfold afterClose afterSeal
  cases s.fillingBlock <;> rfl

theorem State.afterClose_blocks (s : State) (close : CloseReason) : (s.afterClose close).ring = { s.ring with blocks := s.sealedBlocks } := by
  unfold afterClose afterSeal sealedBlocks
  cases s.fillingBlock <;> rfl

theorem State.closeSegment_eq_afterClose (h : s.openEntry.isSome = true) (close : CloseReason) :
    (s.closeSegment close).ring = (s.afterClose close).ring ∧ (s.closeSegment close).link = (s.afterClose close).link
      ∧ (s.closeSegment close).index = (s.afterClose close).index
      ∧ (s.closeSegment close).assembler = (s.afterClose close).assembler
      ∧ (s.closeSegment close).headroom = (s.afterClose close).headroom := by
  have hu := (Becomes.closeSegment h close).2
  refine ⟨?_, ?_, ?_, ?_, headroom_of_unsignalled hu⟩ <;> (obtain ⟨_, _, _, _, heq⟩ := eq_of_unsignalled hu; rw [heq])

theorem State.enterStopped_assembler_timers (s : State) (reason : StopReason) :
    (s.enterStopped reason).assembler.idleFlush = s.assembler.idleFlush
      ∧ (s.enterStopped reason).assembler.sliceCounter = s.assembler.sliceCounter := by
  simp [enterStopped_eq, haltCapture, discardIntake]

theorem TakesEnd.enterStopped {kind : Status → Prop} (s : State) (reason : StopReason) (hempty : kind .empty) :
    TakesEnd kind s (s.enterStopped reason) where
  sent := by
    have halted : (s.haltCapture reason).sent = s.sent := by simp [State.haltCapture]
    have swapped := (s.haltCapture reason).takeSwap_sent
    rw [halted] at swapped
    rw [State.enterStopped_eq, State.endParkedTakes_eq_foldl, State.foldl_endTake_sent]
    exact List.Subset.trans (List.Subset.trans swapped (State.raise_sent _ _)) (List.subset_append_left _ _)
  answered k hk _ := ⟨k.emptyResponse, State.enterStopped_takes hk, rfl, rfl, hempty⟩

theorem State.closeAndStop_of_headroom {close : CloseReason} (hsame : (s.afterClose close).headroom = s.headroom) (reason : StopReason) :
    StoppedAtOnce s (s.closeAndStop close reason) close reason := by
  by_cases hopen : s.openEntry.isSome = true
  case neg =>
    have hnone : s.openEntry = none := by simpa using hopen
    rw [closeAndStop, closeSegment_of_none hnone]
    exact s.enterStopped_stoppedAtOnce hnone close reason
  case pos =>
    obtain ⟨hring, hlink, hindex, hasm, hheadroom⟩ := closeSegment_eq_afterClose hopen close
    rw [afterClose_link] at hlink
    rw [hsame] at hheadroom
    rw [afterClose_blocks] at hring
    have entered := (s.closeSegment close).enterStopped_enteredStopped reason
    have takes : TakesEnd (fun st => st = .ok ∨ st = .empty) s (s.closeAndStop close reason) :=
      (TakesEnd.closeSegment s close (.inl rfl)).trans (.enterStopped _ reason (.inr rfl))
    have timers := (s.closeSegment close).enterStopped_assembler_timers reason
    rw [hasm] at timers
    exact {
      entered := by
        refine EnteredStopped.of_same (t := s.closeSegment close) entered ?_ ?_ hheadroom ?_ ⟨_, _, _, _, hlink⟩ ?_ ?_ ?_ ?_
        · simp
        · simp [capacity]
        · simp
        · simp [hlink, occupancy]
        · simp
        · exact ⟨s.store.admission, by simp⟩
        · simp
      ring := by
        have blocks := (s.closeSegment close).enterStopped_ring_blocks reason
        have head := (s.closeSegment close).enterStopped_ring_head reason
        have tail := (s.closeSegment close).enterStopped_ring_tail reason
        rw [hring] at blocks head tail
        rw [if_pos hopen, closeAndStop]
        generalize ((s.closeSegment close).enterStopped reason).ring = r at *
        cases r
        simp_all
      index := by
        rw [if_pos hopen, closeAndStop, enterStopped_index, hindex]
        rfl
      counts := by
        rw [closeAndStop, enterStopped_link, discardIntake_link, hlink]
        simp [hopen, occupancy, hlink]
      timers := fun _ => by
        rw [closeAndStop, timers.1, timers.2]
        exact ⟨rfl, rfl⟩
      takes := fun k hk => takes.answered k hk (by rw [closeAndStop, entered.drain]; simp)
      pins := by simp [closeAndStop]
      power := by simp [closeAndStop]
      pending := by simp [closeAndStop] }

theorem State.closeAndStop_stoppedAtOnce (hd : (s.ring.blocks.map Block.lbn).Nodup) (close : CloseReason) (reason : StopReason) :
    StoppedAtOnce s (s.closeAndStop close reason) close reason :=
  closeAndStop_of_headroom (headroom_afterClose hd close) reason

theorem Signalled.closeAndStop (s : State) (close : CloseReason) (reason : StopReason) :
    Signalled s (s.closeAndStop close reason) (s.stopEvents (s.closeAndStop close reason)) [] := by
  have entered := Signalled.enterStopped (s.closeSegment close) reason
  rw [State.closeSegment_ring_band] at entered
  by_cases hopen : s.openEntry.isSome = true
  · have closed := Becomes.closeSegment hopen close
    have htakes : (s.closeSegment close).drain.parkedTakes ⊆ s.drain.parkedTakes := by
      rw [State.drain_of_unsignalled closed.2]
      exact s.afterSeal_takes
    simpa [State.stopEvents, State.closeAndStop] using closed.1.trans htakes entered
  · have hnone : s.openEntry = none := by simpa using hopen
    rw [State.closeSegment_of_none hnone] at entered
    simpa [State.stopEvents, State.closeAndStop, State.closeEvents, hnone, State.closeSegment_of_none hnone] using entered

/-- A stop at once discards intake ahead of the close, which changes nothing of what the stop leaves (R93, R97). -/
theorem State.stopAtOnce_stoppedAtOnce (hd : (s.ring.blocks.map Block.lbn).Nodup) (close : CloseReason) (reason : StopReason) :
    StoppedAtOnce s (s.stopAtOnce close reason) close reason := by
  obtain ⟨entered, ring, index, counts, timers, takes, pins, power, pending⟩ :=
    closeAndStop_stoppedAtOnce (s := s.discardIntake) (by simpa using hd) close reason
  have hopen : s.discardIntake.openEntry = s.openEntry := by simp [openEntry]
  have hfilling : s.discardIntake.fillingBlock = s.fillingBlock := by simp [fillingBlock]
  have hsealed : s.discardIntake.sealedBlocks = s.sealedBlocks := by simp [sealedBlocks, hfilling, takerOf]
  have hclosed : s.discardIntake.closedIndex close = s.closedIndex close := by simp [closedIndex]
  have hheadroom : s.discardIntake.headroom = s.headroom :=
    headroom_congr (by simp) (by simp) (holdFloor_congr (by simp) (archiveFront_congr (by simp) (by simp)))
  rw [hopen, hsealed] at ring
  rw [hopen, hclosed] at index
  rw [hopen, hfilling] at counts
  rw [hopen] at timers
  change StoppedAtOnce s (s.discardIntake.closeAndStop close reason) close reason
  exact {
    entered := by
      refine EnteredStopped.of_same (t := s.discardIntake) entered ?_ ?_ hheadroom ?_ ⟨_, _, _, _, s.discardIntake_link⟩ ?_ ?_ ?_ ?_
      · simp
      · simp [capacity]
      · simp
      · simp [discardIntake_link, occupancy]
      · simp
      · exact ⟨false, by simp [discardIntake]⟩
      · simp
    ring := by simpa using ring
    index := by simpa using index
    counts := by simpa [discardIntake_link, occupancy] using counts
    timers := timers
    takes := fun k hk => takes k (by simpa using hk)
    pins := by simpa using pins
    power := by simpa using power
    pending := by simpa using pending }

theorem State.discardIntake_port (s : State) (p : Port) : s.discardIntake.port p = s.port p := by
  cases p <;> simp [port]

theorem Signalled.stopAtOnce (s : State) (close : CloseReason) (reason : StopReason) :
    Signalled s (s.stopAtOnce close reason) (s.stopEvents (s.stopAtOnce close reason)) [] := by
  have discarded : Signalled s s.discardIntake [] [] := .of_eq (by simp) s.discardIntake_port
  have stopped := discarded.trans (by simp) (.closeAndStop s.discardIntake close reason)
  have hevents (t : State) : s.discardIntake.stopEvents t = s.stopEvents t := by
    simp [State.stopEvents, State.closeEvents, State.openEntry, State.fillingBlock]
  rwa [List.nil_append, hevents] at stopped

theorem State.reasonAfterClose_eq (s : State) : s.control.reasonAfterClose = s.reasonOfClose := by
  unfold Control.reasonAfterClose reasonOfClose
  rcases s.control.stoppingReason with _ | _ | _ <;> simp

theorem State.closeInCourse_of_stopping (h : s.openEntry.isSome = true) (hstop : s.control.capture = .stopping) (close : CloseReason) :
    s.closeInCourse close = s.closeAndStop close s.reasonOfClose := by
  obtain ⟨e, he⟩ := Option.isSome_iff_exists.mp h
  rw [closeInCourse, he]
  simp [hstop, reasonAfterClose_eq, closeAndStop]

theorem ClosedInCourse.closeInCourse (hd : (s.ring.blocks.map Block.lbn).Nodup) (h : s.openEntry.isSome = true) (close : CloseReason) :
    ClosedInCourse s (s.closeInCourse close) close := by
  refine ⟨fun hstop => ?_, fun hgoes => ?_⟩
  · rw [State.closeInCourse_of_stopping h hstop]
    exact ⟨State.closeAndStop_stoppedAtOnce hd .., .closeAndStop ..⟩
  · rw [State.closeInCourse_of_not_stopping _ hgoes]
    exact .closeSegment h close

/-! ## The ring brought up to date, and the Head Mark (R25, R108, R109, R119) -/

theorem RingSettled.settleRing (s : State) (before : Nat) : RingSettled before s (s.settleRing before) := by
  refine ⟨.settleRing s before, .settleRing s before, ?_⟩
  rw [State.settleRing_unsignalled, State.settleRing_control, State.settleRing_drain, State.settleRing_ring, State.reband_ring]
  rfl

theorem HeadMarkTested.testHeadMark (h : s.openEntry.isSome = true) : HeadMarkTested s s.testHeadMark := by
  refine ⟨fun m hm hle => ?_, fun habove => ?_⟩
  · have fired : Becomes s s.headMarkFired s.disarmHeadMark [.headMark] [] := ⟨.headMarkFired s, by simp [State.headMarkFired]⟩
    rw [State.testHeadMark_of_reached hm hle, if_pos h]
    by_cases hstop : m.action = .stop ∧ s.control.capture = .running
    · simp only [if_pos hstop]
      exact fired.mapControl fun c => { c with capture := .stopping, stoppingReason := some .headMark }
    · simp only [if_neg hstop]
      exact fired
  · cases hm : s.control.headMark with
    | none =>
      rw [State.testHeadMark, hm]
      exact .refl s
    | some m =>
      rw [State.testHeadMark_of_above hm (habove m hm)]
      exact .refl s

end Sys2Proof.Machine

/-!
The working of a frame as the relations of the statements have it: placing, drops, the Ring Manager's answer and the opening of a segment
(R48 to R50, R54 to R59, R85 to R87).
-/
namespace Sys2Proof.Machine

variable {s t u v : State} {es es' : List Event} {ks ks' : List NoticeKind}

/-! ## The Block Table while a frame is worked -/

/-- The held blocks are those of [Tail, Head), at most C of them, and a Filling block is Head − 1 (R2, R3, R6, R7). -/
structure TableForm (s : State) : Prop where
  capacity : 2 ≤ s.capacity
  le : s.ring.tail ≤ s.ring.head
  fits : s.ring.head - s.ring.tail ≤ s.capacity
  lbns : s.ring.blocks.map Block.lbn = List.range' s.ring.tail (s.ring.head - s.ring.tail)
  filling : ∀ b ∈ s.ring.blocks, b.state = .filling → b.lbn + 1 = s.ring.head

namespace TableForm

theorem of_ringForm (hr : RingForm s) : TableForm s := by
  obtain ⟨hspan, -, hle, hfits, -, hlbns, hfilling, -⟩ := hr
  refine ⟨?_, hle, hfits, hlbns, hfilling⟩
  unfold State.capacity
  simp at hspan
  omega

theorem distinct (h : TableForm s) : (s.ring.blocks.map Block.lbn).Nodup :=
  h.lbns ▸ List.nodup_range'

theorem given (h : TableForm s) {b : Block} (hb : b ∈ s.ring.blocks) : s.ring.tail ≤ b.lbn ∧ b.lbn < s.ring.head := by
  have hmem : b.lbn ∈ s.ring.blocks.map Block.lbn := List.mem_map_of_mem hb
  rw [h.lbns, List.mem_range'_1] at hmem
  have := h.le
  omega

/-- Blocks keep their LBNs, and none begins to fill. -/
theorem map (h : TableForm s) {g : Block → Block} (hblocks : t.ring.blocks = s.ring.blocks.map g) (hhead : t.ring.head = s.ring.head)
    (htail : t.ring.tail = s.ring.tail) (hcapacity : t.capacity = s.capacity) (hlbn : ∀ b, (g b).lbn = b.lbn)
    (hstate : ∀ b, (g b).state = .filling → b.state = .filling) : TableForm t where
  capacity := hcapacity.symm ▸ h.capacity
  le := by
    rw [hhead, htail]
    exact h.le
  fits := by
    rw [hhead, htail, hcapacity]
    exact h.fits
  lbns := by
    rw [hblocks, List.map_map, hhead, htail, ← h.lbns]
    exact List.map_congr_left fun b _ => hlbn b
  filling b hb hf := by
    rw [hblocks, List.mem_map] at hb
    obtain ⟨x, hx, rfl⟩ := hb
    rw [hlbn, hhead]
    exact h.filling x hx (hstate x hf)

/-- The Block Table of a state and its ring's geometry decide. -/
theorem congr (h : TableForm s) (hblocks : t.ring.blocks = s.ring.blocks) (hhead : t.ring.head = s.ring.head)
    (htail : t.ring.tail = s.ring.tail) (hcapacity : t.capacity = s.capacity) : TableForm t :=
  h.map (g := id) (by simpa using hblocks) hhead htail hcapacity (fun _ => rfl) fun _ => id

theorem of_unsignalled (h : TableForm s) (hu : t.unsignalled = s.unsignalled) : TableForm t := by
  obtain ⟨_, _, _, _, rfl⟩ := State.eq_of_unsignalled hu
  exact h.congr rfl rfl rfl rfl

/-- There is one Filling block at most. -/
theorem eq_of_filling (h : TableForm s) {a b : Block} (ha : a ∈ s.ring.blocks) (hb : b ∈ s.ring.blocks) (hfa : a.state = .filling)
    (hfb : b.state = .filling) : a = b :=
  List.inj_on_of_nodup_map h.distinct ha hb (by have := h.filling a ha hfa; have := h.filling b hb hfb; omega)

/-- A full ring holds a block. -/
theorem tailBlock_of_full (h : TableForm s) (hfull : s.ringFull) : ∃ b, s.ring.blocks.head? = some b := by
  have hlen := congrArg List.length h.lbns
  rw [List.length_map, List.length_range'] at hlen
  have hcap := h.capacity
  unfold State.ringFull at hfull
  cases hblocks : s.ring.blocks with
  | nil =>
    rw [hblocks, List.length_nil] at hlen
    omega
  | cons b rest => exact ⟨b, rfl⟩

/-- The Tail block leaves. -/
theorem tail_left (h : TableForm s) {b : Block} (hb : s.ring.blocks.head? = some b) (hblocks : t.ring.blocks = s.ring.blocks.tail)
    (hhead : t.ring.head = s.ring.head) (htail : t.ring.tail = s.ring.tail + 1) (hcapacity : t.capacity = s.capacity) : TableForm t where
  capacity := hcapacity.symm ▸ h.capacity
  le := by
    have := h.given (List.mem_of_mem_head? hb)
    omega
  fits := by
    have := h.fits
    omega
  lbns := by
    have := h.given (List.mem_of_mem_head? hb)
    obtain ⟨n, hn⟩ : ∃ n, s.ring.head - s.ring.tail = n + 1 := ⟨s.ring.head - s.ring.tail - 1, by omega⟩
    have hn' : s.ring.head - (s.ring.tail + 1) = n := by omega
    rw [hblocks, List.map_tail, h.lbns, hhead, htail, hn, hn', List.range'_succ, List.tail_cons]
  filling x hx hf := by
    rw [hhead]
    exact h.filling x (List.mem_of_mem_tail (hblocks ▸ hx)) hf

/-- A block opens on LBN Head in a table with no Filling block. -/
theorem opened (h : TableForm s) (hroom : s.ring.head - s.ring.tail < s.capacity) (hnone : s.fillingBlock = none) {b : Block} (hb : b.lbn = s.ring.head)
    (hblocks : t.ring.blocks = s.ring.blocks ++ [b]) (hhead : t.ring.head = s.ring.head + 1) (htail : t.ring.tail = s.ring.tail)
    (hcapacity : t.capacity = s.capacity) : TableForm t where
  capacity := hcapacity.symm ▸ h.capacity
  le := by
    have := h.le
    omega
  fits := by omega
  lbns := by
    have hle := h.le
    have hsub : s.ring.head + 1 - s.ring.tail = (s.ring.head - s.ring.tail) + 1 := by omega
    have hlast : s.ring.tail + (s.ring.head - s.ring.tail) = s.ring.head := by omega
    rw [hblocks, List.map_append, h.lbns, hhead, htail, hsub, List.range'_concat]
    simp [hb, hlast]
  filling x hx hf := by
    rw [hblocks, List.mem_append, List.mem_singleton] at hx
    obtain hx | rfl := hx
    · exact absurd hf (by simpa using List.find?_eq_none.mp hnone x hx)
    · omega

end TableForm

/-- A sealed block is Sealed or Claimed (R9, R118). -/
theorem sealState_ne_filling (required : Bool) (taker : Option ParkedTake) :
    (if required then (taker.map fun k => BlockState.claimed k.ctx).getD .sealed else .sealed) ≠ BlockState.filling := by
  cases taker <;> cases required <;> simp

theorem State.afterSeal_ring (s : State) : s.afterSeal.ring = { s.ring with blocks := s.sealedBlocks } := by
  unfold afterSeal sealedBlocks
  cases s.fillingBlock <;> rfl

theorem State.afterSeal_capacity (s : State) : s.afterSeal.capacity = s.capacity := by
  unfold afterSeal
  split <;> rfl

/-- No block is Filling once the Filling block has been sealed (R9). -/
theorem State.sealedBlocks_not_filling (h : TableForm s) : ∀ b ∈ s.sealedBlocks, b.state ≠ .filling := by
  unfold sealedBlocks
  split
  next hnone =>
    intro b hb
    simpa using List.find?_eq_none.mp hnone b hb
  next f hf =>
    obtain ⟨hmem, hstate⟩ := mem_of_fillingBlock hf
    intro b hb
    obtain ⟨x, hx, rfl⟩ := List.mem_map.mp hb
    by_cases hlbn : x.lbn = f.lbn
    · rw [if_pos hlbn]
      exact sealState_ne_filling _ _
    · rw [if_neg hlbn]
      intro hfill
      exact hlbn (congrArg Block.lbn (h.eq_of_filling hx hmem hfill hstate))

theorem TableForm.afterSeal (h : TableForm s) : TableForm s.afterSeal := by
  cases hb : s.fillingBlock with
  | none => simpa [State.afterSeal, hb] using h
  | some f =>
    have hring := s.afterSeal_ring
    simp only [State.sealedBlocks, hb] at hring
    refine h.map (by rw [hring]) (by rw [hring]) (by rw [hring]) s.afterSeal_capacity (fun b => by split <;> rfl) fun b hf => ?_
    by_cases hlbn : b.lbn = f.lbn
    · rw [if_pos hlbn] at hf
      exact absurd hf (sealState_ne_filling _ _)
    · simpa [hlbn] using hf

theorem State.sealFilling_fillingBlock (h : TableForm s) : s.sealFilling.fillingBlock = none := by
  obtain ⟨_, _, _, _, heq⟩ := eq_of_unsignalled (Becomes.sealFilling s).2
  rw [heq, fillingBlock, List.find?_eq_none]
  intro b hb
  have hmem : b ∈ s.sealedBlocks := by simpa [s.afterSeal_ring] using hb
  simpa using sealedBlocks_not_filling h b hmem

/-! ## The acts that raise nothing -/

namespace State

theorem dropFront_eq (s : State) : s.dropFront = s.frameDropped := rfl

theorem countPlaced_eq (s : State) (f : Frame) : s.countPlaced f = s.framePlaced f := rfl

theorem appendPayload_eq (s : State) (b : Block) (f : Frame) : (s.appendPayload b f).countPlaced f = s.payloadAppended b f := rfl

theorem openBlock_eq (s : State) (n : Nat) (a : Bool) (f : Frame) : s.openBlock n a f = s.blockOpened n a f := rfl

theorem newEntry_eq (s : State) (f : Frame) (loss : Option LossRecord) : s.newEntry f loss = s.entryAtOpen f loss := by
  have hcontinued : s.continued f = s.continuing f := by simp [continued, continuing]
  have htick : openingTick f loss (s.continued f) = ((s.entryAtOpen f loss).firstTick, (s.entryAtOpen f loss).noStamp) := by
    rw [hcontinued]
    unfold openingTick entryAtOpen
    rcases f.stamp with _ | tick <;> rcases s.continuing f with _ | c <;> rcases loss with _ | r <;>
      simp [LossRecord.estimate, LossRecord.exact]
  have hstart : (!f.startFlag && (s.continued f).isNone) = (!f.startFlag && s.assembler.continuation.isNone) := by
    cases hf : f.startFlag <;> simp [continued, hf]
  unfold newEntry
  rw [htick, hstart]
  rfl

theorem openSegment_eq (s : State) (f : Frame) (loss : Option LossRecord) :
    (s.openSegment f loss).countPlaced f = s.segmentOpened f loss := by
  have hcontinued : s.continued f = s.continuing f := by simp [continued, continuing]
  have hcounter : openingCounter s.control.active (s.continued f)
      = match s.control.active.sliceMode, s.continuing f with
        | .off, _ => none
        | .points, none => some (s.control.active.sliceLength : Int)
        | .points, some c => some ((c.carried.getD s.control.active.sliceLength : Nat) : Int) := by
    rw [hcontinued]
    unfold openingCounter
    cases s.control.active.sliceMode <;> rcases s.continuing f with _ | c <;> rfl
  unfold openSegment
  rw [newEntry_eq, hcounter]
  rfl

theorem nextBlockOpened_eq {e : Entry} (h : s.openEntry = some e) (f : Frame) :
    ((s.openBlock e.number e.archiveRequired f).mapOpen fun e => { e with blockCount := e.blockCount + 1 }).countPlaced f
      = s.nextBlockOpened f := by
  rw [nextBlockOpened, h]
  rfl

theorem dropContinuation_eq (s : State) : s.dropFront.dropContinuation = s.openingDropped := rfl

end State

theorem Waits.waitAtFront (s : State) (stage : Stage) : Waits s (s.waitAtFront stage) stage :=
  .of_ports rfl (fun p => by cases p <;> rfl) rfl

theorem Presented.present (s : State) (h : s.store.admission = false) : Presented s s.present := by
  refine .of_ports rfl (fun p => by cases p <;> rfl) ?_
  simp [State.present, h, frameInFront, State.mapStore]

/-! ## Steps 5 to 8 of a working (R49) -/

theorem Becomes.sealFull (s : State) :
    Becomes s s.sealFull (if s.fillingBlock.any fun b => decide (blockBytes ≤ b.fillBytes) then s.afterSeal else s)
      (if s.fillingBlock.any fun b => decide (blockBytes ≤ b.fillBytes) then [.blockSealed] else []) [] := by
  have hseal := Becomes.sealFilling s
  unfold State.sealEvents at hseal
  unfold State.sealFull
  cases hb : s.fillingBlock with
  | none => simpa using Becomes.refl s
  | some b =>
    by_cases hfull : blockBytes ≤ b.fillBytes
    · simpa [hfull, hb] using hseal
    · simpa [hfull] using Becomes.refl s

theorem Entry.recordTrigger_bpp (e : Entry) (f : Frame) (p0 : Nat) : (e.recordTrigger f p0).bpp = e.bpp := by
  unfold recordTrigger
  dsimp only
  split <;> rfl

/-- A change of entries that leaves each Open or Closed changes the Open entry alone among them. -/
theorem find?_isOpen_map {g : Entry → Entry} (hg : ∀ e, (g e).isOpen = e.isOpen) (l : List Entry) :
    (l.map g).find? Entry.isOpen = (l.find? Entry.isOpen).map g := by
  rw [List.find?_map]
  exact congrArg (Option.map g) (List.find?_congr fun e _ => hg e)

theorem State.recordTrigger_openEntry_bpp (s : State) (f : Frame) :
    (s.recordTrigger f).openEntry.map Entry.bpp = s.openEntry.map Entry.bpp := by
  unfold recordTrigger openEntry
  split
  · rw [mapOpen, find?_isOpen_map, Option.map_map]
    · refine Option.map_congr fun e _ => ?_
      simp only [Function.comp_apply]
      split
      · exact Entry.recordTrigger_bpp ..
      · rfl
    · intro e
      split
      · exact recordTrigger_isOpen ..
      · rfl
  · rfl

/-- The data after steps 5 and 6. -/
theorem State.frameActedOn_eq (s : State) (f : Frame) : (s.recordTrigger f).spendFrame f = s.frameActedOn f := by
  have hbpp := s.recordTrigger_openEntry_bpp f
  have hpoints : ((s.recordTrigger f).openEntry.map fun e => f.payload.length / e.bpp)
      = s.openEntry.map fun e => f.payload.length / e.bpp := by
    have := congrArg (Option.map (f.payload.length / ·)) hbpp
    simpa [Option.map_map, Function.comp_def] using this
  unfold spendFrame
  rw [hpoints]
  unfold frameActedOn recordTrigger
  cases f.triggerFlag <;> simp [spendSlice, mapAssembler, mapOpen]

/-- Sealing twice is sealing once. -/
theorem State.sealFilling_twice (h : TableForm s) : s.sealFilling.sealFilling = s.sealFilling :=
  sealFilling_of_none (sealFilling_fillingBlock h)

theorem State.sealFull_cases (s : State) : s.sealFull = s.sealFilling ∨ s.sealFull = s := by
  unfold sealFull
  split
  · split
    · exact .inl rfl
    · exact .inr rfl
  · exact .inr rfl

/-- A full block that has just been sealed is not there for the close to seal again. -/
theorem State.closeSegment_sealFull (h : TableForm s) (hopen : s.openEntry.isSome = true) (reason : CloseReason) :
    s.sealFull.closeSegment reason = s.closeSegment reason := by
  obtain ⟨e, he⟩ := Option.isSome_iff_exists.mp hopen
  obtain hseal | hsame := s.sealFull_cases
  · have hsealed : s.sealFilling.openEntry = some e := by simpa [openEntry] using he
    rw [hseal, closeSegment_of_open he, closeSegment_of_open hsealed, sealFilling_twice h]
    simp [nextOf, continuationOf]
  · rw [hsame]

theorem State.closeInCourse_sealFull (h : TableForm s) (hopen : s.openEntry.isSome = true) (reason : CloseReason) :
    s.sealFull.closeInCourse reason = s.closeInCourse reason := by
  obtain ⟨e, he⟩ := Option.isSome_iff_exists.mp hopen
  have hsealed : s.sealFull.openEntry = some e := by simpa [openEntry] using he
  rw [closeInCourse, closeInCourse, he, hsealed]
  simp only [closeSegment_sealFull h hopen]

theorem State.sliceDue_iff (s : State) : s.sliceDue = true ↔ s.sliceReached := by
  unfold sliceDue sliceReached
  cases s.assembler.sliceCounter <;> simp

theorem State.blockFull_iff (s : State) : (s.fillingBlock.any fun b => decide (blockBytes ≤ b.fillBytes)) = true ↔ s.blockFull := by
  unfold blockFull
  cases s.fillingBlock <;> simp

theorem TableForm.frameActedOn (h : TableForm s) (f : Frame) : TableForm (s.frameActedOn f) :=
  h.congr rfl rfl rfl rfl

theorem State.frameActedOn_openEntry (s : State) (f : Frame) : (s.frameActedOn f).openEntry.isSome = s.openEntry.isSome := by
  rw [openEntry_isSome, openEntry_isSome, frameActedOn]
  refine any_isOpen_map (fun e => ?_) s.index
  split
  · exact recordTrigger_isOpen ..
  · rfl

/-- Steps 5 to 8 follow once a payload has been placed in the open segment. -/
theorem Finished.afterPlaced (h : TableForm s) (hopen : s.openEntry.isSome = true) (f : Frame) : Finished s (s.afterPlaced f) f := by
  unfold State.afterPlaced
  rw [State.frameActedOn_eq]
  have ha : TableForm (s.frameActedOn f) := h.frameActedOn f
  have hopen' : (s.frameActedOn f).openEntry.isSome = true := (s.frameActedOn_openEntry f).trans hopen
  unfold Finished
  generalize s.frameActedOn f = a at ha hopen'
  have hdue : a.sealFull.sliceDue = true ↔ a.sliceReached := by
    rw [← State.sliceDue_iff]
    simp [State.sliceDue]
  have hseal := Becomes.sealFull a
  unfold State.endFrame
  refine ⟨fun hend => ?_, fun hend hslice => ?_, fun hend hslice hfull => ?_, fun hend hslice hfull => ?_⟩
  · rw [if_pos hend, State.closeInCourse_sealFull ha hopen']
    exact .closeInCourse ha.distinct hopen' _
  · rw [if_neg (by simp [hend]), if_pos (hdue.mpr hslice), State.closeInCourse_sealFull ha hopen']
    exact .closeInCourse ha.distinct hopen' _
  · rw [if_neg (by simp [hend]), if_neg (hdue.not.mpr hslice)]
    simpa [a.blockFull_iff.mpr hfull] using hseal
  · rw [if_neg (by simp [hend]), if_neg (hdue.not.mpr hslice)]
    have hnot := Bool.eq_false_of_not_eq_true (a.blockFull_iff.not.mpr hfull)
    simpa [hnot] using hseal

end Sys2Proof.Machine

/-!
Drops, the Ring Manager's answer, and the opening of a segment or of its next block, as the relations of the statements have them
(R4, R15 to R23, R54 to R59, R85 to R87).
-/
namespace Sys2Proof.Machine

variable {s t u v : State} {es es' : List Event} {ks ks' : List NoticeKind}

/-! ## Drops (R4, R19 to R23, R55, R86) -/

theorem State.frameDropped_port (s : State) (p : Port) : s.frameDropped.port p = s.port p := by
  cases p <;> rfl

/-- A frame has been dropped, its notice raised, and capture ends. -/
theorem EndsAtDrop.of_becomes {kind : NoticeKind} (h : Becomes s t u [] [kind]) (hform : TableForm u)
    (htakes : u.drain.parkedTakes = s.drain.parkedTakes) (close : CloseReason) (reason : StopReason) :
    EndsAtDrop s u (t.closeAndStop close reason) close reason kind := by
  have ht : TableForm t := hform.of_unsignalled h.2
  have hstop := State.closeAndStop_stoppedAtOnce ht.distinct close reason
  have hsignals := Signalled.closeAndStop t close reason
  have hevents (x : State) : t.stopEvents x = u.stopEvents x := by
    obtain ⟨_, _, _, _, rfl⟩ := State.eq_of_unsignalled h.2
    rfl
  refine ⟨hstop.congr h.2.symm rfl fun x hx => ⟨x, hx, rfl, rfl, rfl⟩, ?_⟩
  have hd : t.drain.parkedTakes ⊆ s.drain.parkedTakes := by
    rw [State.drain_of_unsignalled h.2, htakes]
    exact List.Subset.refl _
  simpa [hevents] using h.1.append hd hsignals

namespace TableForm

theorem frameDropped (h : TableForm s) : TableForm s.frameDropped := h.congr rfl rfl rfl rfl

theorem openingDropped (h : TableForm s) : TableForm s.openingDropped := h.congr rfl rfl rfl rfl

theorem overrunDropped (h : TableForm s) (f : Frame) : TableForm (s.overrunDropped f) := by
  unfold State.overrunDropped
  split
  · exact h.openingDropped
  · exact h.congr rfl rfl rfl rfl

end TableForm

/-- The frame has been dropped and its notice raised. -/
theorem Becomes.frameDropped (s : State) (kind : NoticeKind) : Becomes s (s.dropFront.raiseNotice kind) s.frameDropped [] [kind] := by
  have dropped : Becomes s s.frameDropped s.frameDropped [] [] := .of_ports rfl s.frameDropped_port rfl
  exact dropped.thenRaiseNotice (List.Subset.refl _) kind

theorem State.exhaustLbn_eq (s : State) : s.exhaustLbn = (s.dropFront.raiseNotice .overrunLoss).closeAndStop .numberExhausted .lbnExhausted := rfl

theorem EndsAtDrop.exhaustLbn (h : TableForm s) :
    EndsAtDrop s s.frameDropped s.exhaustLbn .numberExhausted .lbnExhausted .overrunLoss :=
  .of_becomes (.frameDropped s .overrunLoss) h.frameDropped rfl _ _

/-- LBN exhaustion where no segment is open: Continuation is none already. -/
theorem EndsAtDrop.exhaustLbn_opening (h : TableForm s) :
    EndsAtDrop s s.openingDropped s.dropContinuation.exhaustLbn .numberExhausted .lbnExhausted .overrunLoss := by
  have dropped : Becomes s s.dropContinuation.dropFront s.openingDropped [] [] := .of_ports rfl (fun p => by cases p <;> rfl) rfl
  have noticed := dropped.thenRaiseNotice (List.Subset.refl _) .overrunLoss
  rw [State.exhaustLbn_eq]
  exact .of_becomes noticed h.openingDropped rfl _ _

/-- The frame that would open a segment has been dropped, and its notice raised. -/
theorem Becomes.openingDropped (s : State) (kind : NoticeKind) :
    Becomes s (s.dropFront.raiseNotice kind).dropContinuation s.openingDropped [] [kind] :=
  (Becomes.frameDropped s kind).mapAssembler fun a => { a with continuation := none }

theorem State.openingDropped_openEntry (s : State) (kind : NoticeKind) :
    (s.dropFront.raiseNotice kind).dropContinuation.openEntry = s.openEntry := by
  simp [openEntry]

/-- With no segment open, entry to Stopped is a close and an entry to Stopped. -/
theorem State.enterStopped_eq_closeAndStop (h : s.openEntry = none) (close : CloseReason) (reason : StopReason) :
    s.enterStopped reason = s.closeAndStop close reason := by
  rw [closeAndStop, closeSegment_of_none h]

theorem EndsAtDrop.segmentNumberExhausted (h : TableForm s) (hopen : s.openEntry = none) :
    EndsAtDrop s s.openingDropped (((s.dropFront.raiseNotice .overrunLoss).dropContinuation).enterStopped .segmentNumberExhausted)
      .numberExhausted .segmentNumberExhausted .overrunLoss := by
  rw [State.enterStopped_eq_closeAndStop ((s.openingDropped_openEntry _).trans hopen) .numberExhausted]
  exact .of_becomes (.openingDropped s _) h.openingDropped rfl _ _

theorem IndexFull.indexFull (h : TableForm s) (hopen : s.openEntry = none) : IndexFull s s.indexFull := by
  have dropped := Becomes.openingDropped s .indexFull
  have hpolicy : (s.dropFront.raiseNotice .indexFull).dropContinuation.control = s.control := by simp
  refine ⟨fun hgoes => ?_, fun hstop => ?_⟩
  · rw [State.indexFull, if_neg (by rwa [hpolicy])]
    exact dropped
  · rw [State.indexFull, if_pos (by rwa [hpolicy]),
      State.enterStopped_eq_closeAndStop ((s.openingDropped_openEntry _).trans hopen) .overrun]
    exact .of_becomes dropped h.openingDropped rfl _ _

/-- The drop of an overrun, up to what its policy brings (R19 to R21). -/
def State.overrunDrop (s : State) (f : Frame) : State :=
  match (s.dropFront.raiseNotice .overrunLoss).openEntry with
  | some e => (s.dropFront.raiseNotice .overrunLoss).recordGap (f.payload.length / e.bpp) .overrun false
  | none => (s.dropFront.raiseNotice .overrunLoss).dropContinuation

theorem State.overrun_eq (s : State) (f : Frame) :
    s.overrun f
      = if (s.overrunDrop f).control.active.overrunPolicy = .stop then (s.overrunDrop f).closeAndStop .overrun .overrun
        else s.overrunDrop f := rfl

theorem State.overrunDrop_control (s : State) (f : Frame) : (s.overrunDrop f).control = s.control := by
  unfold overrunDrop
  split <;> simp

theorem Becomes.overrunDrop (s : State) (f : Frame) : Becomes s (s.overrunDrop f) (s.overrunDropped f) [] [.overrunLoss] := by
  have hopen : (s.dropFront.raiseNotice .overrunLoss).openEntry = s.openEntry := by simp [State.openEntry]
  have dropped := Becomes.frameDropped s .overrunLoss
  unfold State.overrunDrop State.overrunDropped
  rw [hopen]
  cases he : s.openEntry with
  | none => exact dropped.mapAssembler fun a => { a with continuation := none }
  | some e =>
    simp only [State.recordGap, hopen, he]
    exact (dropped.mapOpen fun e => e.addGap _ .overrun false).mapAssembler fun a => { a with sliceCounter := _ }

theorem Overrun.overrun (h : TableForm s) (f : Frame) : Overrun s (s.overrun f) f := by
  have dropped := Becomes.overrunDrop s f
  rw [State.overrun_eq, State.overrunDrop_control]
  refine ⟨fun hgoes => ?_, fun hstop => ?_⟩
  · rw [if_neg hgoes]
    exact dropped
  · rw [if_pos hstop]
    refine .of_becomes dropped (h.overrunDropped f) ?_ _ _
    unfold State.overrunDropped
    split <;> rfl

/-! ## The Ring Manager's answer (R4, R15 to R17, R22) -/

theorem State.recycleTail_port (s : State) (b : Block) (p : Port) : (s.recycleTail b).port p = s.port p := by
  cases p <;> rfl

theorem TailLeft.recycleTail {b : Block} (hb : s.ring.blocks.head? = some b)
    (hclass : b.classify s.control.active.overrunPolicy = .recyclable) : TailLeft s (s.recycleTail b) :=
  ⟨b, hb, .inl ⟨by simp [State.tailClass, hb, hclass], .of_ports rfl (s.recycleTail_port b) rfl⟩⟩

/-- An eviction raises its notice and no event. -/
theorem Becomes.evictTail (s : State) (b : Block) : Becomes s (s.evictTail b) (s.evictTail b) [] [.overrunLoss] := by
  have left : Becomes s ((s.emptyTail.leavingReport b true).count fun c => { c with blocksEvictedUnarchived := c.blocksEvictedUnarchived + 1 })
      ((s.emptyTail.leavingReport b true).count fun c => { c with blocksEvictedUnarchived := c.blocksEvictedUnarchived + 1 }) [] [] :=
    .of_ports rfl (fun p => by cases p <;> rfl) rfl
  exact (left.thenRaiseNotice (List.Subset.refl _) .overrunLoss).unsignalled_eq (State.raiseNotice_unsignalled _ _)

theorem TailLeft.evictTail {b : Block} (hb : s.ring.blocks.head? = some b)
    (hclass : b.classify s.control.active.overrunPolicy = .evictable) : TailLeft s (s.evictTail b) :=
  ⟨b, hb, .inr ⟨by simp [State.tailClass, hb, hclass], .evictTail s b⟩⟩

/-- The Tail block leaves the ring, by recycling or by eviction, as its class allows (R12, R16, R17, R22). -/
inductive Leaves (s : State) : State → Prop where
  | recycled {b : Block} (hb : s.ring.blocks.head? = some b) (hclass : b.classify s.control.active.overrunPolicy = .recyclable) :
      Leaves s (s.recycleTail b)
  | evicted {b : Block} (hb : s.ring.blocks.head? = some b) (hclass : b.classify s.control.active.overrunPolicy = .evictable) :
      Leaves s (s.evictTail b)

/-- The entry of a block that leaves, before the retirement test (R82). -/
def Entry.afterLeave (b : Block) (evicted : Bool) (e : Entry) : Entry :=
  if e.number = b.segment then
    { e with
      presentFrom := e.presentFrom + 1
      evictedUnarchived := if evicted then e.evictedUnarchived + BitVec.ofNat 64 (b.fillBytes / e.bpp) else e.evictedUnarchived
      frontEvicted := e.frontEvicted || evicted }
  else e

theorem Entry.afterLeave_isOpen (b : Block) (evicted : Bool) (e : Entry) : (e.afterLeave b evicted).isOpen = e.isOpen := by
  unfold afterLeave
  split <;> rfl

theorem State.leavingReport_index (s : State) (b : Block) (evicted : Bool) :
    (s.leavingReport b evicted).index = (s.index.map (Entry.afterLeave b evicted)).filter fun e => e.isOpen || !e.emptied := rfl

theorem State.leavingReport_openEntry (s : State) (b : Block) (evicted : Bool) :
    (s.leavingReport b evicted).openEntry = s.openEntry.map (Entry.afterLeave b evicted) := by
  rw [openEntry, leavingReport_index, List.find?_filter, openEntry, ← find?_isOpen_map (Entry.afterLeave_isOpen b evicted)]
  refine List.find?_congr fun e _ => ?_
  cases e.isOpen <;> simp

namespace Leaves

theorem tailLeft (h : Leaves s t) : TailLeft s t := by
  cases h with
  | recycled hb hclass => exact .recycleTail hb hclass
  | evicted hb hclass => exact .evictTail hb hclass

/-- What a block that leaves changes of the ring and of the index. -/
theorem ring_index (h : Leaves s t) : ∃ b evicted, s.ring.blocks.head? = some b ∧ t.ring = s.emptyTail.ring ∧ t.capacity = s.capacity
    ∧ t.openEntry = s.openEntry.map (Entry.afterLeave b evicted) := by
  cases h with
  | recycled hb _ => exact ⟨_, _, hb, rfl, rfl, s.emptyTail.leavingReport_openEntry _ false⟩
  | evicted hb _ => exact ⟨_, _, hb, rfl, rfl, s.emptyTail.leavingReport_openEntry _ true⟩

theorem tableForm (h : Leaves s t) (hs : TableForm s) : TableForm t := by
  obtain ⟨b, _, hb, hring, hcapacity, -⟩ := h.ring_index
  exact hs.tail_left hb (by rw [hring]; rfl) (by rw [hring]; rfl) (by rw [hring]; rfl) hcapacity

theorem room (h : Leaves s t) (hs : TableForm s) : t.ring.head - t.ring.tail < t.capacity := by
  obtain ⟨b, _, hb, hring, hcapacity, -⟩ := h.ring_index
  have hgiven := hs.given (List.mem_of_mem_head? hb)
  have hfits := hs.fits
  have htail : s.emptyTail.ring.tail = s.ring.tail + 1 := rfl
  rw [hring, hcapacity, State.emptyTail_ring_head, htail]
  omega

theorem head (h : Leaves s t) : t.ring.head = s.ring.head := by
  obtain ⟨_, _, _, hring, _⟩ := h.ring_index
  rw [hring]
  rfl

theorem fillingBlock (h : Leaves s t) (hnone : s.fillingBlock = none) : t.fillingBlock = none := by
  obtain ⟨_, _, _, hring, _⟩ := h.ring_index
  rw [State.fillingBlock, hring, List.find?_eq_none]
  exact fun x hx => List.find?_eq_none.mp hnone x (List.mem_of_mem_tail hx)

theorem openEntry (h : Leaves s t) : ∃ g : Entry → Entry, t.openEntry = s.openEntry.map g
    ∧ ∀ e, (g e).number = e.number ∧ (g e).archiveRequired = e.archiveRequired := by
  obtain ⟨_, _, _, _, _, hopen⟩ := h.ring_index
  refine ⟨_, hopen, fun e => ?_⟩
  unfold Entry.afterLeave
  split <;> exact ⟨rfl, rfl⟩

theorem openEntry_none (h : Leaves s t) (hnone : s.openEntry = none) : t.openEntry = none := by
  obtain ⟨g, hg, -⟩ := h.openEntry
  rw [hg, hnone]
  rfl

end Leaves

/-- The position of LBN Head is granted, at once or by the Tail block leaving a full ring (R15, R16). -/
inductive Granted (s : State) : State → Prop where
  | empty (hroom : s.ring.head - s.ring.tail < s.capacity) : Granted s s
  | left {t : State} (hfull : s.ringFull) (hleaves : Leaves s t) : Granted s t

namespace Granted

theorem blockGranted (h : Granted s t) (hlast : s.ring.head < lastLbn) : BlockGranted s t := by
  cases h with
  | empty hroom => exact ⟨hlast, .inl ⟨not_le.mpr hroom, .refl s⟩⟩
  | left hfull hleaves => exact ⟨hlast, .inr ⟨hfull, hleaves.tailLeft⟩⟩

theorem tableForm (h : Granted s t) (hs : TableForm s) : TableForm t := by
  cases h with
  | empty => exact hs
  | left _ hleaves => exact hleaves.tableForm hs

theorem room (h : Granted s t) (hs : TableForm s) : t.ring.head - t.ring.tail < t.capacity := by
  cases h with
  | empty hroom => exact hroom
  | left _ hleaves => exact hleaves.room hs

theorem head (h : Granted s t) : t.ring.head = s.ring.head := by
  cases h with
  | empty => rfl
  | left _ hleaves => exact hleaves.head

theorem fillingBlock (h : Granted s t) (hnone : s.fillingBlock = none) : t.fillingBlock = none := by
  cases h with
  | empty => exact hnone
  | left _ hleaves => exact hleaves.fillingBlock hnone

theorem openEntry (h : Granted s t) : ∃ g : Entry → Entry, t.openEntry = s.openEntry.map g
    ∧ ∀ e, (g e).number = e.number ∧ (g e).archiveRequired = e.archiveRequired := by
  cases h with
  | empty => exact ⟨id, by simp, fun _ => ⟨rfl, rfl⟩⟩
  | left _ hleaves => exact hleaves.openEntry

theorem openEntry_none (h : Granted s t) (hnone : s.openEntry = none) : t.openEntry = none := by
  obtain ⟨g, hg, -⟩ := h.openEntry
  rw [hg, hnone]
  rfl

end Granted

/-- The Ring Manager's answer, by its cases. -/
theorem State.requestBlock_cases (h : TableForm s) :
    (∃ u, s.requestBlock = .granted u ∧ s.ring.head < lastLbn ∧ Granted s u)
      ∨ (s.requestBlock = .exhausted ∧ lastLbn ≤ s.ring.head)
      ∨ (s.requestBlock = .readBound ∧ s.blockedBy .readBound)
      ∨ (s.requestBlock = .held ∧ s.blockedBy .held) := by
  unfold requestBlock
  by_cases hlast : lastLbn ≤ s.ring.head
  · exact .inr (.inl ⟨if_pos hlast, hlast⟩)
  · have hleft : s.ring.head < lastLbn := not_le.mp hlast
    rw [if_neg hlast]
    by_cases hroom : s.ring.head - s.ring.tail < s.capacity
    · exact .inl ⟨s, if_pos hroom, hleft, .empty hroom⟩
    · have hfull : s.ringFull := not_lt.mp hroom
      obtain ⟨b, hb⟩ := h.tailBlock_of_full hfull
      have htail : s.tailBlock = some b := hb
      rw [if_neg hroom, htail]
      have htailClass : s.tailClass = some (b.classify s.control.active.overrunPolicy) := by simp [tailClass, hb]
      cases hclass : b.classify s.control.active.overrunPolicy with
      | recyclable =>
        simp only [hclass]
        exact .inl ⟨_, rfl, hleft, .left hfull (.recycled hb hclass)⟩
      | evictable =>
        simp only [hclass]
        exact .inl ⟨_, rfl, hleft, .left hfull (.evicted hb hclass)⟩
      | readBound =>
        simp only [hclass]
        exact .inr (.inr (.inl ⟨trivial, hleft, hfull, htailClass.trans (congrArg some hclass)⟩))
      | held =>
        simp only [hclass]
        exact .inr (.inr (.inr ⟨trivial, hleft, hfull, htailClass.trans (congrArg some hclass)⟩))

/-! ## Room in the Segment Index (R85 to R87) -/

/-- How making room ends: with the room made, or at a Tail block that may not leave, or with no block held. -/
def RoomAnswer.Ends : RoomAnswer → Prop
  | .made u => u.index.length < indexCapacity
  | .readBound u => indexCapacity ≤ u.index.length ∧ u.tailClass = some .readBound
  | .held u => indexCapacity ≤ u.index.length ∧ (u.tailClass = some .held ∨ u.tailClass = none)

/-- Tail blocks leave, one after another, while the index is full (R85). -/
inductive RoomMade : State → State → Prop where
  | done (s : State) : RoomMade s s
  | left {s t u : State} (hfull : indexCapacity ≤ s.index.length) (hleaves : Leaves s t) (hrest : RoomMade t u) : RoomMade s u

namespace RoomMade

theorem sought (h : RoomMade s t) : RoomSought s t := by
  induction h with
  | done s => exact .ended (.refl s)
  | left hfull hleaves _ ih => exact .left hfull hleaves.tailLeft ih

theorem tableForm (h : RoomMade s t) (hs : TableForm s) : TableForm t := by
  induction h with
  | done => exact hs
  | left _ hleaves _ ih => exact ih (hleaves.tableForm hs)

theorem openEntry_none (h : RoomMade s t) (hnone : s.openEntry = none) : t.openEntry = none := by
  induction h with
  | done => exact hnone
  | left _ hleaves _ ih => exact ih (hleaves.openEntry_none hnone)

theorem fillingBlock (h : RoomMade s t) (hnone : s.fillingBlock = none) : t.fillingBlock = none := by
  induction h with
  | done => exact hnone
  | left _ hleaves _ ih => exact ih (hleaves.fillingBlock hnone)

end RoomMade

theorem State.makeRoom_made (fuel : Nat) (s : State) (hfuel : s.ring.blocks.length ≤ fuel) :
    RoomMade s (s.makeRoom fuel).state ∧ (s.makeRoom fuel).Ends := by
  induction fuel generalizing s with
  | zero =>
    have hnone : s.tailClass = none := by simp [tailClass, List.length_eq_zero_iff.mp (Nat.le_zero.mp hfuel)]
    rw [makeRoom]
    split
    next hroom => exact ⟨.done s, hroom⟩
    next hroom => exact ⟨.done s, not_lt.mp hroom, .inr hnone⟩
  | succ fuel ih =>
    rw [makeRoom]
    by_cases hroom : s.index.length < indexCapacity
    · rw [if_pos hroom]
      exact ⟨.done s, hroom⟩
    · have hfull := not_lt.mp hroom
      rw [if_neg hroom]
      cases hb : s.tailBlock with
      | none => exact ⟨.done s, hfull, .inr (by simpa [tailClass, tailBlock] using hb)⟩
      | some b =>
        have htailClass : s.tailClass = some (b.classify s.control.active.overrunPolicy) := by
          have hhead : s.ring.blocks.head? = some b := hb
          simp [tailClass, hhead]
        have hfuel' : s.ring.blocks.tail.length ≤ fuel := by rw [List.length_tail]; omega
        cases hclass : b.classify s.control.active.overrunPolicy with
        | recyclable =>
          obtain ⟨hmade, hends⟩ := ih (s.recycleTail b) hfuel'
          simp only [hclass]
          exact ⟨.left hfull (.recycled hb hclass) hmade, hends⟩
        | evictable =>
          obtain ⟨hmade, hends⟩ := ih (s.evictTail b) hfuel'
          simp only [hclass]
          exact ⟨.left hfull (.evicted hb hclass) hmade, hends⟩
        | readBound =>
          simp only [hclass]
          exact ⟨.done s, hfull, htailClass.trans (congrArg some hclass)⟩
        | held =>
          simp only [hclass]
          exact ⟨.done s, hfull, .inl (htailClass.trans (congrArg some hclass))⟩

end Sys2Proof.Machine

/-!
The opening of a segment or of its next block, and the grant as a whole, as the relations of the statements have them (R48 to R50, R54 to R59).
-/
namespace Sys2Proof.Machine

variable {s t u v : State} {es es' : List Event} {ks ks' : List NoticeKind} {before : Nat}

/-! ## What bringing the ring up to date and testing the Head Mark keep -/

theorem State.settleRing_openEntry (s : State) (before : Nat) : (s.settleRing before).openEntry = s.openEntry := by
  simp [openEntry]

theorem TableForm.settleRing (h : TableForm s) (before : Nat) : TableForm (s.settleRing before) :=
  h.congr (by simp) (by simp) (by simp) (by simp [State.capacity])

theorem TableForm.testHeadMark (h : TableForm s) : TableForm s.testHeadMark :=
  h.congr (by simp) (by simp) (by simp) (by simp [State.capacity])

theorem State.testHeadMark_openEntry (s : State) : s.testHeadMark.openEntry = s.openEntry := by
  simp [openEntry]

/-- The rest of a working whose payload has just opened a block (R8, R49, R108). -/
theorem OpenedAndFinished.finish (h : TableForm s) (hopen : s.openEntry.isSome = true) (before : Nat) (f : Frame) :
    OpenedAndFinished before s (((s.settleRing before).testHeadMark).afterPlaced f) f := by
  have hopen' : (s.settleRing before).openEntry.isSome = true := by rwa [s.settleRing_openEntry]
  refine ⟨_, _, .settleRing s before, .testHeadMark hopen', .afterPlaced (h.settleRing before).testHeadMark ?_ f⟩
  rwa [State.testHeadMark_openEntry]

theorem State.segmentOpened_openEntry (s : State) (f : Frame) (loss : Option LossRecord) :
    (s.segmentOpened f loss).openEntry.isSome = true := by
  rw [openEntry_isSome]
  have hmap : (s.segmentOpened f loss).index
      = (s.index ++ [s.entryAtOpen f loss]).map fun e =>
          if e.isOpen then { e with byteLength := e.byteLength + f.payload.length } else e := rfl
  rw [hmap, any_isOpen_map]
  · have hnew : (s.entryAtOpen f loss).isOpen = true := rfl
    simp [hnew]
  · intro e
    split <;> rfl

theorem State.nextBlockOpened_openEntry (h : s.openEntry.isSome = true) (f : Frame) : (s.nextBlockOpened f).openEntry.isSome = true := by
  obtain ⟨e, he⟩ := Option.isSome_iff_exists.mp h
  rw [← nextBlockOpened_eq he, openEntry_isSome, countPlaced_eq]
  have hmap : (((s.openBlock e.number e.archiveRequired f).mapOpen fun e => { e with blockCount := e.blockCount + 1 }).framePlaced f).index
      = (s.index.map fun e => if e.isOpen then { e with blockCount := e.blockCount + 1 } else e).map fun e =>
          if e.isOpen then { e with byteLength := e.byteLength + f.payload.length } else e := rfl
  rw [hmap, any_isOpen_map, any_isOpen_map, ← openEntry_isSome]
  · exact h
  · intro e
    split <;> rfl
  · intro e
    split <;> rfl

theorem TableForm.segmentOpened (h : TableForm s) (hroom : s.ring.head - s.ring.tail < s.capacity) (hnone : s.fillingBlock = none) (f : Frame) (loss : Option LossRecord) :
    TableForm (s.segmentOpened f loss) :=
  h.opened hroom hnone rfl rfl rfl rfl rfl

theorem TableForm.nextBlockOpened (h : TableForm s) (hroom : s.ring.head - s.ring.tail < s.capacity) (hnone : s.fillingBlock = none)
    (f : Frame) : TableForm (s.nextBlockOpened f) := by
  unfold State.nextBlockOpened
  split
  · exact h
  · exact h.opened hroom hnone rfl rfl rfl rfl rfl

/-! ## The next block of the open segment (R50) -/

theorem NextBlock.nextBlock {e : Entry} (h : TableForm s) (he : s.openEntry = some e) (hnone : s.fillingBlock = none) (before : Nat)
    (f : Frame) : NextBlock before s (s.nextBlock before e f) f := by
  unfold State.nextBlock
  obtain ⟨u, hanswer, hlast, hgranted⟩ | ⟨hanswer, hlast⟩ | ⟨hanswer, hblocked⟩ | ⟨hanswer, hblocked⟩ := State.requestBlock_cases h <;>
    rw [hanswer]
  · obtain ⟨g, hg, hkeeps⟩ := hgranted.openEntry
    have he' : u.openEntry = some (g e) := by rw [hg, he]; rfl
    obtain ⟨hnumber, harchive⟩ := hkeeps e
    refine .inr (.inl ⟨u, hgranted.blockGranted hlast, ?_⟩)
    dsimp only
    rw [← hnumber, ← harchive, State.finishOpening, State.nextBlockOpened_eq he']
    refine .finish ?_ (State.nextBlockOpened_openEntry (by simp [he']) f) before f
    exact (hgranted.tableForm h).nextBlockOpened (hgranted.room h) (hgranted.fillingBlock hnone) f
  · exact .inl ⟨hlast, .exhaustLbn h⟩
  · exact .inr (.inr (.inl ⟨hblocked, .waitAtFront s .nextBlock⟩))
  · exact .inr (.inr (.inr ⟨hblocked, .overrun h f⟩))

/-! ## The first block of a segment (R55) -/

theorem OpensWithBlock.openWithBlock (h : TableForm s) (hnone : s.fillingBlock = none) (before : Nat)
    (f : Frame) (loss : Option LossRecord) : OpensWithBlock before s (s.openWithBlock before f loss) f loss := by
  unfold State.openWithBlock
  have hsettled : TableForm (s.settleRing before) := h.settleRing before
  obtain ⟨u, hanswer, hlast, hgranted⟩ | ⟨hanswer, hlast⟩ | ⟨hanswer, hblocked⟩ | ⟨hanswer, hblocked⟩ := State.requestBlock_cases h <;>
    rw [hanswer]
  · refine .inr (.inl ⟨u, hgranted.blockGranted hlast, ?_⟩)
    dsimp only
    rw [State.finishOpening, State.openSegment_eq]
    refine .finish ?_ (u.segmentOpened_openEntry f loss) before f
    exact (hgranted.tableForm h).segmentOpened (hgranted.room h) (hgranted.fillingBlock hnone) f loss
  · exact .inl ⟨hlast, _, .settleRing s before, .exhaustLbn_opening hsettled⟩
  · exact .inr (.inr (.inl ⟨hblocked, _, .settleRing s before, .waitAtFront _ .openBlock⟩))
  · exact .inr (.inr (.inr ⟨hblocked, _, .settleRing s before, .overrun hsettled f⟩))

theorem OpensWithRoom.openWithRoom (h : TableForm s) (hopen : s.openEntry = none) (hnone : s.fillingBlock = none) (before : Nat)
    (f : Frame) (loss : Option LossRecord) : OpensWithRoom before s (s.openWithRoom before f loss) f loss := by
  obtain ⟨hkept, hends⟩ := State.makeRoom_made _ s le_rfl
  unfold State.openWithRoom
  cases hroom : s.makeRoom s.ring.blocks.length with
  | made u =>
    rw [hroom] at hkept hends
    exact ⟨u, hkept.sought, .inl ⟨hends, .openWithBlock (hkept.tableForm h) (hkept.fillingBlock hnone) before f loss⟩⟩
  | readBound u =>
    rw [hroom] at hkept hends
    exact ⟨u, hkept.sought, .inr (.inl ⟨hends.1, hends.2, _, .settleRing u before, .waitAtFront _ .makeRoom⟩)⟩
  | held u =>
    rw [hroom] at hkept hends
    have hopen' : (u.settleRing before).openEntry = none := (u.settleRing_openEntry before).trans (hkept.openEntry_none hopen)
    exact ⟨u, hkept.sought, .inr (.inr ⟨hends.1, hends.2, _, .settleRing u before, .indexFull ((hkept.tableForm h).settleRing before) hopen'⟩)⟩

/-! ## The opening of a segment (R55) -/

/-- A pending swap is taken at the open of a segment (R55 step 1, R72). -/
def State.swapAtOpen (s : State) : State :=
  if s.control.swapPending then s.activate.discardCarried else s

theorem State.activate_eq_bandAfresh (s : State) : s.activate = s.takeProfile.bandAfresh := rfl

theorem BandedAfresh.activate (s : State) : BandedAfresh s s.activate := by
  rw [State.activate_eq_bandAfresh]
  exact (BandedAfresh.bandAfresh s.takeProfile).congr rfl rfl rfl rfl rfl

theorem State.activate_headroom (s : State) : s.activate.headroom = s.headroom := by
  rw [activate_eq_bandAfresh, bandAfresh_headroom]
  rfl

/-- Taking a profile changes Capture Control, the band and the Pause line alone (R104). -/
theorem State.activate_unsignalled (s : State) :
    s.activate.unsignalled
      = State.unsignalled { s with control := s.activate.control, ring := s.activate.ring, link := s.activate.link } := by
  simp [unsignalled]

theorem SwapTaken.swapAtOpen (s : State) : SwapTaken s s.swapAtOpen := by
  unfold State.swapAtOpen
  refine ⟨fun hno => ?_, fun hpending => ?_⟩
  · rw [if_neg (by simp [hno])]
    exact .refl s
  · rw [if_pos hpending]
    have hlink : (s.activate.discardCarried).link = s.activate.link := rfl
    have hring : (s.activate.discardCarried).ring = s.activate.ring := rfl
    have taken : Becomes s s.activate
        { s with control := s.activate.control, ring := s.activate.ring, link := s.activate.link }
        (bandEvents s.ring.band s.activate.ring.band) [] := ⟨.activate s, s.activate_unsignalled⟩
    have hdata := taken.mapAssembler fun a => { a with continuation := a.continuation.map fun c => { c with carried := none } }
    refine ⟨(BandedAfresh.activate s).congr rfl rfl rfl rfl rfl, ?_⟩
    rw [hring, hlink]
    refine hdata.unsignalled_eq ?_
    rw [State.activate_control, State.activate_ring]
    rfl

theorem State.swapAtOpen_openEntry (s : State) : s.swapAtOpen.openEntry = s.openEntry := by
  unfold swapAtOpen
  split <;> simp [openEntry, discardCarried]

theorem State.swapAtOpen_fillingBlock (s : State) : s.swapAtOpen.fillingBlock = s.fillingBlock := by
  unfold swapAtOpen
  split <;> simp [fillingBlock, discardCarried]

theorem TableForm.swapAtOpen (h : TableForm s) : TableForm s.swapAtOpen := by
  unfold State.swapAtOpen
  split
  · exact h.congr (by simp [State.discardCarried]) (by simp [State.discardCarried]) (by simp [State.discardCarried])
      (by simp [State.discardCarried, State.capacity])
  · exact h

theorem Opens.beginSegment (h : TableForm s) (hopen : s.openEntry = none) (hnone : s.fillingBlock = none) (before : Nat)
    (f : Frame) (loss : Option LossRecord) : Opens before s (s.beginSegment before f loss) f loss := by
  refine ⟨s.swapAtOpen, .swapAtOpen s, ?_⟩
  have hopen' : s.swapAtOpen.openEntry = none := s.swapAtOpen_openEntry.trans hopen
  have hnone' : s.swapAtOpen.fillingBlock = none := s.swapAtOpen_fillingBlock.trans hnone
  have heq : s.beginSegment before f loss
      = if lastSegment ≤ s.swapAtOpen.assembler.nextSegment then
          ((s.swapAtOpen.dropFront.raiseNotice .overrunLoss).dropContinuation).enterStopped .segmentNumberExhausted
        else s.swapAtOpen.openWithRoom before f loss := rfl
  rw [heq]
  by_cases hlast : lastSegment ≤ s.swapAtOpen.assembler.nextSegment
  · rw [if_pos hlast]
    exact .inl ⟨hlast, .segmentNumberExhausted h.swapAtOpen hopen'⟩
  · rw [if_neg hlast]
    exact .inr ⟨not_le.mp hlast, .openWithRoom h.swapAtOpen hopen' hnone' before f loss⟩

end Sys2Proof.Machine

/-!
The moves that the working of a frame is made of (R48 to R50, R54 to R60). What every move keeps, the working keeps.
-/
namespace Sys2Proof.Machine

variable {s t u v : State} {f : Frame} {before : Nat}

/-! ## The moves of a working -/

/-- What has become of the frame under working. -/
inductive Fate where
  | pending
  | placed
  | dropped
  | ended
  | waiting
  deriving DecidableEq

/-- The fate of a frame once capture has entered Stopped in its working: one that still stood at the front has been discarded. -/
def Fate.stopped : Fate → Fate
  | .pending => .ended
  | .placed => .placed
  | .dropped => .dropped
  | .ended => .ended
  | .waiting => .waiting

/-- The working goes on: the frame is neither left to wait nor discarded. -/
def Fate.goesOn : Fate → Bool
  | .pending => true
  | .placed => true
  | .dropped => true
  | .ended => false
  | .waiting => false

/-- One move of the working of a frame, from an act that found ArchiveFront at `before`. `stale` tells whether the ring has moved and has not
yet been brought up to date. -/
inductive WorkMove (before : Nat) (f : Frame) : (stale : Bool) → Fate → State → Bool → Fate → State → Prop where
  | recordLoss {s : State} (loss : Option LossRecord) :
      WorkMove before f false .pending s false .pending (s.recordLoss loss f.stamp)
  | sealed {s : State} {x : Fate} (hx : x.goesOn = true) (hplace : x = .pending → s.placeOf f = (s.ring.head, 0))
      (hsealed : s.sealFilling.fillingBlock = none) : WorkMove before f false x s false x s.sealFilling
  | close {s : State} {x : Fate} (hx : x.goesOn = true) (reason : CloseReason) (hopen : s.openEntry.isSome = true)
      (hplace : x = .pending → f.startFlag = true) : WorkMove before f false x s false x (s.closeSegment reason)
  | stop {s : State} {x : Fate} (hx : x.goesOn = true) (reason : StopReason) (hreason : reason ≠ .none) (hopen : s.openEntry = none)
      (hfilling : s.fillingBlock = none) (hended : x = .pending → s.control.capture = .stopping ∧ f.startFlag = true) :
      WorkMove before f false x s false x.stopped (s.enterStopped reason)
  | swap {s : State} (hopen : s.openEntry = none) : WorkMove before f false .pending s false .pending s.activate
  | discardCarried {s : State} : WorkMove before f false .pending s false .pending s.discardCarried
  | stale {s : State} : WorkMove before f false .pending s true .pending s
  | leaves {s t : State} (hleaves : Leaves s t) (hfilling : s.fillingBlock = none) (hmay : s.openEntry = none ∨ s.ringFull) :
      WorkMove before f true .pending s true .pending t
  | settle {s : State} {x : Fate} (hx : x.goesOn = true) : WorkMove before f true x s false x (s.settleRing before)
  | openSegment {s : State} (loss : Option LossRecord) (hopen : s.openEntry = none) (hfilling : s.fillingBlock = none)
      (hlast : s.ring.head < lastLbn) (hroom : s.ring.head - s.ring.tail < s.capacity) :
      WorkMove before f true .pending s true .placed (s.segmentOpened f loss)
  | openNext {s : State} (hopen : s.openEntry.isSome = true) (hfilling : s.fillingBlock = none)
      (hlast : s.ring.head < lastLbn) (hroom : s.ring.head - s.ring.tail < s.capacity) :
      WorkMove before f true .pending s true .placed (s.nextBlockOpened f)
  | append {s : State} (b : Block) (hopen : s.openEntry.isSome = true) (hfilling : s.fillingBlock = some b)
      (hstart : f.startFlag = false) (hfits : b.fillBytes + f.payload.length ≤ blockBytes) :
      WorkMove before f false .pending s false .placed (s.payloadAppended b f)
  | headMark {s : State} (hopen : s.openEntry.isSome = true) : WorkMove before f false .placed s false .placed s.testHeadMark
  | actOn {s : State} (hopen : s.openEntry.isSome = true) : WorkMove before f false .placed s false .placed (s.frameActedOn f)
  | drop {s : State} : WorkMove before f false .pending s false .dropped s.dropFront
  | notice {s : State} (k : NoticeKind) : WorkMove before f false .dropped s false .dropped (s.raiseNotice k)
  | gap {s : State} (lost : Nat) (cause : GapCause) : WorkMove before f false .dropped s false .dropped (s.recordGap lost cause false)
  | dropContinuation {s : State} {x : Fate} (hx : x.goesOn = true) : WorkMove before f false x s false x s.dropContinuation
  | wait {s : State} (stage : Stage) (htail : ∃ b, s.ring.blocks.head? = some b ∧ 0 < b.readsInFlight)
      (hnext : stage = .nextBlock → s.openEntry.isSome = true ∧ s.fillingBlock = none)
      (hopening : stage ≠ .nextBlock → s.openEntry = none) :
      WorkMove before f false .pending s false .waiting (s.waitAtFront stage)

/-- The moves of a working, one after another. -/
inductive Working (before : Nat) (f : Frame) (b : Bool) (x : Fate) (s : State) : (stale : Bool) → Fate → State → Prop where
  | start : Working before f b x s b x s
  | move {b' b'' : Bool} {x' x'' : Fate} {t u : State} (h : Working before f b x s b' x' t)
      (hm : WorkMove before f b' x' t b'' x'' u) : Working before f b x s b'' x'' u

namespace Working

variable {b b' b'' : Bool} {x x' x'' : Fate}

theorem one (h : WorkMove before f b x s b' x' t) : Working before f b x s b' x' t :=
  .move .start h

theorem trans (h : Working before f b x s b' x' t) (h' : Working before f b' x' t b'' x'' u) : Working before f b x s b'' x'' u := by
  induction h' with
  | start => exact h
  | move _ hm ih => exact .move ih hm

/-- What every move keeps, a working keeps. -/
theorem keeps {K : Bool → Fate → State → Prop}
    (hK : ∀ {b b' x x' s t}, K b x s → WorkMove before f b x s b' x' t → K b' x' t)
    (h : Working before f b x s b' x' t) (hs : K b x s) : K b' x' t := by
  induction h with
  | start => exact hs
  | move _ hm ih => exact hK ih hm

theorem thenMove (h : Working before f b x s b' x' t) (hm : WorkMove before f b' x' t b'' x'' u) :
    Working before f b x s b'' x'' u :=
  .move h hm

end Working

/-! ## The working of a frame, by its moves -/

/-- Closing the open segment leaves none open. -/
theorem State.closeSegment_openEntry (s : State) (reason : CloseReason) : (s.closeSegment reason).openEntry = none := by
  cases he : s.openEntry with
  | none => rw [closeSegment_of_none he, he]
  | some e =>
    have hindex := (closeSegment_eq_afterClose (s := s) (by simp [he]) reason).2.2.1
    rw [openEntry, hindex, List.find?_eq_none]
    intro x hx
    have hx' : x ∈ s.closedIndex reason := hx
    rw [closedIndex, List.mem_filter, List.mem_map] at hx'
    obtain ⟨⟨y, -, hy⟩, -⟩ := hx'
    rw [← hy]
    split
    · simp [Entry.isOpen]
    next hy => exact hy

theorem State.closeSegment_fillingBlock (h : TableForm s) (hopen : s.openEntry.isSome = true) (reason : CloseReason) :
    (s.closeSegment reason).fillingBlock = none := by
  have hring := (closeSegment_eq_afterClose hopen reason).1
  rw [fillingBlock, hring, afterClose_blocks, List.find?_eq_none]
  intro b hb
  simpa using sealedBlocks_not_filling h b hb

theorem TableForm.closeSegment (h : TableForm s) (reason : CloseReason) : TableForm (s.closeSegment reason) := by
  by_cases hopen : s.openEntry.isSome = true
  · refine TableForm.of_unsignalled ?_ (Becomes.closeSegment hopen reason).2
    refine h.afterSeal.congr ?_ ?_ ?_ ?_ <;> rfl
  · rw [State.closeSegment_of_none (by simpa using hopen)]
    exact h

/-- The segment closes, and capture enters Stopped, in a working. -/
theorem Working.closeAndStop {x : Fate} (hx : x.goesOn = true) (h : TableForm s) (hfilling : s.openEntry = none → s.fillingBlock = none)
    (close : CloseReason) {reason : StopReason} (hreason : reason ≠ .none)
    (hpending : x = .pending → s.control.capture = .stopping ∧ f.startFlag = true) :
    Working before f false x s false x.stopped (s.closeAndStop close reason) := by
  by_cases hopen : s.openEntry.isSome = true
  · have hclose : Working before f false x s false x (s.closeSegment close) :=
      .one (.close hx close hopen fun hx => (hpending hx).2)
    refine hclose.thenMove (.stop hx reason hreason (s.closeSegment_openEntry close) (State.closeSegment_fillingBlock h hopen close) ?_)
    simpa using hpending
  · have hnone : s.openEntry = none := by simpa using hopen
    rw [State.closeAndStop, State.closeSegment_of_none hnone]
    exact .one (.stop hx reason hreason hnone (hfilling hnone) hpending)

theorem State.reasonOfClose_ne (s : State) : s.reasonOfClose ≠ .none := by
  unfold reasonOfClose
  split
  · simp
  · split <;> simp

theorem Working.closeInCourse {x : Fate} (h : TableForm s) (hopen : s.openEntry.isSome = true) (hx : x = .placed) (reason : CloseReason) :
    Working before f false x s false x (s.closeInCourse reason) := by
  subst hx
  by_cases hstop : s.control.capture = .stopping
  · rw [State.closeInCourse_of_stopping hopen hstop]
    exact Working.closeAndStop rfl h (by simp [Option.isSome_iff_ne_none.mp hopen]) reason s.reasonOfClose_ne (by simp)
  · rw [State.closeInCourse_of_not_stopping _ hstop]
    exact .one (.close rfl reason hopen (by simp))

/-- Steps 5 to 8 of a working. -/
theorem Working.afterPlaced (h : TableForm s) (hopen : s.openEntry.isSome = true) :
    Working before f false .placed s false .placed (s.afterPlaced f) := by
  have hacted : Working before f false .placed s false .placed (s.frameActedOn f) := .one (.actOn hopen)
  unfold State.afterPlaced
  rw [State.frameActedOn_eq]
  have ha : TableForm (s.frameActedOn f) := h.frameActedOn f
  have hopen' : (s.frameActedOn f).openEntry.isSome = true := (s.frameActedOn_openEntry f).trans hopen
  refine hacted.trans ?_
  generalize s.frameActedOn f = a at ha hopen'
  unfold State.endFrame
  split
  · rw [State.closeInCourse_sealFull ha hopen']
    exact .closeInCourse ha hopen' rfl _
  · split
    · rw [State.closeInCourse_sealFull ha hopen']
      exact .closeInCourse ha hopen' rfl _
    · obtain hseal | hsame := a.sealFull_cases
      · rw [hseal]
        exact .one (.sealed rfl (by simp) (State.sealFilling_fillingBlock ha))
      · rw [hsame]
        exact .start

/-- The ring is brought up to date, the Head Mark is tested, and steps 5 to 8 follow. -/
theorem Working.finish (h : TableForm s) (hopen : s.openEntry.isSome = true) :
    Working before f true .placed s false .placed (((s.settleRing before).testHeadMark).afterPlaced f) := by
  have hopen' : (s.settleRing before).openEntry.isSome = true := by rwa [s.settleRing_openEntry]
  have hsettled : Working before f true .placed s false .placed (s.settleRing before) := .one (.settle rfl)
  refine (hsettled.thenMove (.headMark hopen')).trans (.afterPlaced (h.settleRing before).testHeadMark ?_)
  rwa [State.testHeadMark_openEntry]

theorem Working.exhaustLbn (h : TableForm s) (hfilling : s.openEntry = none → s.fillingBlock = none) :
    Working before f false .pending s false .dropped s.exhaustLbn := by
  rw [State.exhaustLbn_eq]
  have hdropped : Working before f false .pending s false .dropped (s.dropFront.raiseNotice .overrunLoss) :=
    (Working.one .drop).thenMove (.notice _)
  refine hdropped.trans (Working.closeAndStop (x := .dropped) rfl ?_ ?_ _ (by simp) (by simp))
  · exact h.congr (by simp) (by simp) (by simp) (by simp [State.capacity])
  · simpa [State.openEntry, State.fillingBlock] using hfilling

theorem State.openEntry_recordGap (s : State) (lost : Nat) (cause : GapCause) (mixed : Bool) :
    (s.recordGap lost cause mixed).openEntry.isSome = s.openEntry.isSome := by
  have hview := congrArg CaptureView.segmentOpen (s.recordGap_captureView lost cause mixed)
  simpa [captureView, ← openEntry_isSome] using hview

theorem State.openEntry_recordLoss (s : State) (loss : Option LossRecord) (stamp : Option Tick) :
    (s.recordLoss loss stamp).openEntry.isSome = s.openEntry.isSome := by
  have hview := congrArg CaptureView.segmentOpen (s.recordLoss_captureView loss stamp)
  simpa [captureView, ← openEntry_isSome] using hview

theorem State.overrunDrop_openEntry (s : State) (f : Frame) : (s.overrunDrop f).openEntry.isSome = s.openEntry.isSome := by
  have hdropped : (s.dropFront.raiseNotice .overrunLoss).openEntry = s.openEntry := by simp [openEntry]
  unfold overrunDrop
  split
  · rw [openEntry_recordGap, hdropped]
  · rw [← hdropped]
    rfl

theorem State.overrunDrop_ring (s : State) (f : Frame) : (s.overrunDrop f).ring = s.ring := by
  unfold overrunDrop
  split <;> simp

theorem Working.overrun (h : TableForm s) (hfilling : s.openEntry = none → s.fillingBlock = none) :
    Working before f false .pending s false .dropped (s.overrun f) := by
  have hdropped : Working before f false .pending s false .dropped (s.dropFront.raiseNotice .overrunLoss) :=
    (Working.one .drop).thenMove (.notice _)
  have hdrop : Working before f false .pending s false .dropped (s.overrunDrop f) := by
    unfold State.overrunDrop
    split
    · exact hdropped.thenMove (.gap _ _)
    · exact hdropped.thenMove (.dropContinuation rfl)
  rw [State.overrun_eq]
  split
  · refine hdrop.trans (Working.closeAndStop (x := .dropped) rfl ?_ ?_ _ (by simp) (by simp))
    · exact (h.overrunDropped f).of_unsignalled (Becomes.overrunDrop s f).2
    · intro hnone
      have hopen : s.openEntry = none := by
        have hsome := s.overrunDrop_openEntry f
        rw [hnone] at hsome
        simpa using hsome.symm
      rw [State.fillingBlock, State.overrunDrop_ring]
      exact hfilling hopen
  · exact hdrop

/-- With no segment open, an entry to Stopped that follows a drop. -/
theorem Working.stopDropped (hopen : s.openEntry = none) (hfilling : s.fillingBlock = none) {reason : StopReason} (hreason : reason ≠ .none) :
    Working before f false .dropped s false .dropped (s.enterStopped reason) :=
  .one (.stop rfl reason hreason hopen hfilling (by simp))

theorem Working.dropOpening (k : NoticeKind) :
    Working before f false .pending s false .dropped (s.dropFront.raiseNotice k).dropContinuation :=
  ((Working.one .drop).thenMove (.notice k)).thenMove (.dropContinuation rfl)

theorem Working.indexFull (hopen : s.openEntry = none) (hfilling : s.fillingBlock = none) :
    Working before f false .pending s false .dropped s.indexFull := by
  have hdrop : Working before f false .pending s false .dropped (s.dropFront.raiseNotice .indexFull).dropContinuation := .dropOpening _
  unfold State.indexFull
  dsimp only
  split
  · refine hdrop.trans (.stopDropped ((s.openingDropped_openEntry _).trans hopen) ?_ (by simp))
    simpa [State.fillingBlock] using hfilling
  · exact hdrop

/-- Where no LBN is left for the first block of a segment, Continuation ends ahead of the drop. -/
theorem Working.exhaustLbn_opening (h : TableForm s) (hfilling : s.openEntry = none → s.fillingBlock = none) :
    Working before f false .pending s false .dropped s.dropContinuation.exhaustLbn :=
  (Working.one (.dropContinuation rfl)).trans (.exhaustLbn (h.congr rfl rfl rfl rfl) hfilling)

theorem State.blockedBy.readBound_tail (h : s.tailClass = some .readBound) :
    ∃ b, s.ring.blocks.head? = some b ∧ 0 < b.readsInFlight := by
  unfold tailClass at h
  obtain ⟨b, hb, hclass⟩ := Option.map_eq_some_iff.mp h
  refine ⟨b, hb, ?_⟩
  by_contra hnone
  have hzero : b.readsInFlight = 0 := by omega
  unfold Block.classify at hclass
  rw [hzero] at hclass
  (repeat' split at hclass) <;> simp_all

theorem Working.granted {t : State} (hgranted : Granted s t) (hnone : s.fillingBlock = none) : Working before f true .pending s true .pending t := by
  cases hgranted with
  | empty => exact .start
  | left hfull hleaves => exact .one (.leaves hleaves hnone (.inr hfull))

/-- A working disposes of the frame, or leaves it waiting. -/
def Disposes (before : Nat) (f : Frame) (b : Bool) (s t : State) : Prop :=
  ∃ x, x ≠ .pending ∧ Working before f b .pending s false x t

theorem Disposes.after {b b' : Bool} (h : Working before f b .pending s b' .pending t) (h' : Disposes before f b' t u) :
    Disposes before f b s u := by
  obtain ⟨x, hx, hwork⟩ := h'
  exact ⟨x, hx, h.trans hwork⟩

/-- The next block of the open segment. -/
theorem Working.nextBlock {e : Entry} (h : TableForm s) (he : s.openEntry = some e) (hnone : s.fillingBlock = none) :
    Disposes before f false s (s.nextBlock before e f) := by
  have hfilling : s.openEntry = none → s.fillingBlock = none := fun _ => hnone
  unfold State.nextBlock
  obtain ⟨u, hanswer, hlast, hgranted⟩ | ⟨hanswer, hlast⟩ | ⟨hanswer, hblocked⟩ | ⟨hanswer, hblocked⟩ := State.requestBlock_cases h <;>
    rw [hanswer]
  · obtain ⟨g, hg, hkeeps⟩ := hgranted.openEntry
    have he' : u.openEntry = some (g e) := by rw [hg, he]; rfl
    have hopen : u.openEntry.isSome = true := by simp [he']
    obtain ⟨hnumber, harchive⟩ := hkeeps e
    have hroom := hgranted.room h
    have hfilling' := hgranted.fillingBlock hnone
    have hopened : Working before f true .pending u true .placed (u.nextBlockOpened f) :=
      .one (.openNext hopen hfilling' (hgranted.head ▸ hlast) hroom)
    have hform := (hgranted.tableForm h).nextBlockOpened hroom hfilling' f
    refine ⟨.placed, by simp, ?_⟩
    dsimp only
    rw [← hnumber, ← harchive, State.finishOpening, State.nextBlockOpened_eq he']
    exact (((Working.one .stale).trans (.granted hgranted hnone)).trans hopened).trans (.finish hform (State.nextBlockOpened_openEntry hopen f))
  · exact ⟨.dropped, by simp, .exhaustLbn h hfilling⟩
  · exact ⟨.waiting, by simp, .one (.wait .nextBlock (State.blockedBy.readBound_tail hblocked.2.2) (fun _ => ⟨by simp [he], hnone⟩) (by simp))⟩
  · exact ⟨.dropped, by simp, .overrun h hfilling⟩

/-- The first block of a segment. What the ring has come to is brought up to date before a wait or a drop. -/
theorem Working.openWithBlock (h : TableForm s) (hopen : s.openEntry = none) (hnone : s.fillingBlock = none)
    (loss : Option LossRecord) :
    Disposes before f true s (s.openWithBlock before f loss) := by
  have hsettled : Working before f true .pending s false .pending (s.settleRing before) := .one (.settle rfl)
  have hform : TableForm (s.settleRing before) := h.settleRing before
  have hopen' : (s.settleRing before).openEntry = none := (s.settleRing_openEntry before).trans hopen
  have hnone' : (s.settleRing before).fillingBlock = none := by simpa [State.fillingBlock] using hnone
  unfold State.openWithBlock
  obtain ⟨u, hanswer, hlast, hgranted⟩ | ⟨hanswer, hlast⟩ | ⟨hanswer, hblocked⟩ | ⟨hanswer, hblocked⟩ := State.requestBlock_cases h <;>
    rw [hanswer]
  · have hroom := hgranted.room h
    have hfilling' := hgranted.fillingBlock hnone
    have hopened : Working before f true .pending u true .placed (u.segmentOpened f loss) :=
      .one (.openSegment loss (hgranted.openEntry_none hopen) hfilling' (hgranted.head ▸ hlast) hroom)
    have hform' := (hgranted.tableForm h).segmentOpened hroom hfilling' f loss
    refine ⟨.placed, by simp, ?_⟩
    dsimp only
    rw [State.finishOpening, State.openSegment_eq]
    exact ((Working.granted hgranted hnone).trans hopened).trans (.finish hform' (u.segmentOpened_openEntry f loss))
  · exact ⟨.dropped, by simp, hsettled.trans (.exhaustLbn_opening hform fun _ => hnone')⟩
  · obtain ⟨b, hb, hreads⟩ := State.blockedBy.readBound_tail hblocked.2.2
    exact ⟨.waiting, by simp, hsettled.thenMove (.wait .openBlock ⟨b, by simpa using hb, hreads⟩ (by simp) fun _ => hopen')⟩
  · exact ⟨.dropped, by simp, hsettled.trans (.overrun hform fun _ => hnone')⟩

theorem Working.roomMade {t : State} (h : RoomMade s t) (hopen : s.openEntry = none) (hnone : s.fillingBlock = none) :
    Working before f true .pending s true .pending t := by
  induction h with
  | done => exact .start
  | left _ hleaves _ ih => exact (Working.one (.leaves hleaves hnone (.inl hopen))).trans (ih (hleaves.openEntry_none hopen) (hleaves.fillingBlock hnone))

/-- Room in the Segment Index, and then the first block. -/
theorem Working.openWithRoom (h : TableForm s) (hopen : s.openEntry = none) (hnone : s.fillingBlock = none) (loss : Option LossRecord) :
    Disposes before f false s (s.openWithRoom before f loss) := by
  obtain ⟨hmade, hends⟩ := State.makeRoom_made _ s le_rfl
  have hroom : Working before f false .pending s true .pending (s.makeRoom s.ring.blocks.length).state :=
    (Working.one .stale).trans (.roomMade hmade hopen hnone)
  have hform := hmade.tableForm h
  have hopen' := hmade.openEntry_none hopen
  have hnone' := hmade.fillingBlock hnone
  unfold State.openWithRoom
  cases hanswer : s.makeRoom s.ring.blocks.length with
  | made u =>
    rw [hanswer] at hroom hform hopen' hnone'
    have hx := Working.openWithBlock (before := before) (f := f) hform hopen' hnone' loss
    exact .after (hroom) hx
  | readBound u =>
    rw [hanswer] at hroom hopen' hends
    obtain ⟨b, hb, hreads⟩ := State.blockedBy.readBound_tail hends.2
    refine ⟨.waiting, by simp, (hroom.thenMove (.settle rfl)).thenMove (.wait .makeRoom ⟨b, ?_, hreads⟩ (by simp) fun _ => ?_)⟩
    · rw [State.settleRing_ring_blocks]
      exact hb
    · exact (State.settleRing_openEntry _ before).trans hopen'
  | held u =>
    rw [hanswer] at hroom hopen' hnone'
    have hopened : (u.settleRing before).openEntry = none := (u.settleRing_openEntry before).trans hopen'
    have hfilling : (u.settleRing before).fillingBlock = none := by
      rw [State.fillingBlock, State.settleRing_ring_blocks]
      exact hnone'
    exact ⟨.dropped, by simp, (hroom.thenMove (.settle rfl)).trans (.indexFull hopened hfilling)⟩

/-- The opening of a segment. -/
theorem Working.beginSegment (h : TableForm s) (hopen : s.openEntry = none) (hnone : s.fillingBlock = none) (loss : Option LossRecord) :
    Disposes before f false s (s.beginSegment before f loss) := by
  have hopen' : s.swapAtOpen.openEntry = none := s.swapAtOpen_openEntry.trans hopen
  have hnone' : s.swapAtOpen.fillingBlock = none := s.swapAtOpen_fillingBlock.trans hnone
  have hswap : Working before f false .pending s false .pending s.swapAtOpen := by
    unfold State.swapAtOpen
    split
    · exact (Working.one (.swap hopen)).thenMove .discardCarried
    · exact .start
  have heq : s.beginSegment before f loss
      = if lastSegment ≤ s.swapAtOpen.assembler.nextSegment then
          ((s.swapAtOpen.dropFront.raiseNotice .overrunLoss).dropContinuation).enterStopped .segmentNumberExhausted
        else s.swapAtOpen.openWithRoom before f loss := rfl
  rw [heq]
  split
  · refine ⟨.dropped, by simp, (hswap.trans (.dropOpening _)).trans (.stopDropped ((State.openingDropped_openEntry _ _).trans hopen') ?_ (by simp))⟩
    simpa [State.fillingBlock] using hnone'
  · have hx := Working.openWithRoom (before := before) (f := f) h.swapAtOpen hopen' hnone' loss
    exact .after (hswap) hx

theorem TableForm.payloadAppended (h : TableForm s) (b : Block) (f : Frame) : TableForm (s.payloadAppended b f) := by
  refine h.map (g := fun x => if x.lbn = b.lbn then { x with fillBytes := x.fillBytes + f.payload.length } else x) rfl rfl rfl rfl ?_ ?_
  · intro x
    split <;> rfl
  · intro x hx
    split at hx <;> exact hx

theorem State.payloadAppended_openEntry (s : State) (b : Block) (f : Frame) :
    (s.payloadAppended b f).openEntry.isSome = s.openEntry.isSome := by
  rw [openEntry_isSome, openEntry_isSome]
  refine any_isOpen_map (fun e => ?_) s.index
  split <;> rfl

/-- Step 3 of a working. -/
theorem Working.placeFrame (h : TableForm s) (hfilling : s.openEntry = none → s.fillingBlock = none)
    (hstart : s.openEntry.isSome = true → f.startFlag = false) (loss : Option LossRecord) :
    Disposes before f false s (s.placeFrame before f loss) := by
  unfold State.placeFrame
  cases he : s.openEntry with
  | none => exact Working.beginSegment h he (hfilling he) loss
  | some e =>
    have hopen : s.openEntry.isSome = true := by simp [he]
    dsimp only
    unfold State.placeInSegment
    cases hb : s.fillingBlock with
    | none => exact Working.nextBlock h he hb
    | some b =>
      dsimp only
      by_cases hfits : b.fillBytes + f.payload.length ≤ blockBytes
      · rw [if_pos hfits, State.appendPayload_eq]
        have happended : Working before f false .pending s false .placed (s.payloadAppended b f) :=
          .one (.append b hopen hb (hstart hopen) hfits)
        refine ⟨.placed, by simp, happended.trans (.afterPlaced (h.payloadAppended b f) ?_)⟩
        rw [State.payloadAppended_openEntry]
        exact hopen
      · rw [if_neg hfits]
        have hplace : s.placeOf f = (s.ring.head, 0) := by simp [State.placeOf, hb, hfits]
        have hsealed : Working before f false .pending s false .pending s.sealFilling := .one (.sealed rfl (fun _ => hplace) (State.sealFilling_fillingBlock h))
        have hopened : s.sealFilling.openEntry = some e := by simpa [State.openEntry] using he
        have hx := Working.nextBlock (before := before) (f := f) (h.afterSeal.of_unsignalled (Becomes.sealFilling s).2) hopened
          (State.sealFilling_fillingBlock h)
        exact .after (hsealed) hx

theorem TableForm.recordLoss (h : TableForm s) (loss : Option LossRecord) (stamp : Option Tick) : TableForm (s.recordLoss loss stamp) :=
  h.congr (by simp) (by simp) (by simp) (by simp [State.capacity])

/-- The working of a frame from its first step. -/
theorem Working.workFrame (h : TableForm s) (hfilling : s.openEntry = none → s.fillingBlock = none) (loss : Option LossRecord) :
    Disposes s.archiveFront f false s (s.workFrame f loss) := by
  have hloss : Working s.archiveFront f false .pending s false .pending (s.recordLoss loss f.stamp) := .one (.recordLoss loss)
  have hform := h.recordLoss loss f.stamp
  have hfilling' : (s.recordLoss loss f.stamp).openEntry = none → (s.recordLoss loss f.stamp).fillingBlock = none := by
    intro hnone
    have hsome := s.openEntry_recordLoss loss f.stamp
    rw [hnone] at hsome
    rw [State.fillingBlock, State.recordLoss_ring]
    exact hfilling (by simpa using hsome.symm)
  unfold State.workFrame
  dsimp only
  generalize s.recordLoss loss f.stamp = r at hloss hform hfilling'
  by_cases hmissing : (f.startFlag && r.openEntry.isSome) = true
  · obtain ⟨hstart, hopen⟩ := Bool.and_eq_true_iff.mp hmissing
    rw [if_pos hmissing]
    by_cases hstop : r.control.capture = .stopping
    · rw [if_pos (by simpa using hstop), State.closeInCourse_of_stopping hopen hstop]
      exact ⟨.ended, by simp, hloss.trans (Working.closeAndStop (x := .pending) rfl hform hfilling' _ r.reasonOfClose_ne fun _ => ⟨hstop, hstart⟩)⟩
    · rw [if_neg (by simpa using hstop), State.closeInCourse_of_not_stopping _ hstop]
      have hclosed : Working s.archiveFront f false .pending r false .pending (r.closeSegment .missingEnd) :=
        .one (.close rfl _ hopen fun _ => hstart)
      have hnone := r.closeSegment_openEntry .missingEnd
      have hx := Working.placeFrame (before := s.archiveFront) (f := f) (hform.closeSegment .missingEnd)
        (fun _ => State.closeSegment_fillingBlock hform hopen _) (by simp [hnone]) loss
      exact .after ((hloss.trans hclosed)) hx
  · rw [if_neg hmissing]
    have hx := Working.placeFrame (before := s.archiveFront) (f := f) hform hfilling'
      (fun hopen => by simpa [hopen] using hmissing) loss
    exact .after (hloss) hx

/-- A working that waited, from the step where it stopped. -/
theorem Working.resumeFrame (h : TableForm s) (stage : Stage) (hnext : stage = .nextBlock → s.openEntry.isSome = true)
    (hopening : stage ≠ .nextBlock → s.openEntry = none) (hnone : s.fillingBlock = none) (loss : Option LossRecord) :
    Disposes s.archiveFront f false s (s.resumeFrame stage f loss) := by
  cases stage with
  | makeRoom => exact Working.openWithRoom h (hopening (by simp)) hnone loss
  | openBlock =>
    have hx := Working.openWithBlock (before := s.archiveFront) (f := f) h (hopening (by simp)) hnone loss
    exact .after ((Working.one .stale)) hx
  | nextBlock =>
    obtain ⟨e, he⟩ := Option.isSome_iff_exists.mp (hnext rfl)
    unfold State.resumeFrame
    rw [he]
    exact Working.nextBlock h he hnone

/-! ## The grant of the admission request (R48, R153) -/

/-- The working of the front frame from where it stands. -/
def State.worked (s : State) (f : Frame) (loss : Option LossRecord) : Option Stage → State
  | none => s.workFrame f loss
  | some stage => s.resumeFrame stage f loss

theorem State.workFront_eq {loss : Option LossRecord} {rest : List IntakeItem} (hfront : s.link.intake = .frame f loss :: rest) :
    s.workFront = (s.granted.worked f loss s.assembler.stage).present := by
  have hlink : s.granted.link.intake = .frame f loss :: rest := hfront
  unfold workFront worked
  change (match s.granted.link.intake with
    | .frame f loss :: _ => State.present (match s.assembler.stage with
      | none => s.granted.workFrame f loss
      | some stage => s.granted.resumeFrame stage f loss)
    | _ => s.granted) = _
  rw [hlink]

theorem exec_admissionGrant {loss : Option LossRecord} {rest : List IntakeItem} (hadmission : s.store.admission = true)
    (hflight : s.store.inFlight.length < 3) (hfront : s.link.intake = .frame f loss :: rest) :
    exec .admissionGrant s = .next ((s.granted.beginAct.worked f loss s.assembler.stage).present).endAct := by
  have hchoice : s.beginAct.grantChoice = some .admission := by simp [State.grantChoice, hadmission, hflight]
  have hwork : s.beginAct.workFront = (s.granted.beginAct.worked f loss s.assembler.stage).present := State.workFront_eq hfront
  change Host.Outcome.next (s.act fun s => if s.grantChoice = some .admission then s.workFront else s) = _
  rw [State.act, if_pos hchoice, hwork]

/-- The Block Assembler's part of a state in form, in which a grant is made. -/
theorem State.granted_worked (hr : RingForm s) (ha : AssemblyForm s) (f : Frame) (loss : Option LossRecord) :
    Disposes s.archiveFront f false s.granted.beginAct (s.granted.beginAct.worked f loss s.assembler.stage) := by
  have hform : TableForm s.granted.beginAct := (TableForm.of_ringForm hr).congr rfl rfl rfl rfl
  obtain ⟨-, -, hfilling, -, -, -, -, hnext, hopening, -⟩ := ha
  have hnone (hopen : s.openEntry = none) : s.fillingBlock = none := by
    by_contra hsome
    simp [hopen, Option.isSome_iff_ne_none.mpr hsome] at hfilling
  cases hstage : s.assembler.stage with
  | none => exact Working.workFrame hform hnone loss
  | some stage =>
    refine Working.resumeFrame hform stage (fun h => (hnext (h ▸ hstage)).1) (fun h => hopening ?_) ?_ loss
    · cases stage <;> simp_all
    · by_cases h : stage = .nextBlock
      · exact (hnext (h ▸ hstage)).2
      · refine hnone (hopening ?_)
        cases stage <;> simp_all

end Sys2Proof.Machine

/-!
What the working of a frame leaves as it is, and the grants of the admission request (O22 to O25).
-/
namespace Sys2Proof.Machine

variable {s t u v : State} {f : Frame} {before : Nat} {es es' : List Event} {ks ks' : List NoticeKind}

/-! ## Takes that end when the ring is brought up to date -/

theorem State.endTakes_sent_subset (s : State) (st : Status) (takes : List ParkedTake) : s.sent ⊆ (s.endTakes st takes).sent := by
  rw [endTakes_sent]
  exact List.subset_append_left _ _

theorem State.testArchiveMark_sent (s : State) : s.sent ⊆ s.testArchiveMark.sent := by
  rw [testArchiveMark_eq]
  split
  · exact raise_sent s.disarmArchiveMark _
  · exact List.Subset.refl _

theorem State.settleRing_sent_subset (s : State) (before : Nat) : s.sent ⊆ (s.settleRing before).sent := by
  have banded : s.sent ⊆ s.reband.sent := s.setBand_sent _
  by_cases hfront : s.archiveFront = before
  · rw [settleRing_of_still hfront]
    exact banded
  · rw [settleRing_of_moved hfront, endDoneTakes_eq]
    exact List.Subset.trans banded (List.Subset.trans (testArchiveMark_sent _) (endTakes_sent_subset ..))

theorem TakesEnd.settleRing (s : State) (before : Nat) : TakesEnd (· = .windowDone) s (s.settleRing before) where
  sent := s.settleRing_sent_subset before
  answered k hk hgone := by
    have hends : s.settleEnds before k = true := by simpa [State.settleRing_drain, hk] using hgone
    exact ⟨_, State.settleRing_sent hk hends, rfl, rfl, rfl⟩

/-! ## What no move of a working touches -/

/-- From `s` to `t` the store's contents, the pins, the bank groups and the windows are as they were, no admission request has been placed, capture
has not left Stopped, and the parked takes that have ended are answered, with EMPTY only where capture has entered Stopped. -/
structure Undisturbed (s t : State) : Prop where
  memory : t.store.memory = s.store.memory
  pins : t.pins = s.pins
  power : t.power = s.power
  contexts : t.drain.contexts = s.drain.contexts
  admission : s.store.admission = false → t.store.admission = false
  stopped : s.control.capture = .stopped → t.control.capture = .stopped
  takes : TakesEnd (fun st => st = .ok ∨ st = .windowDone ∨ st = .empty ∧ t.control.capture = .stopped) s t

namespace Undisturbed

theorem refl (s : State) : Undisturbed s s :=
  ⟨rfl, rfl, rfl, rfl, id, id, .refl s⟩

theorem trans (h : Undisturbed s t) (h' : Undisturbed t u) : Undisturbed s u where
  memory := h'.memory.trans h.memory
  pins := h'.pins.trans h.pins
  power := h'.power.trans h.power
  contexts := h'.contexts.trans h.contexts
  admission := h'.admission ∘ h.admission
  stopped := h'.stopped ∘ h.stopped
  takes := by
    refine (h.takes.mono fun st hst => ?_).trans h'.takes
    obtain hok | hdone | ⟨hempty, hstopped⟩ := hst
    · exact .inl hok
    · exact .inr (.inl hdone)
    · exact .inr (.inr ⟨hempty, h'.stopped hstopped⟩)

/-- An act that answers takes OK or WINDOW_DONE alone. -/
theorem of_takes (hmemory : t.store.memory = s.store.memory) (hpins : t.pins = s.pins) (hpower : t.power = s.power)
    (hcontexts : t.drain.contexts = s.drain.contexts) (hadmission : t.store.admission = s.store.admission)
    (hcapture : t.control.capture = s.control.capture) (htakes : TakesEnd (fun st => st = .ok ∨ st = .windowDone) s t) : Undisturbed s t where
  memory := hmemory
  pins := hpins
  power := hpower
  contexts := hcontexts
  admission := hadmission.trans
  stopped := hcapture.trans
  takes := htakes.mono fun _ hst => hst.imp_right .inl

/-- An act of the Ring Manager or of the Block Assembler that answers no take. -/
theorem of_same (hmemory : t.store.memory = s.store.memory) (hpins : t.pins = s.pins) (hpower : t.power = s.power)
    (hdrain : t.drain = s.drain) (hadmission : t.store.admission = s.store.admission) (hcapture : t.control.capture = s.control.capture)
    (hsent : t.sent = s.sent) : Undisturbed s t :=
  of_takes hmemory hpins hpower (by rw [hdrain]) hadmission hcapture (.of_same hdrain hsent)

theorem enterStopped (s : State) (reason : StopReason) : Undisturbed s (s.enterStopped reason) where
  memory := by simp
  pins := by simp
  power := by simp
  contexts := by simp
  admission _ := by rw [(s.enterStopped_enteredStopped reason).store]
  stopped _ := by rw [(s.enterStopped_enteredStopped reason).control]
  takes := .enterStopped s reason (.inr (.inr ⟨rfl, by rw [(s.enterStopped_enteredStopped reason).control]⟩))

theorem settleRing (s : State) (before : Nat) : Undisturbed s (s.settleRing before) :=
  of_takes (by simp) (by simp) (by simp) (by simp) (by simp) (by simp) ((TakesEnd.settleRing s before).mono fun _ h => .inr h)

theorem raise (s : State) (e : Event) : Undisturbed s (s.raise e) :=
  of_takes (by simp) (by simp) (by simp) (by simp) (by simp) (by simp) (.raise s e)

/-- A change of Capture Control while capture is not Stopped. -/
theorem mapControl (hgoes : s.control.capture ≠ .stopped) (c : Control → Control) : Undisturbed s (s.mapControl c) :=
  ⟨rfl, rfl, rfl, rfl, id, fun h => absurd h hgoes, .of_same rfl rfl⟩

theorem testHeadMark (s : State) : Undisturbed s s.testHeadMark := by
  have disarmed : Undisturbed s s.disarmHeadMark := of_same rfl rfl rfl rfl rfl rfl rfl
  have fired : Undisturbed s s.headMarkFired := disarmed.trans (raise s.disarmHeadMark .headMark)
  cases hm : s.control.headMark with
  | none => 
    rw [State.testHeadMark, hm]
    exact refl s
  | some m =>
    by_cases hle : m.lbn ≤ s.ring.head
    · rw [State.testHeadMark_of_reached hm hle]
      split
      next hstop =>
        split
        · exact fired.trans (mapControl (by simp [State.headMarkFired, State.disarmHeadMark, hstop.2]) _)
        · exact fired.trans (enterStopped _ _)
      next => exact fired
    · rw [State.testHeadMark_of_above hm (not_le.mp hle)]
      exact refl s

end Undisturbed

theorem WorkMove.undisturbed {b b' : Bool} {x x' : Fate} (h : WorkMove before f b x s b' x' t) : Undisturbed s t := by
  cases h with
  | recordLoss => exact .of_same (by simp) (by simp) (by simp) (by simp) (by simp) (by simp) (by simp)
  | sealed => exact .of_takes (by simp) (by simp) (by simp) (by simp) (by simp) (by simp) (.sealFilling s (.inl rfl))
  | close _ reason => exact .of_takes (by simp) (by simp) (by simp) (by simp) (by simp) (by simp) (.closeSegment s reason (.inl rfl))
  | stop _ reason => exact .enterStopped s reason
  | swap => exact .of_takes (by simp) (by simp) (by simp) (by simp) (by simp) (by simp) (.of_drain (by simp) s.activate_sent)
  | discardCarried => exact .of_same rfl rfl rfl rfl rfl rfl rfl
  | stale => exact .refl s
  | leaves hleaves => cases hleaves <;> exact .of_same (by simp) (by simp) (by simp) (by simp) (by simp) (by simp) (by simp)
  | settle => exact .settleRing s before
  | openSegment => exact .of_same rfl rfl rfl rfl rfl rfl rfl
  | openNext hopen => 
    obtain ⟨e, he⟩ := Option.isSome_iff_exists.mp hopen
    rw [← State.nextBlockOpened_eq he]
    exact .of_same rfl rfl rfl rfl rfl rfl rfl
  | append => exact .of_same rfl rfl rfl rfl rfl rfl rfl
  | headMark => exact .testHeadMark s
  | actOn => exact .of_same rfl rfl rfl rfl rfl rfl rfl
  | drop => exact .of_same (by simp) (by simp) (by simp) (by simp) (by simp) (by simp) (by simp)
  | notice => exact .of_same (by simp) (by simp) (by simp) (by simp) (by simp) (by simp) (by simp)
  | gap => exact .of_same (by simp) (by simp) (by simp) (by simp) (by simp) (by simp) (by simp)
  | dropContinuation => exact .of_same rfl rfl rfl rfl rfl rfl rfl
  | wait => exact .of_same rfl rfl rfl rfl rfl rfl rfl

theorem Working.undisturbed {b b' : Bool} {x x' : Fate} (h : Working before f b x s b' x' t) : Undisturbed s t :=
  h.keeps (K := fun _ _ u => Undisturbed s u) (fun hs hm => hs.trans hm.undisturbed) (.refl s)

/-! ## A relation of an act does not depend on the responses of the act before -/

theorem Signalled.of_beginAct (h : Signalled s.beginAct t es ks) : Signalled s t es ks := by
  obtain ⟨flags, pending, mask, links, slots⟩ := h
  have hport (p : Port) : s.beginAct.port p = s.port p := by cases p <;> rfl
  simp only [hport] at pending mask links
  refine ⟨flags, pending, mask, links, fun p x => ?_⟩
  have hslots := slots p x
  rw [hport] at hslots
  exact hslots

theorem Becomes.of_beginAct (h : Becomes s.beginAct t u es ks) (hu : v.unsignalled = u.unsignalled) : Becomes s t v es ks :=
  ⟨h.1.of_beginAct, h.2.trans hu.symm⟩

/-- The end of an act changes the responses alone. -/
theorem Signalled.endAct (h : Signalled s t es ks) : Signalled s t.endAct es ks :=
  h.of_ports rfl fun p => by cases p <;> rfl

theorem Becomes.endAct (h : Becomes s t u es ks) : Becomes s t.endAct u es ks :=
  ⟨h.1.endAct, h.2⟩

theorem StoppedAtOnce.of_beginAct {close : CloseReason} {reason : StopReason} (h : StoppedAtOnce s.beginAct t close reason) :
    StoppedAtOnce s t close reason :=
  h.congr rfl rfl fun x hx => ⟨x, hx, rfl, rfl, rfl⟩

theorem State.afterSeal_beginAct (s : State) : s.beginAct.afterSeal.unsignalled = s.afterSeal.unsignalled := by
  have hfilling : s.beginAct.fillingBlock = s.fillingBlock := rfl
  have hblocks : s.beginAct.sealedBlocks = s.sealedBlocks := rfl
  unfold afterSeal
  rw [hfilling, hblocks]
  cases s.fillingBlock <;> rfl

theorem State.afterClose_beginAct (s : State) (reason : CloseReason) :
    (s.beginAct.afterClose reason).unsignalled = (s.afterClose reason).unsignalled := by
  have hfilling : s.beginAct.fillingBlock = s.fillingBlock := rfl
  have hblocks : s.beginAct.sealedBlocks = s.sealedBlocks := rfl
  unfold afterClose afterSeal
  rw [hfilling, hblocks]
  cases s.fillingBlock <;> rfl

theorem ClosedInCourse.of_beginAct {reason : CloseReason} (h : ClosedInCourse s.beginAct t reason) : ClosedInCourse s t reason := by
  refine ⟨fun hstop => ?_, fun hgoes => ?_⟩
  · obtain ⟨hs, hsig⟩ := h.1 hstop
    exact ⟨hs.of_beginAct, hsig.of_beginAct⟩
  · exact (h.2 hgoes).of_beginAct (s.afterClose_beginAct reason).symm

theorem Finished.of_beginAct (h : Finished s.beginAct t f) : Finished s t f := by
  obtain ⟨hend, hslice, hfull, hgoes⟩ := h
  refine ⟨fun h1 => ?_, fun h1 h2 => ?_, fun h1 h2 h3 => ?_, fun h1 h2 h3 => ?_⟩
  · exact ClosedInCourse.of_beginAct (s := s.frameActedOn f) (hend h1)
  · exact ClosedInCourse.of_beginAct (s := s.frameActedOn f) (hslice h1 h2)
  · exact Becomes.of_beginAct (s := s.frameActedOn f) (hfull h1 h2 h3) (State.afterSeal_beginAct _).symm
  · exact Becomes.of_beginAct (s := s.frameActedOn f) (hgoes h1 h2 h3) rfl

theorem BandedAfresh.of_beginAct (h : BandedAfresh s.beginAct t) : BandedAfresh s t :=
  h.congr rfl rfl rfl rfl rfl

theorem SwapTaken.of_beginAct (h : SwapTaken s.beginAct t) : SwapTaken s t := by
  refine ⟨fun hno => (h.1 hno).of_beginAct rfl, fun hpending => ?_⟩
  obtain ⟨hband, hdata⟩ := h.2 hpending
  exact ⟨hband.of_beginAct, hdata.of_beginAct rfl⟩

theorem Opens.of_beginAct {loss : Option LossRecord} (h : Opens before s.beginAct t f loss) : Opens before s t f loss := by
  obtain ⟨u, hswap, hrest⟩ := h
  exact ⟨u, hswap.of_beginAct, hrest⟩

theorem RingSettled.of_beginAct (h : RingSettled before s.beginAct t) : RingSettled before s t := by
  obtain ⟨⟨hband, hlink⟩, hdata⟩ := h
  exact ⟨⟨hband, hlink⟩, hdata.of_beginAct rfl⟩

theorem TailLeft.of_beginAct (h : TailLeft s.beginAct t) : TailLeft s t := by
  obtain ⟨b, hb, ⟨hclass, hdata⟩ | ⟨hclass, hdata⟩⟩ := h
  · exact ⟨b, hb, .inl ⟨hclass, hdata.of_beginAct rfl⟩⟩
  · exact ⟨b, hb, .inr ⟨hclass, hdata.of_beginAct rfl⟩⟩

theorem BlockGranted.of_beginAct (h : BlockGranted s.beginAct t) : BlockGranted s t := by
  obtain ⟨hlast, ⟨hroom, hdata⟩ | ⟨hfull, hleft⟩⟩ := h
  · exact ⟨hlast, .inl ⟨hroom, hdata.of_beginAct rfl⟩⟩
  · exact ⟨hlast, .inr ⟨hfull, hleft.of_beginAct⟩⟩

theorem RoomSought.of_beginAct (h : RoomSought s.beginAct t) : RoomSought s t := by
  cases h with
  | ended hdata => exact .ended (hdata.of_beginAct rfl)
  | left hfull hleft hrest => exact .left hfull hleft.of_beginAct hrest

theorem Waits.of_beginAct {stage : Stage} (h : Waits s.beginAct t stage) : Waits s t stage :=
  Becomes.of_beginAct h rfl

theorem EndsAtDrop.of_beginAct {close : CloseReason} {reason : StopReason} {kind : NoticeKind}
    (h : EndsAtDrop s.beginAct u.beginAct t close reason kind) : EndsAtDrop s u t close reason kind :=
  ⟨h.1.of_beginAct, h.2.of_beginAct⟩

theorem State.overrunDropped_beginAct (s : State) (f : Frame) : s.beginAct.overrunDropped f = (s.overrunDropped f).beginAct := by
  have hopen : s.beginAct.openEntry = s.openEntry := rfl
  unfold overrunDropped
  rw [hopen]
  cases s.openEntry <;> rfl

theorem Overrun.of_beginAct (h : Overrun s.beginAct t f) : Overrun s t f := by
  unfold Overrun at h
  rw [s.overrunDropped_beginAct] at h
  exact ⟨fun hgoes => (h.1 hgoes).of_beginAct rfl, fun hstop => (h.2 hstop).of_beginAct⟩

theorem NextBlock.of_beginAct (h : NextBlock before s.beginAct t f) : NextBlock before s t f := by
  obtain ⟨hlast, hends⟩ | ⟨u, hgranted, hrest⟩ | ⟨hblocked, hwaits⟩ | ⟨hblocked, hover⟩ := h
  · exact .inl ⟨hlast, EndsAtDrop.of_beginAct (u := s.frameDropped) hends⟩
  · exact .inr (.inl ⟨u, hgranted.of_beginAct, hrest⟩)
  · exact .inr (.inr (.inl ⟨hblocked, hwaits.of_beginAct⟩))
  · exact .inr (.inr (.inr ⟨hblocked, hover.of_beginAct⟩))

theorem OpensWithBlock.of_beginAct {loss : Option LossRecord} (h : OpensWithBlock before s.beginAct t f loss) :
    OpensWithBlock before s t f loss := by
  obtain ⟨hlast, u, hsettled, hrest⟩ | ⟨u, hgranted, hrest⟩ | ⟨hblocked, u, hsettled, hrest⟩ | ⟨hblocked, u, hsettled, hrest⟩ := h
  · exact .inl ⟨hlast, u, hsettled.of_beginAct, hrest⟩
  · exact .inr (.inl ⟨u, hgranted.of_beginAct, hrest⟩)
  · exact .inr (.inr (.inl ⟨hblocked, u, hsettled.of_beginAct, hrest⟩))
  · exact .inr (.inr (.inr ⟨hblocked, u, hsettled.of_beginAct, hrest⟩))

theorem OpensWithRoom.of_beginAct {loss : Option LossRecord} (h : OpensWithRoom before s.beginAct t f loss) :
    OpensWithRoom before s t f loss := by
  obtain ⟨u, hsought, hrest⟩ := h
  exact ⟨u, hsought.of_beginAct, hrest⟩

/-! ## The grants -/

theorem Presented.endAct (h : Presented s t) : Presented s t.endAct :=
  Becomes.endAct h

theorem State.recordLoss_beginAct (s : State) (loss : Option LossRecord) (stamp : Option Tick) :
    s.beginAct.recordLoss loss stamp = (s.recordLoss loss stamp).beginAct := by
  have hopen : s.beginAct.openEntry = s.openEntry := rfl
  have hgap (a : State) (lost : Nat) (cause : GapCause) (mixed : Bool) :
      a.beginAct.recordGap lost cause mixed = (a.recordGap lost cause mixed).beginAct := by
    have hopen : a.beginAct.openEntry = a.openEntry := rfl
    unfold recordGap
    rw [hopen]
    cases a.openEntry <;> rfl
  unfold recordLoss
  rw [hopen]
  cases loss with
  | none => rfl
  | some r =>
    cases s.openEntry with
    | none => rfl
    | some e => exact hgap (s.mapOpen fun x => { x with stampConflict := x.stampConflict || (e.lossOf r stamp).2 }) _ _ _

/-- A grant works the front frame and presents the next item (R48, R153). -/
theorem exec_grant {loss : Option LossRecord} {rest : List IntakeItem} (hadmission : s.store.admission = true)
    (hflight : s.store.inFlight.length < 3) (hfront : s.link.intake = .frame f loss :: rest)
    (hworking : Disposes s.archiveFront f false s.granted.beginAct (s.granted.beginAct.worked f loss s.assembler.stage)) :
    ∃ t, exec .admissionGrant s = .next t ∧ Presented (s.granted.beginAct.worked f loss s.assembler.stage) t := by
  obtain ⟨x, -, hx⟩ := hworking
  exact ⟨_, exec_admissionGrant hadmission hflight hfront, (Presented.present _ (hx.undisturbed.admission rfl)).endAct⟩

/-! ## Where a working goes (R49, R50) -/

section
variable {loss : Option LossRecord} {e : Entry} {b : Block}

theorem State.workFrame_of_goesOn (h : (f.startFlag && (s.recordLoss loss f.stamp).openEntry.isSome) = false) :
    s.workFrame f loss = (s.recordLoss loss f.stamp).placeFrame s.archiveFront f loss := by
  unfold workFrame
  dsimp only
  rw [if_neg (by simp [h])]

theorem State.workFrame_of_missingEnd (hstart : f.startFlag = true) (hopen : (s.recordLoss loss f.stamp).openEntry.isSome = true) :
    s.workFrame f loss
      = if (s.recordLoss loss f.stamp).control.capture = .stopping then
          (s.recordLoss loss f.stamp).closeAndStop .missingEnd (s.recordLoss loss f.stamp).reasonOfClose
        else ((s.recordLoss loss f.stamp).closeSegment .missingEnd).placeFrame s.archiveFront f loss := by
  unfold workFrame
  dsimp only
  rw [if_pos (by simp [hstart, hopen])]
  by_cases hstop : (s.recordLoss loss f.stamp).control.capture = .stopping
  · rw [if_pos (by simpa using hstop), if_pos hstop, closeInCourse_of_stopping hopen hstop]
  · rw [if_neg (by simpa using hstop), if_neg hstop, closeInCourse_of_not_stopping _ hstop]

theorem State.placeFrame_of_none (h : s.openEntry = none) : s.placeFrame before f loss = s.beginSegment before f loss := by
  rw [placeFrame, h]

theorem State.placeFrame_of_fits (he : s.openEntry.isSome = true) (hb : s.fillingBlock = some b)
    (hfits : b.fillBytes + f.payload.length ≤ blockBytes) :
    s.placeFrame before f loss = (s.payloadAppended b f).afterPlaced f := by
  obtain ⟨e, he⟩ := Option.isSome_iff_exists.mp he
  rw [placeFrame, he]
  dsimp only
  rw [placeInSegment, hb]
  dsimp only
  rw [if_pos hfits, appendPayload_eq]

/-- The Filling block, if there is one, is sealed before a new block is asked for. -/
theorem State.placeFrame_of_full (he : s.openEntry = some e) (hfull : ∀ b ∈ s.fillingBlock, blockBytes < b.fillBytes + f.payload.length) :
    s.placeFrame before f loss = s.sealFilling.nextBlock before e f := by
  rw [placeFrame, he]
  dsimp only
  rw [placeInSegment]
  cases hb : s.fillingBlock with
  | none => rw [sealFilling_of_none hb]
  | some b =>
    dsimp only
    rw [if_neg (not_le.mpr (hfull b hb))]

theorem State.recordLoss_of_none (h : s.openEntry = none) (stamp : Option Tick) : s.recordLoss loss stamp = s := by
  unfold recordLoss
  rw [h]
  cases loss <;> rfl

theorem State.recordLoss_fillingBlock (s : State) (loss : Option LossRecord) (stamp : Option Tick) :
    (s.recordLoss loss stamp).fillingBlock = s.fillingBlock := by
  rw [fillingBlock, recordLoss_ring, fillingBlock]

end

theorem TableForm.granted (hr : RingForm s) : TableForm s.granted.beginAct :=
  (TableForm.of_ringForm hr).congr rfl rfl rfl rfl

/-- The second part of O22: the payload joins the Filling block, and steps 5 to 8 follow. -/
theorem exec_grant_appends {loss : Option LossRecord} {rest : List IntakeItem} {b : Block} (hadmission : s.store.admission = true)
    (hflight : s.store.inFlight.length < 3) (hstage : s.assembler.stage = none) (hfront : s.link.intake = .frame f loss :: rest)
    (hopen : s.openEntry.isSome = true) (hb : s.fillingBlock = some b) (hstart : f.startFlag = false)
    (hfits : b.fillBytes + f.payload.length ≤ blockBytes) (hr : RingForm s) :
    ∃ t u : State, exec .admissionGrant s = .next t ∧ Finished ((s.granted.recordLoss loss f.stamp).payloadAppended b f) u f
      ∧ Presented u t := by
  have hform := TableForm.granted hr
  have hworking := Working.workFrame (f := f) hform (by simp [show s.granted.beginAct.openEntry = s.openEntry from rfl,
    Option.isSome_iff_ne_none.mp hopen]) loss
  obtain ⟨t, ht, hpresented⟩ := exec_grant hadmission hflight hfront (by rw [hstage]; exact hworking)
  refine ⟨t, _, ht, ?_, hpresented⟩
  have hopen' : (s.granted.beginAct.recordLoss loss f.stamp).openEntry.isSome = true :=
    (s.granted.beginAct.openEntry_recordLoss loss f.stamp).trans hopen
  have hb' : (s.granted.beginAct.recordLoss loss f.stamp).fillingBlock = some b :=
    (s.granted.beginAct.recordLoss_fillingBlock loss f.stamp).trans hb
  have hworked : s.granted.beginAct.worked f loss s.assembler.stage
      = ((s.granted.beginAct.recordLoss loss f.stamp).payloadAppended b f).afterPlaced f := by
    rw [hstage, State.worked, State.workFrame_of_goesOn (by simp [hstart]), State.placeFrame_of_fits hopen' hb' hfits]
  rw [hworked]
  have hfinished := Finished.afterPlaced ((hform.recordLoss loss f.stamp).payloadAppended b f)
    ((State.payloadAppended_openEntry _ b f).trans hopen') f
  rw [State.recordLoss_beginAct] at hfinished ⊢
  exact Finished.of_beginAct (s := (s.granted.recordLoss loss f.stamp).payloadAppended b f) hfinished

/-- The second part of O23: a frame with no segment open goes through the steps of R55. -/
theorem exec_grant_opens {loss : Option LossRecord} {rest : List IntakeItem} (hadmission : s.store.admission = true)
    (hflight : s.store.inFlight.length < 3) (hstage : s.assembler.stage = none) (hfront : s.link.intake = .frame f loss :: rest)
    (hopen : s.openEntry = none) (hr : RingForm s) (ha : AssemblyForm s) :
    ∃ t u : State, exec .admissionGrant s = .next t ∧ Opens s.archiveFront s.granted u f loss ∧ Presented u t := by
  have hnone : s.fillingBlock = none := by
    obtain ⟨-, -, hfilling, -⟩ := ha
    by_contra hsome
    simp [hopen, Option.isSome_iff_ne_none.mpr hsome] at hfilling
  obtain ⟨t, ht, hpresented⟩ := exec_grant hadmission hflight hfront (State.granted_worked hr ha f loss)
  refine ⟨t, _, ht, ?_, hpresented⟩
  have hloss : s.granted.beginAct.recordLoss loss f.stamp = s.granted.beginAct :=
    State.recordLoss_of_none (s := s.granted.beginAct) hopen _
  have hworked : s.granted.beginAct.worked f loss s.assembler.stage = s.granted.beginAct.beginSegment s.archiveFront f loss := by
    have hopen' : s.granted.beginAct.openEntry = none := hopen
    rw [hstage, State.worked, State.workFrame_of_goesOn (by simp [hloss, hopen']), hloss, State.placeFrame_of_none hopen']
    rfl
  rw [hworked]
  exact (Opens.beginSegment (TableForm.granted hr) hopen hnone s.archiveFront f loss).of_beginAct

/-- The second part of O24: a frame that the Filling block has no room for asks for a new block. -/
theorem exec_grant_next {loss : Option LossRecord} {rest : List IntakeItem} {r : State} (hadmission : s.store.admission = true)
    (hflight : s.store.inFlight.length < 3) (hstage : s.assembler.stage = none) (hfront : s.link.intake = .frame f loss :: rest)
    (hopen : s.openEntry.isSome = true) (hstart : f.startFlag = false)
    (hfull : ∀ b ∈ s.fillingBlock, blockBytes < b.fillBytes + f.payload.length) (hr : RingForm s) (ha : AssemblyForm s)
    (heq : r = s.granted.recordLoss loss f.stamp) :
    ∃ t u v : State, exec .admissionGrant s = .next t ∧ Becomes r u r.afterSeal r.sealEvents []
      ∧ NextBlock s.archiveFront u v f ∧ Presented v t := by
  subst heq
  obtain ⟨t, ht, hpresented⟩ := exec_grant hadmission hflight hfront (State.granted_worked hr ha f loss)
  have hform : TableForm (s.granted.recordLoss loss f.stamp).beginAct := by
    rw [← State.recordLoss_beginAct]
    exact (TableForm.granted hr).recordLoss loss f.stamp
  have hopen' : (s.granted.recordLoss loss f.stamp).beginAct.openEntry.isSome = true :=
    (s.granted.openEntry_recordLoss loss f.stamp).trans hopen
  have hfull' : ∀ b ∈ (s.granted.recordLoss loss f.stamp).beginAct.fillingBlock, blockBytes < b.fillBytes + f.payload.length := by
    have hsame : (s.granted.recordLoss loss f.stamp).beginAct.fillingBlock = s.fillingBlock := s.granted.recordLoss_fillingBlock loss f.stamp
    rw [hsame]
    exact hfull
  obtain ⟨e, he⟩ := Option.isSome_iff_exists.mp hopen'
  have hworked : s.granted.beginAct.worked f loss s.assembler.stage
      = (s.granted.recordLoss loss f.stamp).beginAct.sealFilling.nextBlock s.archiveFront e f := by
    rw [hstage, State.worked, State.workFrame_of_goesOn (by simp [hstart]), State.recordLoss_beginAct, State.placeFrame_of_full he hfull']
    rfl
  rw [hworked] at hpresented
  generalize s.granted.recordLoss loss f.stamp = r at *
  have hsealed := Becomes.sealFilling r.beginAct
  refine ⟨t, r.beginAct.sealFilling, _, ht, hsealed.of_beginAct r.afterSeal_beginAct.symm, ?_, hpresented⟩
  refine .nextBlock (hform.afterSeal.of_unsignalled hsealed.2) ?_ (State.sealFilling_fillingBlock hform) _ _
  simpa [State.openEntry] using he

/-- The second part of O25: a Start flag finds a segment open. -/
theorem exec_grant_missingEnd {loss : Option LossRecord} {rest : List IntakeItem} {r : State} (hadmission : s.store.admission = true)
    (hflight : s.store.inFlight.length < 3) (hstage : s.assembler.stage = none) (hfront : s.link.intake = .frame f loss :: rest)
    (hstart : f.startFlag = true) (hopen : s.openEntry.isSome = true) (hr : RingForm s) (ha : AssemblyForm s)
    (heq : r = s.granted.recordLoss loss f.stamp) :
    ∃ t u : State, exec .admissionGrant s = .next t ∧ Presented u t
      ∧ (s.control.capture = .stopping → StoppedAtOnce r u .missingEnd r.reasonOfClose ∧ Signalled r u (r.stopEvents u) [])
      ∧ (s.control.capture ≠ .stopping →
          ∃ m : State, Becomes r m (r.afterClose .missingEnd) r.closeEvents [] ∧ Opens s.archiveFront m u f loss) := by
  subst heq
  obtain ⟨t, ht, hpresented⟩ := exec_grant hadmission hflight hfront (State.granted_worked hr ha f loss)
  have hform : TableForm (s.granted.recordLoss loss f.stamp).beginAct := by
    rw [← State.recordLoss_beginAct]
    exact (TableForm.granted hr).recordLoss loss f.stamp
  have hopen' : (s.granted.recordLoss loss f.stamp).beginAct.openEntry.isSome = true :=
    (s.granted.openEntry_recordLoss loss f.stamp).trans hopen
  have hcapture : (s.granted.recordLoss loss f.stamp).beginAct.control.capture = s.control.capture := by
    have hcontrol := s.granted.recordLoss_control loss f.stamp
    exact congrArg Control.capture hcontrol
  have hworked : s.granted.beginAct.worked f loss s.assembler.stage = s.granted.beginAct.workFrame f loss := by
    rw [hstage]
    rfl
  have hopenLoss : (s.granted.beginAct.recordLoss loss f.stamp).openEntry.isSome = true :=
    (s.granted.beginAct.openEntry_recordLoss loss f.stamp).trans hopen
  rw [hworked, State.workFrame_of_missingEnd hstart hopenLoss, State.recordLoss_beginAct] at hpresented
  refine ⟨t, _, ht, hpresented, ?_⟩
  generalize s.granted.recordLoss loss f.stamp = r at *
  refine ⟨fun hstop => ?_, fun hgoes => ?_⟩
  · rw [if_pos (hcapture.trans hstop)]
    exact ⟨(State.closeAndStop_stoppedAtOnce hform.distinct _ _).of_beginAct, (Signalled.closeAndStop r.beginAct _ _).of_beginAct⟩
  · rw [if_neg (by rwa [hcapture])]
    have hclosed := Becomes.closeSegment hopen' .missingEnd
    have hnone := r.beginAct.closeSegment_openEntry .missingEnd
    refine ⟨_, hclosed.of_beginAct (r.afterClose_beginAct _).symm, ?_⟩
    rw [State.placeFrame_of_none hnone]
    exact .beginSegment (hform.closeSegment _) hnone (State.closeSegment_fillingBlock hform hopen' _) _ _ _

/-- The third part of O25: a working that waited resumes at its step. -/
theorem exec_grant_resumes {loss : Option LossRecord} {rest : List IntakeItem} {stage : Stage} (hadmission : s.store.admission = true)
    (hflight : s.store.inFlight.length < 3) (hstage : s.assembler.stage = some stage) (hfront : s.link.intake = .frame f loss :: rest)
    (hr : RingForm s) (ha : AssemblyForm s) :
    ∃ t u : State, exec .admissionGrant s = .next t ∧ Presented u t
      ∧ (stage = .makeRoom → OpensWithRoom s.archiveFront s.granted u f loss)
      ∧ (stage = .openBlock → OpensWithBlock s.archiveFront s.granted u f loss)
      ∧ (stage = .nextBlock → NextBlock s.archiveFront s.granted u f) := by
  obtain ⟨t, ht, hpresented⟩ := exec_grant hadmission hflight hfront (State.granted_worked hr ha f loss)
  refine ⟨t, _, ht, hpresented, ?_⟩
  have hform := TableForm.granted hr
  obtain ⟨-, -, hfilling, -, -, -, -, hnext, hopening, -⟩ := ha
  have hnone (hopen : s.openEntry = none) : s.fillingBlock = none := by
    by_contra hsome
    simp [hopen, Option.isSome_iff_ne_none.mpr hsome] at hfilling
  rw [hstage]
  refine ⟨fun h => ?_, fun h => ?_, fun h => ?_⟩ <;> subst h
  · have hopen := hopening (.inl hstage)
    exact (OpensWithRoom.openWithRoom hform hopen (hnone hopen) s.archiveFront f loss).of_beginAct
  · have hopen := hopening (.inr hstage)
    exact (OpensWithBlock.openWithBlock hform (hnone hopen) s.archiveFront f loss).of_beginAct
  · obtain ⟨hopen, hsealed⟩ := hnext hstage
    obtain ⟨e, he⟩ := Option.isSome_iff_exists.mp hopen
    have he' : s.granted.beginAct.openEntry = some e := he
    have hworked : s.granted.beginAct.worked f loss (some .nextBlock) = s.granted.beginAct.nextBlock s.archiveFront e f := by
      rw [State.worked, State.resumeFrame, he']
      rfl
    rw [hworked]
    exact (NextBlock.nextBlock hform he' hsealed s.archiveFront f).of_beginAct

end Sys2Proof.Machine

/-!
The grants whose whole effect is written out: the plain append, the plain opening, and the Tail block of a full ring by its class (O22 to O24).
-/
namespace Sys2Proof.Machine

variable {s t u v : State} {f : Frame} {before : Nat} {es es' : List Event} {ks ks' : List NoticeKind}

/-! ## A frame after which nothing closes and no block is full -/

/-- Steps 7 and 8 do nothing for a frame without the End flag that leaves the slice counter above 0 and the block with room (R49). -/
theorem State.afterPlaced_of_plain (hend : f.endFlag = false) (hslice : ¬ (s.frameActedOn f).sliceReached)
    (hfull : ¬ (s.frameActedOn f).blockFull) : s.afterPlaced f = s.frameActedOn f := by
  have hseal : (s.frameActedOn f).sealFull = s.frameActedOn f := by
    unfold sealFull
    split
    next b hb => exact if_neg fun hle => hfull ⟨b, hb, hle⟩
    · rfl
  rw [afterPlaced, frameActedOn_eq, hseal, endFrame, if_neg (by simp [hend]), if_neg ((sliceDue_iff _).not.mpr hslice)]

/-- The slice counter of the open segment decreases by the frame's points (R70). -/
theorem State.frameActedOn_sliceCounter {e : Entry} (he : s.openEntry = some e) (f : Frame) :
    (s.frameActedOn f).assembler.sliceCounter = s.assembler.sliceCounter.map fun c => c - ((f.payload.length / e.bpp : Nat) : Int) := by
  simp [frameActedOn, he]

theorem State.frameActedOn_assembler {e : Entry} (he : s.openEntry = some e) (f : Frame) :
    (s.frameActedOn f).assembler
      = { s.assembler with
          sliceCounter := s.assembler.sliceCounter.map fun c => c - ((f.payload.length / e.bpp : Nat) : Int)
          idleFlush := if s.control.active.idleFlushTime = 0 then none else some s.control.active.idleFlushTime } := by
  simp [frameActedOn, he]

theorem State.frameActedOn_not_slice {e : Entry} (he : s.openEntry = some e)
    (hc : ∀ c ∈ s.assembler.sliceCounter, ((f.payload.length / e.bpp : Nat) : Int) < c) : ¬ (s.frameActedOn f).sliceReached := by
  rintro ⟨c, hmem, hle⟩
  rw [frameActedOn_sliceCounter he] at hmem
  obtain ⟨d, hd, rfl⟩ := Option.map_eq_some_iff.mp hmem
  have := hc d hd
  omega

theorem State.blockFull_of_filling {b : Block} (hb : s.fillingBlock = some b) (hroom : b.fillBytes < blockBytes) : ¬ s.blockFull := by
  rintro ⟨x, hx, hle⟩
  obtain rfl : b = x := Option.some.inj (hb.symm.trans hx)
  omega

theorem State.payloadAppended_fillingBlock {b : Block} (hb : s.fillingBlock = some b) (f : Frame) :
    (s.payloadAppended b f).fillingBlock = some { b with fillBytes := b.fillBytes + f.payload.length } := by
  have hmap : (s.payloadAppended b f).fillingBlock
      = (s.ring.blocks.map fun x => if x.lbn = b.lbn then { x with fillBytes := x.fillBytes + f.payload.length } else x).find?
          fun x => decide (x.state = .filling) := rfl
  have hsame : s.ring.blocks.find? ((fun x => decide (x.state = .filling)) ∘ fun x =>
      if x.lbn = b.lbn then { x with fillBytes := x.fillBytes + f.payload.length } else x) = some b := by
    rw [← hb]
    refine List.find?_congr fun x _ => ?_
    simp only [Function.comp_apply]
    split <;> rfl
  rw [hmap, List.find?_map, hsame]
  simp

/-- The open entry after a change of the open entry. -/
theorem openEntry_map {g : Entry → Entry} {e : Entry} (he : s.openEntry = some e) (hg : ∀ e, (g e).isOpen = e.isOpen)
    (hindex : t.index = s.index.map fun e => if e.isOpen then g e else e) : t.openEntry = some (g e) := by
  have hopen : e.isOpen = true := List.find?_some he
  rw [State.openEntry, hindex, find?_isOpen_map, ← State.openEntry, he]
  · simp [hopen]
  · intro e
    split <;> simp [hg]

/-- The entries once a payload has been counted in the open one and its trigger acted on (R62, R64). -/
theorem State.placed_index (index : List Entry) (f : Frame) :
    ((index.map fun e => if e.isOpen then { e with byteLength := e.byteLength + f.payload.length } else e).map fun e =>
        if e.isOpen = true ∧ f.triggerFlag = true then e.recordTrigger f ((e.byteLength - f.payload.length) / e.bpp) else e)
      = index.map fun x =>
          if x.isOpen then
            if f.triggerFlag then
              Entry.recordTrigger { x with byteLength := x.byteLength + f.payload.length } f (x.byteLength / x.bpp)
            else { x with byteLength := x.byteLength + f.payload.length }
          else x := by
  rw [List.map_map]
  refine List.map_congr_left fun e _ => ?_
  by_cases ho : e.isOpen = true
  · cases ht : f.triggerFlag <;> simp_all [Entry.isOpen]
  · simp [ho]

/-- The plain append (O22). -/
theorem exec_grant_plain_append {rest : List IntakeItem} {e : Entry} {b : Block} (hadmission : s.store.admission = true)
    (hflight : s.store.inFlight.length < 3) (hstage : s.assembler.stage = none) (hfront : s.link.intake = .frame f none :: rest)
    (he : s.openEntry = some e) (hb : s.fillingBlock = some b) (hstart : f.startFlag = false) (hend : f.endFlag = false)
    (hroom : b.fillBytes + f.payload.length < blockBytes)
    (hslice : ∀ c ∈ s.assembler.sliceCounter, ((f.payload.length / e.bpp : Nat) : Int) < c) :
    exec .admissionGrant s = .next (((s.granted.payloadAppended b f).frameActedOn f).present).silent := by
  have hopen : s.granted.beginAct.openEntry.isSome = true := by
    have hsame : s.granted.beginAct.openEntry = s.openEntry := rfl
    simp [hsame, he]
  have happended : (s.granted.beginAct.payloadAppended b f).openEntry = some { e with byteLength := e.byteLength + f.payload.length } :=
    openEntry_map (s := s) (g := fun e => { e with byteLength := e.byteLength + f.payload.length }) he (fun _ => rfl) rfl
  have hfilling := State.payloadAppended_fillingBlock (s := s.granted.beginAct) (b := b) hb f
  have hplain : (s.granted.beginAct.payloadAppended b f).afterPlaced f = (s.granted.beginAct.payloadAppended b f).frameActedOn f :=
    State.afterPlaced_of_plain hend (State.frameActedOn_not_slice happended hslice)
      (State.blockFull_of_filling (s := (s.granted.beginAct.payloadAppended b f).frameActedOn f) hfilling hroom)
  have hworked : s.granted.beginAct.worked f none s.assembler.stage = (s.granted.beginAct.payloadAppended b f).frameActedOn f := by
    rw [hstage, State.worked, State.workFrame_of_goesOn (by simp [hstart])]
    change s.granted.beginAct.placeFrame _ f none = _
    rw [State.placeFrame_of_fits hopen hb hroom.le, hplain]
  rw [exec_admissionGrant hadmission hflight hfront, hworked]
  rfl

/-! ## An opening after which nothing is left to do but the band -/

/-- The act of a grant that has opened a block, where no mark is armed, no take is parked, and the frame closes nothing. -/
def State.finishedPlain (s : State) (f : Frame) : State :=
  ((s.reband.frameActedOn f).present).endAct

theorem State.testArchiveMark_of_none (h : s.control.archiveMark = none) : s.testArchiveMark = s := by
  rw [testArchiveMark, h]

theorem State.endDoneTakes_of_nil (h : s.drain.parkedTakes = []) : s.endDoneTakes = s := by
  rw [endDoneTakes_eq, h]
  rfl

theorem State.testHeadMark_of_none (h : s.control.headMark = none) : s.testHeadMark = s := by
  rw [testHeadMark, h]

theorem State.settleRing_of_plain (hmark : s.control.archiveMark = none) (htakes : s.drain.parkedTakes = []) (before : Nat) :
    s.settleRing before = s.reband := by
  have hmark' : s.reband.control.archiveMark = none := by simpa using hmark
  have htakes' : s.reband.drain.parkedTakes = [] := by simpa using htakes
  by_cases hfront : s.archiveFront = before
  · exact settleRing_of_still hfront
  · rw [settleRing_of_moved hfront, testArchiveMark_of_none hmark', endDoneTakes_of_nil htakes']

theorem State.finishPlain (hhead : s.control.headMark = none) (hmark : s.control.archiveMark = none) (htakes : s.drain.parkedTakes = [])
    (hend : f.endFlag = false) (hcounter : s.assembler.sliceCounter = none) {b : Block} (hb : s.fillingBlock = some b)
    (hroom : b.fillBytes < blockBytes) : ((s.settleRing before).testHeadMark).afterPlaced f = s.reband.frameActedOn f := by
  have hslice : ¬ (s.reband.frameActedOn f).sliceReached := by
    rintro ⟨c, hc, -⟩
    have hnone : (s.reband.frameActedOn f).assembler.sliceCounter = none := by simp [frameActedOn, hcounter]
    simp [hnone] at hc
  have hfilling : (s.reband.frameActedOn f).fillingBlock = some b := by
    have hsame : (s.reband.frameActedOn f).fillingBlock = s.reband.fillingBlock := rfl
    rw [hsame]
    simpa [fillingBlock] using hb
  rw [settleRing_of_plain hmark htakes, testHeadMark_of_none (by simpa using hhead),
    afterPlaced_of_plain hend hslice (blockFull_of_filling hfilling hroom)]

section
variable (s f)

theorem State.finishedPlain_headroom : (s.finishedPlain f).headroom = s.headroom :=
  headroom_congr (s := s) (t := s.finishedPlain f) s.reband_power (s.reband_ring_head)
    (holdFloor_congr s.reband_pins (archiveFront_congr s.reband_ring_blocks s.reband_ring_head))

theorem State.finishedPlain_ring :
    (s.finishedPlain f).ring
      = { s.ring with
          band :=
            bandMove s.ring.band (s.finishedPlain f).headroom s.control.active.pressed s.control.active.critical
              s.control.active.hysteresis } := by
  rw [finishedPlain_headroom]
  exact s.reband_ring

theorem State.finishedPlain_index :
    (s.finishedPlain f).index
      = s.index.map fun e =>
          if e.isOpen = true ∧ f.triggerFlag = true then e.recordTrigger f ((e.byteLength - f.payload.length) / e.bpp) else e := by
  have hindex : (s.finishedPlain f).index
      = s.reband.index.map fun e =>
          if e.isOpen = true ∧ f.triggerFlag = true then e.recordTrigger f ((e.byteLength - f.payload.length) / e.bpp) else e := rfl
  rw [hindex, reband_index]

theorem State.finishedPlain_link : (s.finishedPlain f).link = { s.link with pause := (s.finishedPlain f).link.pause } := by
  have hlink : (s.finishedPlain f).link = s.reband.link := rfl
  rw [hlink, reband, setBand_link]

theorem State.finishedPlain_assembler (hcounter : s.assembler.sliceCounter = none) :
    (s.finishedPlain f).assembler
      = { s.assembler with
          idleFlush := if s.control.active.idleFlushTime = 0 then none else some s.control.active.idleFlushTime } := by
  have hassembler : (s.finishedPlain f).assembler = (s.reband.frameActedOn f).assembler := rfl
  rw [hassembler, frameActedOn]
  simp [hcounter]

theorem State.finishedPlain_store (hstage : s.assembler.stage = none) :
    (s.finishedPlain f).store = { s.store with admission := frameInFront s.link.intake } := by
  have hstore : (s.finishedPlain f).store
      = { s.reband.store with
          admission := frameInFront s.reband.link.intake && (s.reband.assembler.stage.isNone || s.reband.store.admission) } := rfl
  rw [hstore]
  simp [hstage]

theorem State.finishedPlain_rest :
    (s.finishedPlain f).control = s.control ∧ (s.finishedPlain f).drain = s.drain ∧ (s.finishedPlain f).pins = s.pins
      ∧ (s.finishedPlain f).power = s.power ∧ (s.finishedPlain f).pending = s.pending :=
  ⟨s.reband_control, s.reband_drain, s.reband_pins, s.reband_power, s.reband_pending⟩

theorem Signalled.finishedPlain :
    Signalled s (s.finishedPlain f) (bandEvents s.ring.band (s.finishedPlain f).ring.band) [] := by
  have hring : (s.finishedPlain f).ring = s.reband.ring := rfl
  rw [hring]
  exact (Signalled.reband s).of_ports rfl fun p => by cases p <;> rfl

/-- No response leaves where the band stays. -/
theorem State.finishedPlain_sent (hsent : s.sent = []) (hband : (s.finishedPlain f).ring.band = s.ring.band) : (s.finishedPlain f).sent = [] := by
  have hmoved : bandMove s.ring.band s.headroom s.control.active.pressed s.control.active.critical s.control.active.hysteresis
      = s.ring.band := by
    have hring := congrArg Ring.band s.reband_ring
    exact hring.symm.trans hband
  have hsame : s.reband = s := by rw [reband, setBand, if_pos hmoved]
  have hsent' : (s.finishedPlain f).sent
      = s.reband.sent.map fun r => { r with top := ((((s.reband.frameActedOn f).present).port r.port).notices).top } := rfl
  rw [hsent', hsame, hsent]
  rfl

end

/-! ## The plain opening of a segment (O23) -/

theorem State.makeRoom_of_room (hindex : s.index.length < indexCapacity) (fuel : Nat) : s.makeRoom fuel = .made s := by
  cases fuel <;> rw [makeRoom, if_pos hindex]

theorem State.requestBlock_of_room (hlast : s.ring.head < lastLbn) (hroom : s.ring.head - s.ring.tail < s.capacity) :
    s.requestBlock = .granted s := by
  rw [requestBlock, if_neg (not_le.mpr hlast), if_pos hroom]

theorem State.beginSegment_of_room {loss : Option LossRecord} (hswap : s.control.swapPending = false)
    (hnumber : s.assembler.nextSegment < lastSegment) (hindex : s.index.length < indexCapacity) (hlast : s.ring.head < lastLbn)
    (hroom : s.ring.head - s.ring.tail < s.capacity) :
    s.beginSegment before f loss = (((s.segmentOpened f loss).settleRing before).testHeadMark).afterPlaced f := by
  have hsame : s.swapAtOpen = s := if_neg (by simp [hswap])
  have heq : s.beginSegment before f loss
      = if lastSegment ≤ s.swapAtOpen.assembler.nextSegment then
          ((s.swapAtOpen.dropFront.raiseNotice .overrunLoss).dropContinuation).enterStopped .segmentNumberExhausted
        else s.swapAtOpen.openWithRoom before f loss := rfl
  rw [heq, hsame, if_neg (not_le.mpr hnumber), openWithRoom, makeRoom_of_room hindex]
  dsimp only
  rw [openWithBlock, requestBlock_of_room hlast hroom]
  dsimp only
  rw [finishOpening, openSegment_eq]

theorem fillingBlock_append {b : Block} (hnone : s.fillingBlock = none) (hb : b.state = .filling)
    (hblocks : t.ring.blocks = s.ring.blocks ++ [b]) : t.fillingBlock = some b := by
  have hnone' : s.ring.blocks.find? (fun b => decide (b.state = .filling)) = none := hnone
  rw [State.fillingBlock, hblocks, List.find?_append, hnone']
  simp [hb]

/-- Under Slice Mode Off a segment opens without a slice counter (R70). -/
theorem State.segmentOpened_sliceCounter {loss : Option LossRecord} (hmode : s.control.active.sliceMode = .off) :
    (s.segmentOpened f loss).assembler.sliceCounter = none := by
  have hcounter : (s.segmentOpened f loss).assembler.sliceCounter
      = match s.control.active.sliceMode, s.continuing f with
        | .off, _ => none
        | .points, none => some (s.control.active.sliceLength : Int)
        | .points, some c => some ((c.carried.getD s.control.active.sliceLength : Nat) : Int) := rfl
  rw [hcounter, hmode]

/-- The state of a plain opening: what the opening has placed, with the band brought up to date. -/
def State.plainlyOpened (s : State) (f : Frame) : State :=
  (s.granted.beginAct.segmentOpened f none).finishedPlain f

theorem exec_grant_plain_opening {rest : List IntakeItem} (hadmission : s.store.admission = true)
    (hflight : s.store.inFlight.length < 3) (hstage : s.assembler.stage = none) (hfront : s.link.intake = .frame f none :: rest)
    (hopen : s.openEntry = none) (hnone : s.fillingBlock = none) (hswap : s.control.swapPending = false)
    (hnumber : s.assembler.nextSegment < lastSegment) (hindex : s.index.length < indexCapacity) (hlast : s.ring.head < lastLbn)
    (hroom : s.ring.head - s.ring.tail < s.capacity) (hsize : f.payload.length < blockBytes) (hend : f.endFlag = false)
    (hmode : s.control.active.sliceMode = .off) (hhead : s.control.headMark = none) (hmark : s.control.archiveMark = none)
    (htakes : s.drain.parkedTakes = []) : exec .admissionGrant s = .next (s.plainlyOpened f) := by
  have hopen' : s.granted.beginAct.openEntry = none := hopen
  have hloss : s.granted.beginAct.recordLoss none f.stamp = s.granted.beginAct := rfl
  have hworked : s.granted.beginAct.worked f none s.assembler.stage
      = (s.granted.beginAct.segmentOpened f none).reband.frameActedOn f := by
    rw [hstage, State.worked, State.workFrame_of_goesOn (by simp [hloss, hopen']), hloss, State.placeFrame_of_none hopen',
      State.beginSegment_of_room (s := s.granted.beginAct) hswap hnumber hindex hlast hroom]
    refine State.finishPlain hhead hmark htakes hend ?_ (fillingBlock_append (s := s) hnone rfl rfl) hsize
    exact State.segmentOpened_sliceCounter (s := s.granted.beginAct) hmode
  rw [exec_admissionGrant hadmission hflight hfront, hworked]
  rfl

theorem State.plainlyOpened_index (hopen : s.openEntry = none) {entry : Entry}
    (hentry : entry = { s.granted.entryAtOpen f none with byteLength := f.payload.length }) :
    (s.plainlyOpened f).index = s.index ++ [if f.triggerFlag then entry.recordTrigger f 0 else entry] := by
  have hclosed : ∀ e ∈ s.index, e.isOpen = false := by
    simpa [openEntry] using hopen
  have hnew : (s.granted.entryAtOpen f none).isOpen = true := rfl
  have hentry' : entry.isOpen = true := hentry ▸ rfl
  have hindex : (s.plainlyOpened f).index
      = ((s.index ++ [s.granted.entryAtOpen f none]).map fun e =>
          if e.isOpen then { e with byteLength := e.byteLength + f.payload.length } else e).map fun e =>
        if e.isOpen = true ∧ f.triggerFlag = true then e.recordTrigger f ((e.byteLength - f.payload.length) / e.bpp) else e :=
    State.finishedPlain_index _ f
  rw [hindex, placed_index, List.map_append]
  congr 1
  · rw [List.map_congr_left fun e he => by rw [if_neg (by simp [hclosed e he])], List.map_id']
  · have hzero : (s.granted.entryAtOpen f none).byteLength = 0 := rfl
    simp only [List.map_cons, List.map_nil, hnew, if_true, hzero, Nat.zero_add, Nat.zero_div, hentry]

/-! ## The Tail block of a full ring (O24) -/

section
variable {e : Entry} {b : Block}

/-- The Ring Manager's answer in a full ring, by the class of the Tail block (R16). -/
theorem State.requestBlock_of_full (hlast : s.ring.head < lastLbn) (hfull : s.ringFull) (hb : s.ring.blocks.head? = some b) :
    (b.classify s.control.active.overrunPolicy = .recyclable → s.requestBlock = .granted (s.recycleTail b))
      ∧ (b.classify s.control.active.overrunPolicy = .evictable → s.requestBlock = .granted (s.evictTail b))
      ∧ (b.classify s.control.active.overrunPolicy = .readBound → s.requestBlock = .readBound)
      ∧ (b.classify s.control.active.overrunPolicy = .held → s.requestBlock = .held) := by
  have htail : s.tailBlock = some b := hb
  unfold requestBlock
  rw [if_neg (not_le.mpr hlast), if_neg (not_lt.mpr hfull), htail]
  refine ⟨fun h => ?_, fun h => ?_, fun h => ?_, fun h => ?_⟩ <;> simp only [h]

/-- A grant whose frame needs a new block of the open segment, whose Filling block is sealed already. -/
theorem exec_grant_nextBlock {rest : List IntakeItem} (hadmission : s.store.admission = true)
    (hflight : s.store.inFlight.length < 3) (hstage : s.assembler.stage = none) (hfront : s.link.intake = .frame f none :: rest)
    (he : s.openEntry = some e) (hnone : s.fillingBlock = none) (hstart : f.startFlag = false) :
    exec .admissionGrant s = .next (((s.granted.beginAct.nextBlock s.archiveFront e f).present).endAct) := by
  have hnone' : s.granted.beginAct.fillingBlock = none := hnone
  have hworked : s.granted.beginAct.worked f none s.assembler.stage = s.granted.beginAct.nextBlock s.archiveFront e f := by
    rw [hstage, State.worked, State.workFrame_of_goesOn (by simp [hstart])]
    change s.granted.beginAct.placeFrame _ f none = _
    have hfull : ∀ b ∈ s.granted.beginAct.fillingBlock, blockBytes < b.fillBytes + f.payload.length := by
      rw [hnone']
      simp
    rw [State.placeFrame_of_full (s := s.granted.beginAct) he hfull, State.sealFilling_of_none hnone']
    rfl
  rw [exec_admissionGrant hadmission hflight hfront, hworked]

/-- A frame that waits places no request. -/
theorem State.waited_eq (s : State) (stage : Stage) :
    ((s.granted.beginAct.waitAtFront stage).present).endAct
      = State.silent { s with assembler := { s.assembler with stage := some stage }, store := { s.store with admission := false } } := by
  have hwaits : (frameInFront s.link.intake && (Option.isNone (some stage) || false)) = false := by simp
  exact congrArg (fun a => State.silent
    { s with assembler := { s.assembler with stage := some stage }, store := { s.store with admission := a } }) hwaits

theorem State.overrunDrop_sent (s : State) (f : Frame) : (s.overrunDrop f).sent = s.sent := by
  unfold overrunDrop
  split <;> simp

/-- What an overrun that drops a frame of the open segment leaves (R19, R65, R68). -/
def State.gapRecorded (s : State) (e : Entry) (f : Frame) : State :=
  { s with
    index := s.index.map fun x =>
      if x.isOpen then
        x.addGap (BitVec.ofNat 64 (f.payload.length / e.bpp)) .overrun false
      else x
    assembler :=
      { s.assembler with
        sliceCounter :=
          s.assembler.sliceCounter.map fun c => c - ((f.payload.length / e.bpp : Nat) : Int) }
    link :=
      { s.link with
        intake := s.link.intake.tail
        pause := pauseLevel s.ring.band s.control.active.pauseOnCritical (framesIn s.link.intake.tail) s.link.pause
        counts :=
          { s.link.counts with framesDroppedOverrun := s.link.counts.framesDroppedOverrun + 1 } }
    store := { s.store with admission := frameInFront s.link.intake.tail } }

theorem State.overrunDropped_of_open (he : s.openEntry = some e) (f : Frame) :
    s.granted.overrunDropped f
      = { s.gapRecorded e f with
          assembler := { (s.gapRecorded e f).assembler with stage := none }
          store := { s.store with admission := false } } := by
  have he' : s.granted.openEntry = some e := he
  rw [overrunDropped, he']
  rfl

theorem State.present_unsignalled (s : State) : s.present.unsignalled = s.unsignalled.present := rfl

theorem State.present_port (s : State) (p : Port) : s.present.port p = s.port p := by
  cases p <;> rfl

theorem Signalled.present (h : Signalled s t es ks) : Signalled s t.present es ks :=
  h.of_ports rfl t.present_port

/-- An overrun under Drop or Overwrite (R19, R20). -/
theorem State.overrun_goesOn (he : s.openEntry = some e) (hstage : s.assembler.stage = none)
    (hpolicy : s.control.active.overrunPolicy ≠ .stop) :
    ((s.granted.beginAct.overrun f).present).endAct.sent = []
      ∧ Signalled s ((s.granted.beginAct.overrun f).present).endAct [] [.overrunLoss]
      ∧ ((s.granted.beginAct.overrun f).present).endAct.unsignalled = (s.gapRecorded e f).unsignalled := by
  have hdrop := (Becomes.overrunDrop s.granted.beginAct f).of_beginAct
    (v := s.granted.overrunDropped f) (by rw [State.overrunDropped_beginAct]; rfl)
  have heq : s.granted.beginAct.overrun f = s.granted.beginAct.overrunDrop f := by
    rw [overrun_eq, overrunDrop_control]
    exact if_neg hpolicy
  have hsource : Signalled s s.granted [] [] := .of_eq rfl fun p => by cases p <;> rfl
  rw [heq]
  refine ⟨?_, ?_, ?_⟩
  · have hsent := s.granted.beginAct.overrunDrop_sent f
    have hsame : ((s.granted.beginAct.overrunDrop f).present).endAct.sent
        = (s.granted.beginAct.overrunDrop f).sent.map fun r =>
            { r with top := ((((s.granted.beginAct.overrunDrop f).present).port r.port).notices).top } := rfl
    rw [hsame, hsent]
    rfl
  · simpa using (hsource.append (List.Subset.refl _) hdrop.1).present.endAct
  · rw [endAct_unsignalled, present_unsignalled, hdrop.2, ← present_unsignalled, overrunDropped_of_open he]
    have hpresented : (frameInFront s.link.intake.tail && (s.assembler.stage.isNone || false)) = frameInFront s.link.intake.tail := by
      simp [hstage]
    have hassembler : { (s.gapRecorded e f).assembler with stage := none } = (s.gapRecorded e f).assembler := by
      rw [← hstage]
      rfl
    rw [hassembler]
    exact congrArg (fun a => State.unsignalled { s.gapRecorded e f with store := { s.store with admission := a } }) hpresented

theorem StoppedAtOnce.of_admission {close : CloseReason} {reason : StopReason} {a : Bool}
    (h : StoppedAtOnce { s with store := { s.store with admission := a } } t close reason) : StoppedAtOnce s t close reason where
  entered := h.entered.of_same rfl rfl rfl rfl ⟨_, _, _, _, rfl⟩ rfl rfl ⟨a, rfl⟩ rfl
  ring := h.ring
  index := h.index
  counts := h.counts
  timers := h.timers
  takes := h.takes
  pins := h.pins
  power := h.power
  pending := h.pending

theorem State.present_of_empty (hintake : s.link.intake = []) (hadmission : s.store.admission = false) : s.present = s := by
  have hsame : ((s.link.intake.head?.map IntakeItem.isFrame).getD false && (s.assembler.stage.isNone || s.store.admission))
      = s.store.admission := by
    rw [hintake, hadmission]
    rfl
  exact congrArg (fun a => { s with store := { s.store with admission := a } }) hsame

/-- A stop leaves no item to present. -/
theorem EnteredStopped.present {reason : StopReason} (h : EnteredStopped s t reason) : t.present = t :=
  State.present_of_empty (by rw [h.link]) (by rw [h.store])

/-- The end of an act takes no response back, but fills in its Top Notice. -/
theorem StoppedAtOnce.endAct {close : CloseReason} {reason : StopReason} (h : StoppedAtOnce s t close reason) :
    StoppedAtOnce s t.endAct close reason :=
  h.congr rfl rfl fun _ hx => ⟨_, List.mem_map_of_mem hx, rfl, rfl, rfl⟩

/-- An overrun under Stop (R23). -/
theorem State.overrun_stops (he : s.openEntry = some e) (hstage : s.assembler.stage = none) (hnone : s.fillingBlock = none)
    (hpolicy : s.control.active.overrunPolicy = .stop) :
    StoppedAtOnce (s.gapRecorded e f) ((s.granted.beginAct.overrun f).present).endAct .overrun .overrun
      ∧ Signalled s ((s.granted.beginAct.overrun f).present).endAct
          ((s.gapRecorded e f).stopEvents ((s.granted.beginAct.overrun f).present).endAct) [.overrunLoss] := by
  have hdrop := (Becomes.overrunDrop s.granted.beginAct f).of_beginAct
    (v := s.granted.overrunDropped f) (by rw [State.overrunDropped_beginAct]; rfl)
  have heq : s.granted.beginAct.overrun f = (s.granted.beginAct.overrunDrop f).closeAndStop .overrun .overrun := by
    rw [overrun_eq, overrunDrop_control]
    exact if_pos hpolicy
  have hsource : Signalled s s.granted [] [] := .of_eq rfl fun p => by cases p <;> rfl
  rw [heq]
  generalize s.granted.beginAct.overrunDrop f = d at hdrop
  have hassembler : { (s.gapRecorded e f).assembler with stage := none } = (s.gapRecorded e f).assembler := by
    rw [← hstage]
    rfl
  have hdata : d.unsignalled = ({ s.gapRecorded e f with store := { s.store with admission := false } } : State).unsignalled := by
    rw [hdrop.2, overrunDropped_of_open he, hassembler]
  have hring : d.ring = s.ring := by
    obtain ⟨_, _, _, _, rfl⟩ := eq_of_unsignalled hdata
    rfl
  have hsealed : d.fillingBlock = none := by rwa [fillingBlock, hring]
  have hheadroom : (d.afterClose .overrun).headroom = d.headroom := by
    have hafter : d.afterSeal = d := by rw [afterSeal, hsealed]
    rw [afterClose, hafter]
    rfl
  have hstop := closeAndStop_of_headroom hheadroom .overrun
  have hsignals := Signalled.closeAndStop d .overrun .overrun
  rw [hstop.entered.present]
  generalize d.closeAndStop .overrun .overrun = t at hstop hsignals
  have hstopped : StoppedAtOnce _ t .overrun .overrun := hstop.congr hdata.symm rfl fun x hx => ⟨x, hx, rfl, rfl, rfl⟩
  refine ⟨hstopped.endAct.of_admission, ?_⟩
  have hevents (x : State) : d.stopEvents x = (s.gapRecorded e f).stopEvents x := by
    obtain ⟨_, _, _, _, rfl⟩ := eq_of_unsignalled hdata
    rfl
  have hd : d.drain.parkedTakes ⊆ s.drain.parkedTakes := by
    rw [drain_of_unsignalled hdata]
    exact List.Subset.refl _
  rw [hevents] at hsignals
  exact ((hsource.append (List.Subset.refl _) hdrop.1).append hd hsignals).endAct

end

/-! ## The plain opening of a next block in a full ring (O24) -/

section
variable {e : Entry} {b : Block}

/-- The Tail block leaves as its class has it. -/
def State.leaveTail (s : State) (b : Block) (evicted : Bool) : State :=
  if evicted then s.evictTail b else s.recycleTail b

theorem State.leaveTail_ring (s : State) (b : Block) (evicted : Bool) : (s.leaveTail b evicted).ring = s.emptyTail.ring := by
  cases evicted <;> rfl

theorem State.leaveTail_index (s : State) (b : Block) (evicted : Bool) :
    (s.leaveTail b evicted).index = (s.index.map (Entry.afterLeave b evicted)).filter fun e => e.isOpen || !e.emptied := by
  cases evicted <;> rfl

theorem State.leaveTail_openEntry (s : State) (b : Block) (evicted : Bool) :
    (s.leaveTail b evicted).openEntry = s.openEntry.map (Entry.afterLeave b evicted) := by
  cases evicted
  · exact s.emptyTail.leavingReport_openEntry b false
  · exact s.emptyTail.leavingReport_openEntry b true

theorem State.leaveTail_link (s : State) (b : Block) (evicted : Bool) :
    (s.leaveTail b evicted).link
      = { s.link with
          counts :=
            { s.link.counts with
              blocksEvictedUnarchived := s.link.counts.blocksEvictedUnarchived + (if evicted = true then 1 else 0) } } := by
  cases evicted
  · have hzero : s.link.counts.blocksEvictedUnarchived + (if false = true then 1 else 0) = s.link.counts.blocksEvictedUnarchived := by simp
    rw [hzero]
    rfl
  · rfl

theorem State.leaveTail_rest (s : State) (b : Block) (evicted : Bool) :
    (s.leaveTail b evicted).assembler = s.assembler ∧ (s.leaveTail b evicted).control = s.control
      ∧ (s.leaveTail b evicted).drain = s.drain ∧ (s.leaveTail b evicted).pins = s.pins ∧ (s.leaveTail b evicted).power = s.power
      ∧ (s.leaveTail b evicted).store = s.store ∧ (s.leaveTail b evicted).sent = s.sent ∧ (s.leaveTail b evicted).pending = s.pending := by
  cases evicted <;> exact ⟨rfl, rfl, rfl, rfl, rfl, rfl, rfl, rfl⟩

theorem Signalled.leaveTail (s : State) (b : Block) (evicted : Bool) :
    Signalled s (s.leaveTail b evicted) [] (if evicted = true then [.overrunLoss] else []) := by
  cases evicted
  · exact .of_eq rfl (s.recycleTail_port b)
  · exact (Becomes.evictTail s b).1

theorem State.requestBlock_leaves {evicted : Bool} (hlast : s.ring.head < lastLbn) (hfull : s.ringFull) (hb : s.ring.blocks.head? = some b)
    (hclass : b.classify s.control.active.overrunPolicy = if evicted = true then .evictable else .recyclable) :
    s.requestBlock = .granted (s.leaveTail b evicted) := by
  obtain ⟨hrecycled, hevicted, -⟩ := requestBlock_of_full hlast hfull hb
  cases evicted
  · exact hrecycled hclass
  · exact hevicted hclass

/-- The address of a write depends on the Group Map alone (R5). -/
theorem State.writeOf_congr (hpower : t.power = s.power) (f : Frame) (lbn offset : Nat) : t.writeOf f lbn offset = s.writeOf f lbn offset := by
  simp [writeOf, groupOf, storeAddress, position, capacity, hpower]

/-- The block that opens on LBN Head for a segment and takes a frame's payload (R8). -/
def State.freshBlock (s : State) (e : Entry) (f : Frame) : Block where
  lbn := s.ring.head
  state := .filling
  fillBytes := f.payload.length
  segment := e.number
  archiveRequired := e.archiveRequired
  pinCount := 0
  readsInFlight := 0
  damaged := false

/-- The state of a grant whose frame opens the next block of its segment in a ring that the Tail block has left. -/
def State.plainlyContinued (s : State) (b : Block) (evicted : Bool) (f : Frame) : State :=
  ((s.granted.beginAct.leaveTail b evicted).nextBlockOpened f).finishedPlain f

theorem State.leaveTail_opened (he : s.openEntry = some e) (b : Block) (evicted : Bool) (f : Frame) :
    (s.leaveTail b evicted).nextBlockOpened f
      = State.framePlaced
          { (s.leaveTail b evicted).blockOpened e.number e.archiveRequired f with
            index := (s.leaveTail b evicted).index.map fun e => if e.isOpen then { e with blockCount := e.blockCount + 1 } else e } f := by
  have hopen : (s.leaveTail b evicted).openEntry = some (e.afterLeave b evicted) := by
    rw [leaveTail_openEntry, he]
    rfl
  have hkeeps : (e.afterLeave b evicted).number = e.number ∧ (e.afterLeave b evicted).archiveRequired = e.archiveRequired := by
    unfold Entry.afterLeave
    split <;> exact ⟨rfl, rfl⟩
  rw [nextBlockOpened, hopen]
  dsimp only
  rw [hkeeps.1, hkeeps.2]

theorem exec_grant_continues {rest : List IntakeItem} {evicted : Bool} (hadmission : s.store.admission = true)
    (hflight : s.store.inFlight.length < 3) (hstage : s.assembler.stage = none) (hfront : s.link.intake = .frame f none :: rest)
    (he : s.openEntry = some e) (hnone : s.fillingBlock = none) (hstart : f.startFlag = false) (hlast : s.ring.head < lastLbn)
    (hfull : s.ringFull) (hb : s.ring.blocks.head? = some b)
    (hclass : b.classify s.control.active.overrunPolicy = if evicted = true then .evictable else .recyclable)
    (hsize : f.payload.length < blockBytes) (hend : f.endFlag = false) (hcounter : s.assembler.sliceCounter = none)
    (hhead : s.control.headMark = none) (hmark : s.control.archiveMark = none) (htakes : s.drain.parkedTakes = []) :
    exec .admissionGrant s = .next (s.plainlyContinued b evicted f) := by
  have he' : s.granted.beginAct.openEntry = some e := he
  have hopened := State.leaveTail_opened he' b evicted f
  have hleft : (s.granted.beginAct.leaveTail b evicted).openEntry = some (e.afterLeave b evicted) := by
    rw [State.leaveTail_openEntry, he']
    rfl
  have hkeeps : (e.afterLeave b evicted).number = e.number ∧ (e.afterLeave b evicted).archiveRequired = e.archiveRequired := by
    unfold Entry.afterLeave
    split <;> exact ⟨rfl, rfl⟩
  have hrequest : s.granted.beginAct.requestBlock = .granted (s.granted.beginAct.leaveTail b evicted) :=
    State.requestBlock_leaves (s := s.granted.beginAct) hlast hfull hb hclass
  obtain ⟨hassembler, hcontrol, hdrain, -⟩ := s.granted.beginAct.leaveTail_rest b evicted
  have hnext : s.granted.beginAct.nextBlock s.archiveFront e f
      = ((((s.granted.beginAct.leaveTail b evicted).nextBlockOpened f).settleRing s.archiveFront).testHeadMark).afterPlaced f := by
    rw [State.nextBlock, hrequest]
    dsimp only
    rw [← hkeeps.1, ← hkeeps.2, State.finishOpening, State.nextBlockOpened_eq hleft]
  have hring := s.granted.beginAct.leaveTail_ring b evicted
  have hfilling : (s.granted.beginAct.leaveTail b evicted).fillingBlock = none := by
    rw [State.fillingBlock, hring, List.find?_eq_none]
    intro x hx
    exact List.find?_eq_none.mp hnone x (List.mem_of_mem_tail hx)
  rw [exec_grant_nextBlock hadmission hflight hstage hfront he hnone hstart, hnext, hopened]
  rw [State.finishPlain (b := (s.granted.beginAct.leaveTail b evicted).freshBlock e f)]
  · rw [State.plainlyContinued, hopened]
    rfl
  · exact (congrArg Control.headMark hcontrol).trans hhead
  · exact (congrArg Control.archiveMark hcontrol).trans hmark
  · exact (congrArg Drain.parkedTakes hdrain).trans htakes
  · exact hend
  · exact (congrArg Assembler.sliceCounter hassembler).trans hcounter
  · exact fillingBlock_append (s := s.granted.beginAct.leaveTail b evicted) hfilling rfl rfl
  · exact hsize

/-- The next block of the open segment that a grant opens in a ring that the Tail block has left. -/
def State.continuedIn (s : State) (b : Block) (evicted : Bool) (e : Entry) (f : Frame) : State :=
  State.framePlaced
    { (s.leaveTail b evicted).blockOpened e.number e.archiveRequired f with
      index := (s.leaveTail b evicted).index.map fun e => if e.isOpen then { e with blockCount := e.blockCount + 1 } else e } f

theorem State.plainlyContinued_eq (he : s.openEntry = some e) (b : Block) (evicted : Bool) (f : Frame) :
    s.plainlyContinued b evicted f = (s.granted.beginAct.continuedIn b evicted e f).finishedPlain f := by
  have he' : s.granted.beginAct.openEntry = some e := he
  rw [plainlyContinued, leaveTail_opened he']
  rfl

theorem State.continuedIn_band (s : State) (b : Block) (evicted : Bool) (e : Entry) (f : Frame) :
    (s.continuedIn b evicted e f).ring.band = s.ring.band := by
  have hsame : (s.continuedIn b evicted e f).ring.band = (s.leaveTail b evicted).ring.band := rfl
  rw [hsame, leaveTail_ring]
  rfl

theorem Signalled.plainlyContinued (he : s.openEntry = some e) (b : Block) (evicted : Bool) (f : Frame) :
    Signalled s (s.plainlyContinued b evicted f) (bandEvents s.ring.band (s.plainlyContinued b evicted f).ring.band)
      (if evicted = true then [.overrunLoss] else []) := by
  have hsource : Signalled s s.granted.beginAct [] [] := .of_eq rfl fun p => by cases p <;> rfl
  have hleft := hsource.append (List.Subset.refl _) (Signalled.leaveTail s.granted.beginAct b evicted)
  have hopened : Signalled s (s.granted.beginAct.continuedIn b evicted e f) [] (if evicted = true then [.overrunLoss] else []) :=
    hleft.of_ports rfl fun p => by cases p <;> rfl
  have hdrain : (s.granted.beginAct.continuedIn b evicted e f).drain = s.drain := (s.granted.beginAct.leaveTail_rest b evicted).2.2.1
  have hband : (s.granted.beginAct.continuedIn b evicted e f).ring.band = s.ring.band := s.granted.beginAct.continuedIn_band b evicted e f
  have hfinished := Signalled.finishedPlain (s.granted.beginAct.continuedIn b evicted e f) f
  rw [hband] at hfinished
  rw [State.plainlyContinued_eq he]
  have hall := hopened.append (by rw [hdrain]; exact List.Subset.refl _) hfinished
  rwa [List.nil_append, List.append_nil] at hall

theorem State.plainlyContinued_sent (he : s.openEntry = some e) {evicted : Bool}
    (hband : (s.plainlyContinued b evicted f).ring.band = s.ring.band) : (s.plainlyContinued b evicted f).sent = [] := by
  rw [plainlyContinued_eq he] at hband ⊢
  exact finishedPlain_sent _ f (s.granted.beginAct.leaveTail_rest b evicted).2.2.2.2.2.2.1
    (hband.trans (s.granted.beginAct.continuedIn_band b evicted e f).symm)

/-- The ring of such a grant: the Tail block is gone and the new one has opened, with the band brought up to date (R8, R12, R25). -/
theorem State.plainlyContinued_ring (he : s.openEntry = some e) (b : Block) (evicted : Bool) (f : Frame) :
    (s.plainlyContinued b evicted f).ring
      = { head := s.ring.head + 1, tail := s.ring.tail + 1
          blocks := s.ring.blocks.tail ++ [s.freshBlock e f]
          band :=
            bandMove s.ring.band (s.plainlyContinued b evicted f).headroom s.control.active.pressed s.control.active.critical
              s.control.active.hysteresis } := by
  have hring := s.granted.beginAct.leaveTail_ring b evicted
  have hcontrol : (s.granted.beginAct.continuedIn b evicted e f).control = s.control := (s.granted.beginAct.leaveTail_rest b evicted).2.1
  have hopened : (s.granted.beginAct.continuedIn b evicted e f).ring
      = { (s.granted.beginAct.leaveTail b evicted).ring with
          head := (s.granted.beginAct.leaveTail b evicted).ring.head + 1
          blocks := (s.granted.beginAct.leaveTail b evicted).ring.blocks ++ [(s.granted.beginAct.leaveTail b evicted).freshBlock e f] } := rfl
  rw [plainlyContinued_eq he, finishedPlain_ring, hcontrol, hopened, freshBlock, hring]
  rfl

/-- The Segment Index of such a grant (R12, R50, R62, R82, R83). -/
theorem State.plainlyContinued_index (he : s.openEntry = some e) (b : Block) (evicted : Bool) (f : Frame) :
    (s.plainlyContinued b evicted f).index
      = ((s.index.map (Entry.afterLeave b evicted)).filter fun x => x.isOpen || !x.emptied).map fun x =>
          if x.isOpen then
            if f.triggerFlag then
              Entry.recordTrigger { x with blockCount := x.blockCount + 1, byteLength := x.byteLength + f.payload.length } f
                (x.byteLength / x.bpp)
            else { x with blockCount := x.blockCount + 1, byteLength := x.byteLength + f.payload.length }
          else x := by
  have hindex : (s.granted.beginAct.continuedIn b evicted e f).index
      = ((s.granted.beginAct.leaveTail b evicted).index.map fun x => if x.isOpen then { x with blockCount := x.blockCount + 1 } else x).map
          fun x => if x.isOpen then { x with byteLength := x.byteLength + f.payload.length } else x := rfl
  have hbegin : s.granted.beginAct.index = s.index := rfl
  rw [plainlyContinued_eq he, finishedPlain_index, hindex, placed_index, List.map_map, leaveTail_index, hbegin]
  refine List.map_congr_left fun x _ => ?_
  cases ho : x.isOpen
  · simp [ho]
  · cases ht : f.triggerFlag <;> simp_all [Entry.isOpen]

theorem Entry.emptied_iff (e : Entry) :
    (e.isOpen || !e.emptied) = decide (e.closeReason = none ∨ e.presentFrom ≠ e.firstLbn + e.blockCount) := by
  unfold isOpen emptied
  cases e.closeReason <;> simp

end

end Sys2Proof.Machine

namespace Sys2Proof.Proofs
open Sys2Proof.Machine

/-- Settles O22. The plain append has its whole state written out; the general one goes through the relation of steps 5 to 8. -/
theorem grantAppendsToTheFillingBlock : Obligations.GrantAppendsToTheFillingBlock := by
  refine ⟨fun s f rest e b hadmission hflight hstage hfront he hb hstart hend hroom hslice _ => ?_,
    fun s f loss rest b hadmission hflight hstage hfront hopen hb hstart hfits hr =>
      exec_grant_appends hadmission hflight hstage hfront hopen hb hstart hfits hr⟩
  rw [exec_grant_plain_append hadmission hflight hstage hfront he hb hstart hend hroom hslice]
  have happended : (s.granted.payloadAppended b f).openEntry = some { e with byteLength := e.byteLength + f.payload.length } :=
    openEntry_map (s := s) (g := fun e => { e with byteLength := e.byteLength + f.payload.length }) he (fun _ => rfl) rfl
  have hindex : ((s.granted.payloadAppended b f).frameActedOn f).index
      = s.index.map fun x =>
          if x.isOpen then
            if f.triggerFlag then
              Entry.recordTrigger { x with byteLength := x.byteLength + f.payload.length } f (x.byteLength / x.bpp)
            else { x with byteLength := x.byteLength + f.payload.length }
          else x := State.placed_index s.index f
  have hcounter : ((s.granted.payloadAppended b f).frameActedOn f).assembler
      = { s.assembler with
          stage := none
          sliceCounter := s.assembler.sliceCounter.map fun c => c - ((f.payload.length / e.bpp : Nat) : Int)
          idleFlush := if s.control.active.idleFlushTime = 0 then none else some s.control.active.idleFlushTime } :=
    State.frameActedOn_assembler happended f
  obtain rfl : s.link.intake.tail = rest := by rw [hfront]; rfl
  have hpresented : (frameInFront s.link.intake.tail && (Option.isNone (none : Option Stage) || false)) = frameInFront s.link.intake.tail := by
    simp
  refine congrArg Host.Outcome.next (congrArg State.silent ?_)
  rw [State.present, State.mapStore, hcounter]
  congr 1
  · rw [← hstage]
  · exact congrArg (fun a => { s.store with admission := a, inFlight := s.store.inFlight ++ [s.writeOf f b.lbn b.fillBytes] }) hpresented

/-- Settles O23. The plain opening has its whole state written out; every other opening goes through the steps of R55. -/
theorem grantOpensASegment : Obligations.GrantOpensASegment := by
  refine ⟨fun s f rest hadmission hflight hstage hfront hopen hnone hswap hnumber hindex hlast hroom hsize hend hmode hhead hmark
    htakes => ?_, fun s f loss rest hadmission hflight hstage hfront hopen hr ha =>
      exec_grant_opens hadmission hflight hstage hfront hopen hr ha⟩
  have hpayload : f.payload.length < blockBytes := lt_of_le_of_lt hsize.2.1 (by decide)
  obtain rfl : s.link.intake.tail = rest := by rw [hfront]; rfl
  refine ⟨s.plainlyOpened f, { s.granted.entryAtOpen f none with byteLength := f.payload.length },
    exec_grant_plain_opening hadmission hflight hstage hfront hopen hnone hswap hnumber hindex hlast hroom hpayload hend hmode hhead
      hmark htakes, ?_, ?_, ?_, State.plainlyOpened_index hopen rfl, ?_, ?_, ?_, ?_, ?_⟩
  · exact State.finishedPlain_sent (s.granted.beginAct.segmentOpened f none) f rfl
  · have hopened : Signalled s (s.granted.beginAct.segmentOpened f none) [] [] := .of_eq rfl fun p => by cases p <;> rfl
    exact hopened.append (List.Subset.refl _) (Signalled.finishedPlain (s.granted.beginAct.segmentOpened f none) f)
  · unfold State.entryAtOpen State.continuing
    simp only [State.granted]
    generalize s.assembler.continuation = c
    cases f.stamp <;> cases f.startFlag <;> cases c <;> rfl
  · exact State.finishedPlain_ring (s.granted.beginAct.segmentOpened f none) f
  · rw [State.plainlyOpened, State.finishedPlain_assembler]
    · have hassembler : (s.granted.beginAct.segmentOpened f none).assembler
          = { s.assembler with
              stage := none, continuation := none, nextSegment := s.assembler.nextSegment + 1
              sliceCounter := (s.granted.beginAct.segmentOpened f none).assembler.sliceCounter } := rfl
      rw [hassembler, State.segmentOpened_sliceCounter (s := s.granted.beginAct) hmode, ← hstage]
      rfl
    · exact State.segmentOpened_sliceCounter (s := s.granted.beginAct) hmode
  · exact State.finishedPlain_link (s.granted.beginAct.segmentOpened f none) f
  · exact State.finishedPlain_store (s.granted.beginAct.segmentOpened f none) f rfl
  · exact State.finishedPlain_rest (s.granted.beginAct.segmentOpened f none) f

/-- Settles O24. By the class of the Tail block the whole state is written out, or stands as a stop; every other frame that needs a new block goes through
the seal and the Ring Manager's answer. -/
theorem fullRingExaminesTheTail : Obligations.FullRingExaminesTheTail := by
  refine ⟨fun s f rest e b hadmission hflight hstage hfront he hnone hstart hlast hfull hb dropped hdropped => ?_,
    fun s f loss rest r hadmission hflight hstage hfront hopen hstart hfull hr ha heq =>
      exec_grant_next hadmission hflight hstage hfront hopen hstart hfull hr ha heq⟩
  obtain rfl : s.link.intake.tail = rest := by rw [hfront]; rfl
  have hdropped' : dropped = s.gapRecorded e f := hdropped
  subst hdropped'
  have hringFull : s.granted.beginAct.ringFull := hfull.ge
  have hexec := exec_grant_nextBlock hadmission hflight hstage hfront he hnone hstart
  obtain ⟨-, -, hreadBound, hheld⟩ := State.requestBlock_of_full (s := s.granted.beginAct) hlast hringFull hb
  refine ⟨fun hclass => ?_, fun hclass hpolicy => ?_, fun hclass hpolicy => ?_,
    fun evicted hclass hsize hend hcounter hhead hmark htakes => ?_⟩
  · rw [hexec, State.nextBlock, hreadBound hclass]
    exact congrArg Host.Outcome.next (s.waited_eq .nextBlock)
  · rw [State.nextBlock, hheld hclass] at hexec
    exact ⟨_, hexec, State.overrun_goesOn he hstage hpolicy⟩
  · rw [State.nextBlock, hheld hclass] at hexec
    exact ⟨_, hexec, State.overrun_stops he hstage hnone hpolicy⟩
  · have hpayload : f.payload.length < blockBytes := lt_of_le_of_lt hsize.2.1 (by decide)
    have hcontinues := exec_grant_continues hadmission hflight hstage hfront he hnone hstart hlast hringFull hb hclass hpayload hend
      hcounter hhead hmark htakes
    obtain ⟨hassembler, hcontrol, hdrain, hpins, hpower, hstore, hsent, hpending⟩ := s.granted.beginAct.leaveTail_rest b evicted
    have hlink := s.granted.beginAct.leaveTail_link b evicted
    have hleave : (fun x : Entry => if x.number = b.segment then
        { x with
          presentFrom := x.presentFrom + 1
          evictedUnarchived := x.evictedUnarchived + (if evicted = true then BitVec.ofNat 64 (b.fillBytes / x.bpp) else 0)
          frontEvicted := x.frontEvicted || evicted }
      else x) = Entry.afterLeave b evicted := by
      funext x
      cases evicted <;> simp [Entry.afterLeave]
    refine ⟨_, hcontinues, State.plainlyContinued_sent he, .plainlyContinued he b evicted f, State.plainlyContinued_ring he b evicted f,
      ?_, ?_, ?_, ?_, ?_⟩
    · rw [State.plainlyContinued_index he, hleave]
      simp only [Entry.emptied_iff]
    all_goals rw [State.plainlyContinued_eq he]
    · rw [State.finishedPlain_assembler (s.granted.beginAct.continuedIn b evicted e f) f ((congrArg Assembler.sliceCounter hassembler).trans hcounter)]
      have hsame : (s.granted.beginAct.continuedIn b evicted e f).assembler = { s.assembler with stage := none } := hassembler
      have hidle : (s.granted.beginAct.continuedIn b evicted e f).control = s.control := hcontrol
      rw [hsame, hidle, ← hstage]
    · have hsame : (s.granted.beginAct.continuedIn b evicted e f).link
          = { (s.granted.beginAct.leaveTail b evicted).link with
              intake := (s.granted.beginAct.leaveTail b evicted).link.intake.tail
              pause := (s.granted.beginAct.continuedIn b evicted e f).link.pause
              counts :=
                { (s.granted.beginAct.leaveTail b evicted).link.counts with
                  framesAdmitted := (s.granted.beginAct.leaveTail b evicted).link.counts.framesAdmitted + 1 } } := rfl
      rw [State.finishedPlain_link (s.granted.beginAct.continuedIn b evicted e f) f, hsame, hlink]
      rfl
    · have hstage' : (s.granted.beginAct.continuedIn b evicted e f).assembler.stage = none := by
        have hsame : (s.granted.beginAct.continuedIn b evicted e f).assembler = s.granted.beginAct.assembler := hassembler
        rw [hsame]
        rfl
      have hsame : (s.granted.beginAct.continuedIn b evicted e f).store
          = { (s.granted.beginAct.leaveTail b evicted).store with
              inFlight :=
                (s.granted.beginAct.leaveTail b evicted).store.inFlight
                  ++ [(s.granted.beginAct.leaveTail b evicted).writeOf f (s.granted.beginAct.leaveTail b evicted).ring.head 0] } := rfl
      have hwrite : (s.granted.beginAct.leaveTail b evicted).writeOf f (s.granted.beginAct.leaveTail b evicted).ring.head 0
          = s.writeOf f s.ring.head 0 := by
        rw [State.leaveTail_ring]
        exact State.writeOf_congr hpower f s.ring.head 0
      have hintake : (s.granted.beginAct.continuedIn b evicted e f).link.intake = s.link.intake.tail := by
        have hlink' : (s.granted.beginAct.continuedIn b evicted e f).link.intake = (s.granted.beginAct.leaveTail b evicted).link.intake.tail := rfl
        rw [hlink', hlink]
        rfl
      rw [State.finishedPlain_store (s.granted.beginAct.continuedIn b evicted e f) f hstage', hsame, hwrite, hstore, hintake]
      rfl
    · obtain ⟨hcontrol', hdrain', hpins', hpower', hpending'⟩ := State.finishedPlain_rest (s.granted.beginAct.continuedIn b evicted e f) f
      exact ⟨hcontrol'.trans hcontrol, hpins'.trans hpins, hpower'.trans hpower, hdrain'.trans hdrain, hpending'.trans hpending⟩

end Sys2Proof.Proofs

/-!
What a grant of the admission request comes to: the frame is placed, dropped, discarded, or left to wait (O25).
-/
namespace Sys2Proof.Machine

variable {s t u g : State} {f : Frame} {before : Nat}

/-! ## What a working moves of the Sample Link Receiver while the frame stands at the front -/

/-- The Sample Link Receiver but for the Pause line and the two counters of blocks, which the Ring Manager and the Block Assembler move. -/
def Link.bare (l : Link) : Link :=
  { l with pause := false, counts := { l.counts with blocksSealed := 0, blocksEvictedUnarchived := 0 } }

theorem Link.eq_of_bare {l m : Link} (h : m.bare = l.bare) :
    m = { l with
          pause := m.pause
          counts :=
            { l.counts with
              blocksSealed := m.counts.blocksSealed, blocksEvictedUnarchived := m.counts.blocksEvictedUnarchived } } := by
  obtain ⟨_, _, _, _, _, _, _, ⟨⟩⟩ := l
  obtain ⟨_, _, _, _, _, _, _, ⟨⟩⟩ := m
  simp_all [bare]

theorem Link.of_bare {l m : Link} (h : m.bare = l.bare) :
    m.intake = l.intake ∧ m.counts.framesAdmitted = l.counts.framesAdmitted
      ∧ m.counts.framesDroppedOverrun = l.counts.framesDroppedOverrun ∧ m.counts.framesDiscarded = l.counts.framesDiscarded := by
  rw [eq_of_bare h]
  exact ⟨rfl, rfl, rfl, rfl⟩

theorem State.setBand_link_bare (s : State) (b : Band) : (s.setBand b).link.bare = s.link.bare := by
  rw [setBand_link]
  rfl

theorem State.settleRing_link_bare (s : State) (before : Nat) : (s.settleRing before).link.bare = s.link.bare := by
  rw [settleRing_link]
  exact s.setBand_link_bare _

theorem State.activate_link_bare (s : State) : s.activate.link.bare = s.link.bare := by
  rw [activate_eq, updatePause_link]
  exact s.takeProfile.setBand_link_bare _

theorem State.evictTail_link_bare (s : State) (b : Block) : (s.evictTail b).link.bare = s.link.bare := by
  simp [evictTail, Link.bare]

theorem Leaves.link_bare (h : Leaves s t) : t.link.bare = s.link.bare := by
  cases h with
  | recycled => rw [State.recycleTail_link]
  | evicted => exact s.evictTail_link_bare _

theorem State.afterSeal_link_bare (s : State) : s.afterSeal.link.bare = s.link.bare := by
  unfold afterSeal
  split <;> rfl

theorem State.sealFilling_link_bare (s : State) : s.sealFilling.link.bare = s.link.bare := by
  obtain ⟨_, _, _, _, heq⟩ := eq_of_unsignalled (Becomes.sealFilling s).2
  rw [heq]
  exact s.afterSeal_link_bare

theorem State.closeSegment_link_bare (s : State) (reason : CloseReason) : (s.closeSegment reason).link.bare = s.link.bare := by
  by_cases hopen : s.openEntry.isSome = true
  · rw [(closeSegment_eq_afterClose hopen reason).2.1, afterClose_link]
    rfl
  · rw [closeSegment_of_none (by simpa using hopen)]

/-! ## Where a payload goes -/

theorem State.placeOf_of_none (h : s.fillingBlock = none) (f : Frame) : s.placeOf f = (s.ring.head, 0) := by
  rw [placeOf, h]

theorem State.placeOf_of_startFlag (h : f.startFlag = true) : s.placeOf f = (s.ring.head, 0) := by
  unfold placeOf
  split <;> simp [h]

theorem State.placeOf_congr (hhead : t.ring.head = s.ring.head) (hfilling : t.fillingBlock = s.fillingBlock) (f : Frame) :
    t.placeOf f = s.placeOf f := by
  rw [placeOf, placeOf, hhead, hfilling]

theorem State.placeOf_sealFilling (hplace : s.placeOf f = (s.ring.head, 0)) (hsealed : s.sealFilling.fillingBlock = none) :
    s.sealFilling.placeOf f = s.placeOf f := by
  rw [placeOf_of_none hsealed, hplace, sealFilling_ring_head]

/-! ## The fate of the frame -/

/-- What a working that found the state `g`, with a frame at the front of intake before `rest`, has come to by the fate of the frame. -/
def Fate.holds (g : State) (f : Frame) (rest : List IntakeItem) (t : State) : Fate → Prop
  | .pending =>
    t.control.capture = g.control.capture ∧ t.link.bare = g.link.bare ∧ t.store = g.store ∧ t.placeOf f = g.placeOf f
  | .placed =>
    t.link.counts.framesAdmitted = g.link.counts.framesAdmitted + 1
      ∧ t.link.counts.framesDroppedOverrun = g.link.counts.framesDroppedOverrun
      ∧ t.link.intake = (if t.control.capture = .stopped then [] else rest)
      ∧ t.store.inFlight = g.store.inFlight ++ [g.writeOf f (g.placeOf f).1 (g.placeOf f).2]
      ∧ (g.placeOf f).2 + f.payload.length ≤ blockBytes
  | .dropped =>
    t.link.counts.framesAdmitted = g.link.counts.framesAdmitted
      ∧ t.link.counts.framesDroppedOverrun = g.link.counts.framesDroppedOverrun + 1
      ∧ t.link.intake = (if t.control.capture = .stopped then [] else rest) ∧ t.store.inFlight = g.store.inFlight
  | .ended =>
    g.control.capture = .stopping ∧ f.startFlag = true ∧ t.control.capture = .stopped
      ∧ t.link.counts.framesAdmitted = g.link.counts.framesAdmitted
      ∧ t.link.counts.framesDroppedOverrun = g.link.counts.framesDroppedOverrun
      ∧ t.link.counts.framesDiscarded = g.link.counts.framesDiscarded + BitVec.ofNat 64 g.occupancy
      ∧ t.link.intake = [] ∧ t.store.inFlight = g.store.inFlight
  | .waiting => t.link.bare = g.link.bare ∧ t.assembler.stage.isSome = true ∧ t.store = g.store

/-- With a segment open the Head Mark may begin Stopping, and stops nothing at once (R108). -/
theorem State.testHeadMark_of_open (hopen : s.openEntry.isSome = true) :
    s.testHeadMark.link = s.link ∧ s.testHeadMark.store = s.store
      ∧ (s.testHeadMark.control.capture = .stopped ↔ s.control.capture = .stopped) := by
  cases hm : s.control.headMark with
  | none => simp [testHeadMark_of_none hm]
  | some m =>
    by_cases hle : m.lbn ≤ s.ring.head
    · rw [testHeadMark_of_reached hm hle, if_pos hopen]
      split
      next hstop => simp [headMarkFired, disarmHeadMark, hstop.2]
      next => simp [headMarkFired, disarmHeadMark]
    · simp [testHeadMark_of_above hm (not_le.mp hle)]

theorem State.enterStopped_ends (s : State) (reason : StopReason) :
    (s.enterStopped reason).control.capture = .stopped ∧ (s.enterStopped reason).link.intake = []
      ∧ (s.enterStopped reason).link.counts
          = { s.link.counts with framesDiscarded := s.link.counts.framesDiscarded + BitVec.ofNat 64 s.occupancy }
      ∧ (s.enterStopped reason).store.inFlight = s.store.inFlight := by
  obtain ⟨hcontrol, -, -, -, -, -, -, hstore, -⟩ := s.enterStopped_enteredStopped reason
  refine ⟨?_, ?_, ?_, ?_⟩
  · rw [hcontrol]
  · rw [enterStopped_link, discardIntake_link]
  · rw [enterStopped_link, discardIntake_link]
  · rw [hstore]

namespace Fate

variable {rest : List IntakeItem} {x : Fate}

/-- What a frame has come to stands where the counters, intake, the operations in flight and the entry to Stopped stand. -/
theorem holds_of_settled (hx : x = .placed ∨ x = .dropped) (h : x.holds g f rest s) (hlink : t.link.bare = s.link.bare)
    (hflight : t.store.inFlight = s.store.inFlight)
    (hstopped : t.control.capture = .stopped ↔ s.control.capture = .stopped) : x.holds g f rest t := by
  obtain ⟨hintake, hadmitted, hdropped, -⟩ := Link.of_bare hlink
  obtain rfl | rfl := hx <;> simpa only [holds, hadmitted, hdropped, hintake, hflight, hstopped] using h

/-- A move that touches neither the capture state nor the frame. -/
theorem holds_of_same (hx : x.goesOn = true) (h : x.holds g f rest s) (hcapture : t.control.capture = s.control.capture)
    (hlink : t.link.bare = s.link.bare) (hstore : t.store = s.store)
    (hplace : x = .pending → t.placeOf f = s.placeOf f) : x.holds g f rest t := by
  have settled (hx : x = .placed ∨ x = .dropped) : x.holds g f rest t :=
    holds_of_settled hx h hlink (by rw [hstore]) (by rw [hcapture])
  cases x with
  | pending =>
    obtain ⟨hc, hl, hs, hp⟩ := h
    exact ⟨hcapture.trans hc, hlink.trans hl, hstore.trans hs, (hplace rfl).trans hp⟩
  | placed => exact settled (.inl rfl)
  | dropped => exact settled (.inr rfl)
  | ended => cases hx
  | waiting => cases hx

/-- The frame leaves intake, and its payload is placed with one admission write. -/
theorem placed_of_pending {loss : Option LossRecord} (hintake : g.link.intake = .frame f loss :: rest)
    (hgoes : g.control.capture ≠ .stopped) (hpower : s.power = g.power) (h : pending.holds g f rest s)
    (hfits : (s.placeOf f).2 + f.payload.length ≤ blockBytes) (hcapture : t.control.capture = s.control.capture)
    (hleft : t.link.intake = s.link.intake.tail)
    (hadmitted : t.link.counts.framesAdmitted = s.link.counts.framesAdmitted + 1)
    (hdropped : t.link.counts.framesDroppedOverrun = s.link.counts.framesDroppedOverrun)
    (hflight : t.store.inFlight = s.store.inFlight ++ [s.writeOf f (s.placeOf f).1 (s.placeOf f).2]) : placed.holds g f rest t := by
  obtain ⟨hc, hl, hs, hp⟩ := h
  obtain ⟨hintake', hadmitted', hdropped', -⟩ := Link.of_bare hl
  rw [hp] at hfits hflight
  refine ⟨by rw [hadmitted, hadmitted'], hdropped.trans hdropped', ?_, ?_, hfits⟩
  · rw [if_neg (by rwa [hcapture, hc]), hleft, hintake', hintake]
    rfl
  · rw [hflight, hs, State.writeOf_congr hpower]

/-- The frame leaves intake and is counted as dropped. -/
theorem dropped_of_pending {loss : Option LossRecord} (hintake : g.link.intake = .frame f loss :: rest)
    (hgoes : g.control.capture ≠ .stopped) (h : pending.holds g f rest s) : dropped.holds g f rest s.dropFront := by
  obtain ⟨hc, hl, hs, hp⟩ := h
  rw [State.dropFront_eq]
  obtain ⟨hintake', hadmitted', hdropped', -⟩ := Link.of_bare hl
  refine ⟨hadmitted', congrArg (· + 1) hdropped', ?_, congrArg Store.inFlight hs⟩
  · have hcapture : s.frameDropped.control.capture ≠ .stopped := fun h => hgoes (hc ▸ h)
    have hleft : s.frameDropped.link.intake = s.link.intake.tail := rfl
    rw [if_neg hcapture, hleft, hintake', hintake]
    rfl

/-- An entry to Stopped discards intake, the frame under working with it where it still stands at the front. -/
theorem holds_stopped (hx : x.goesOn = true) (reason : StopReason) (h : x.holds g f rest s)
    (hended : x = .pending → s.control.capture = .stopping ∧ f.startFlag = true) :
    x.stopped.holds g f rest (s.enterStopped reason) := by
  obtain ⟨hcapture, hintake, hcounts, hflight⟩ := s.enterStopped_ends reason
  cases x with
  | pending =>
    obtain ⟨hc, hl, hs, hp⟩ := h
    obtain ⟨hstopping, hstart⟩ := hended rfl
    obtain ⟨hintake', hadmitted, hdropped, hdiscarded⟩ := Link.of_bare hl
    have hoccupancy : s.occupancy = g.occupancy := congrArg framesIn hintake'
    exact ⟨hc ▸ hstopping, hstart, hcapture, by rw [hcounts]; exact hadmitted, by rw [hcounts]; exact hdropped,
      by rw [hcounts, hoccupancy, hdiscarded], hintake, by rw [hflight, hs]⟩
  | placed =>
    obtain ⟨hadmitted, hdropped, -, hwrite, hfits⟩ := h
    exact ⟨by rw [hcounts]; exact hadmitted, by rw [hcounts]; exact hdropped, by rw [if_pos hcapture, hintake], hflight.trans hwrite, hfits⟩
  | dropped =>
    obtain ⟨hadmitted, hdropped, -, hsame⟩ := h
    exact ⟨by rw [hcounts]; exact hadmitted, by rw [hcounts]; exact hdropped, by rw [if_pos hcapture, hintake], hflight.trans hsame⟩
  | ended => cases hx
  | waiting => cases hx

end Fate

theorem WorkMove.fate {b b' : Bool} {x x' : Fate} {rest : List IntakeItem} {loss : Option LossRecord}
    (hintake : g.link.intake = .frame f loss :: rest) (hgoes : g.control.capture ≠ .stopped) (hsize : f.payload.length ≤ blockBytes)
    (hpower : s.power = g.power) (hs : x.holds g f rest s) (h : WorkMove before f b x s b' x' t) : x'.holds g f rest t := by
  cases h with
  | recordLoss =>
    exact Fate.holds_of_same rfl hs (by simp) (by simp) (by simp) fun _ =>
      State.placeOf_congr (by simp) (s.recordLoss_fillingBlock _ _) f
  | sealed hx hplace hsealed =>
    exact Fate.holds_of_same hx hs (by simp) s.sealFilling_link_bare (by simp) fun hx => State.placeOf_sealFilling (hplace hx) hsealed
  | close hx reason hopen hplace =>
    refine Fate.holds_of_same hx hs (by simp) (s.closeSegment_link_bare reason) (by simp) fun hx => ?_
    rw [State.placeOf_of_startFlag (hplace hx), State.placeOf_of_startFlag (hplace hx), State.closeSegment_ring_head]
  | stop hx reason hreason hopen hfilling hended => exact Fate.holds_stopped hx reason hs hended
  | swap =>
    refine Fate.holds_of_same rfl hs (by simp) s.activate_link_bare (by simp) fun _ => ?_
    exact State.placeOf_congr (by simp) (by simp [State.fillingBlock]) f
  | discardCarried => exact Fate.holds_of_same rfl hs rfl rfl rfl fun _ => rfl
  | stale => exact hs
  | leaves hleaves hfilling =>
    have hhead := hleaves.head
    have hnone := hleaves.fillingBlock hfilling
    refine Fate.holds_of_same rfl hs ?_ hleaves.link_bare ?_ fun _ => State.placeOf_congr hhead (hnone.trans hfilling.symm) f
    · cases hleaves <;> simp
    · cases hleaves <;> simp
  | settle hx =>
    refine Fate.holds_of_same hx hs (by simp) (s.settleRing_link_bare before) (by simp) fun _ => ?_
    exact State.placeOf_congr (by simp) (by simp [State.fillingBlock]) f
  | openSegment loss hopen hfilling =>
    have hplace := State.placeOf_of_none hfilling f
    exact Fate.placed_of_pending hintake hgoes hpower hs (by simpa [hplace] using hsize) rfl rfl rfl rfl (by rw [hplace]; rfl)
  | openNext hopen hfilling =>
    obtain ⟨e, he⟩ := Option.isSome_iff_exists.mp hopen
    have hplace := State.placeOf_of_none hfilling f
    rw [← State.nextBlockOpened_eq he]
    exact Fate.placed_of_pending hintake hgoes hpower hs (by simpa [hplace] using hsize) rfl rfl rfl rfl (by rw [hplace]; rfl)
  | append b hopen hfilling hstart hfits =>
    have hplace : s.placeOf f = (b.lbn, b.fillBytes) := by simp [State.placeOf, hfilling, hstart, hfits]
    exact Fate.placed_of_pending hintake hgoes hpower hs (by rw [hplace]; exact hfits) rfl rfl rfl rfl (by rw [hplace]; rfl)
  | headMark hopen =>
    obtain ⟨hlink, hstore, hstopped⟩ := State.testHeadMark_of_open hopen
    exact Fate.holds_of_settled (.inl rfl) hs (by rw [hlink]) (by rw [hstore]) hstopped
  | actOn => exact Fate.holds_of_same rfl hs rfl rfl rfl (by simp)
  | drop => exact Fate.dropped_of_pending hintake hgoes hs
  | notice => exact Fate.holds_of_same rfl hs (by simp) (by simp) (by simp) (by simp)
  | gap => exact Fate.holds_of_same rfl hs (by simp) (by simp) (by simp) (by simp)
  | dropContinuation hx => exact Fate.holds_of_same hx hs rfl rfl rfl fun _ => rfl
  | wait =>
    obtain ⟨-, hl, hstore, -⟩ := hs
    exact ⟨hl, rfl, hstore⟩

theorem Working.fate {b : Bool} {x : Fate} {rest : List IntakeItem} {loss : Option LossRecord}
    (hintake : g.link.intake = .frame f loss :: rest) (hgoes : g.control.capture ≠ .stopped) (hsize : f.payload.length ≤ blockBytes)
    (h : Working before f false .pending g b x t) : x.holds g f rest t := by
  have hkept : t.power = g.power ∧ x.holds g f rest t := by
    refine h.keeps (K := fun _ x u => u.power = g.power ∧ x.holds g f rest u) (fun hs hm => ?_) ⟨rfl, rfl, rfl, rfl, rfl⟩
    exact ⟨hm.undisturbed.power.trans hs.1, hm.fate hintake hgoes hsize hs.1 hs.2⟩
  exact hkept.2

/-- The end of an act leaves every answer of the act. -/
theorem TakesEnd.endAct {kind : Status → Prop} (h : TakesEnd kind s.beginAct t) {k : ParkedTake} (hk : k ∈ s.drain.parkedTakes)
    (hgone : k ∉ t.drain.parkedTakes) : ∃ r ∈ t.endAct.sent, r.port = .archive ∧ r.tag = k.tag ∧ kind r.status := by
  obtain ⟨r, hr, hanswer⟩ := h.answered k hk hgone
  exact ⟨_, List.mem_map_of_mem hr, hanswer⟩

theorem State.present_waiting (hadmission : s.store.admission = false) (hstage : s.assembler.stage.isSome = true) : s.present = s := by
  obtain ⟨ring, link, ⟨_, _, _, _, stage⟩, index, control, drain, pins, ⟨_, _, _, _, _, _, admission⟩, _⟩ := s
  cases stage with
  | none => cases hstage
  | some stage =>
    cases hadmission
    simp [present, mapStore]

section
variable {loss : Option LossRecord} {rest : List IntakeItem}

/-- A frame stands at the front of intake while capture is Running or Stopping alone, and its payload fits in a block (R30, R39). -/
theorem AssemblyForm.front (h : AssemblyForm s) (hfront : s.link.intake = .frame f loss :: rest) :
    s.control.capture ≠ .stopped ∧ f.payload.length ≤ blockBytes := by
  obtain ⟨hidle, -, -, -, -, hsized, -⟩ := h
  refine ⟨fun hstopped => ?_, ?_⟩
  · have hempty := (hidle (by simp [State.capturing, hstopped])).1
    simp [hfront] at hempty
  · have hwell : (IntakeItem.frame f loss).wellSized := hsized _ (by rw [hfront]; exact List.mem_cons_self)
    exact hwell.2.1.trans (by decide)

/-- What a grant comes to. -/
theorem exec_grant_fate (hadmission : s.store.admission = true) (hflight : s.store.inFlight.length < 3)
    (hfront : s.link.intake = .frame f loss :: rest) (hr : RingForm s) (ha : AssemblyForm s) :
    ∃ (x : Fate) (u : State), x ≠ .pending ∧ exec .admissionGrant s = .next u.present.endAct ∧ Undisturbed s.granted.beginAct u
      ∧ x.holds s.granted.beginAct f rest u := by
  obtain ⟨x, hx, hwork⟩ := State.granted_worked hr ha f loss
  obtain ⟨hgoes, hsize⟩ := ha.front hfront
  exact ⟨x, _, hx, exec_admissionGrant hadmission hflight hfront, hwork.undisturbed, hwork.fate hfront hgoes hsize⟩

end

end Sys2Proof.Machine

namespace Sys2Proof.Proofs
open Sys2Proof.Machine

/-- Settles O25: the fate of the frame is kept through the moves of its working; a MissingEnd close and a working that resumes follow the steps of the
working. -/
theorem grantPlacesDropsDiscardsOrWaits : Obligations.GrantPlacesDropsDiscardsOrWaits := by
  unfold Obligations.GrantPlacesDropsDiscardsOrWaits
  refine ⟨fun s f loss rest hadmission hflight hfront hr ha => ?_,
    fun s f loss rest r hadmission hflight hstage hfront hstart hopen hr ha heq =>
      exec_grant_missingEnd hadmission hflight hstage hfront hstart hopen hr ha heq,
    fun s f loss rest stage hadmission hflight hstage hfront hr ha => ?_⟩
  · obtain ⟨x, u, hx, hexec, hundisturbed, hfate⟩ := exec_grant_fate hadmission hflight hfront hr ha
    refine ⟨_, hexec, ?_, hundisturbed.pins, hundisturbed.power, ?_, fun k hk hgone => ?_, ?_⟩
    · exact hundisturbed.memory
    · exact hundisturbed.contexts
    · exact TakesEnd.endAct (t := u) (s := s.granted) hundisturbed.takes hk hgone
    · cases x with
      | pending => exact absurd rfl hx
      | placed =>
        obtain ⟨hadmitted, hdropped, hintake, hwrite, hfits⟩ := hfate
        refine .inl ⟨hadmitted, hdropped, hintake, fun lbn offset hplace => ?_⟩
        have hplace' : s.granted.beginAct.placeOf f = (lbn, offset) := hplace.symm
        rw [hplace'] at hwrite hfits
        exact ⟨hwrite, hfits⟩
      | dropped => exact .inr (.inl hfate)
      | ended => exact .inr (.inr (.inl hfate))
      | waiting =>
        obtain ⟨hlink, hstage, hstore⟩ := hfate
        have hsame := State.present_waiting (hundisturbed.admission rfl) hstage
        rw [hsame]
        exact .inr (.inr (.inr ⟨Link.eq_of_bare hlink, hstage, hstore⟩))
  · obtain ⟨t, u, hexec, hpresented, hroom, hblock, hnext⟩ := exec_grant_resumes hadmission hflight hstage hfront hr ha
    refine ⟨t, u, hexec, hpresented, ?_⟩
    cases stage with
    | makeRoom => exact hroom rfl
    | openBlock => exact hblock rfl
    | nextBlock => exact hnext rfl

end Sys2Proof.Proofs

/-!
Flush and the idle-flush expiry (O27), and a Tail block that leaves the ring (O30).
-/
namespace Sys2Proof.Machine

variable {s t u : State} {h : Header} {b : Block} {k : ParkedTake} {e : Entry}

/-! ## The answer of the take that a seal serves (R116, R118) -/

/-- A parked take has completed OK in the act with the Claim record of a block, as the entry of its segment stands. -/
def ClaimSent (t : State) (k : ParkedTake) (b : Block) (e : Entry) : Prop :=
  ∃ x ∈ t.sent, x.port = .archive ∧ x.tag = k.tag ∧ x.kind = RequestKind.code .take ∧ x.status = .ok
    ∧ x.result =
      .claim
        { lbn := b.lbn, segment := b.segment, fillBytes := b.fillBytes, firstOfSegment := decide (b.lbn = e.firstLbn)
          lastOfSegment := e.closeReason.isSome && decide (b.lbn + 1 = e.firstLbn + e.blockCount), damaged := b.damaged }
    ∧ x.data = []

theorem ClaimSent.mono (hst : ClaimSent s k b e) (hsent : s.sent ⊆ t.sent) : ClaimSent t k b e := by
  obtain ⟨x, hx, hrest⟩ := hst
  exact ⟨x, hsent hx, hrest⟩

/-- At the end of the act every response receives its Top Notice. -/
theorem ClaimSent.endAct (hst : ClaimSent s k b e) : ClaimAnswered s.endAct k b e := by
  obtain ⟨⟨port, tag, kind, status, top, result, data⟩, hx, rfl, rfl, rfl, rfl, rfl, rfl⟩ := hst
  exact List.mem_map.mpr ⟨_, hx, rfl⟩

/-- From `s` to `t` the Filling block was sealed, and the parked take that receives it, if one does, has its Claim record among the responses. -/
def SealSent (s t : State) : Prop :=
  ∀ (b : Block) (k : ParkedTake) (e : Entry), s.fillingBlock = some b → b.archiveRequired = true →
    s.takerOf b.lbn = some k → s.findEntry b.segment = some e → ClaimSent t k b e

theorem SealSent.mono (hst : SealSent s t) (hsent : t.sent ⊆ u.sent) : SealSent s u :=
  fun b k e hb hrequired hk he => (hst b k e hb hrequired hk he).mono hsent

theorem SealSent.endAct (hst : SealSent s t) : SealAnswered s t.endAct :=
  fun b k e hb hrequired hk he => (hst b k e hb hrequired hk he).endAct

theorem State.findBlock_of_mem (hd : (s.ring.blocks.map Block.lbn).Nodup) (hb : b ∈ s.ring.blocks) : s.findBlock b.lbn = some b := by
  obtain ⟨x, hx⟩ := findBlock_isSome_of_mem hb
  rw [hx, List.inj_on_of_nodup_map hd (List.mem_of_find?_eq_some hx) hb (lbn_of_findBlock hx)]

theorem SealSent.sealFilling (hd : (s.ring.blocks.map Block.lbn).Nodup) : SealSent s s.sealFilling := by
  intro b k e hb hrequired hk he
  obtain ⟨hnone, -⟩ | ⟨j, x, -, hj, hx, heq⟩ := State.sealFilling_cases hb
  · simp [hnone hrequired] at hk
  · obtain rfl : j = k := Option.some.inj (hj.symm.trans hk)
    obtain rfl : b = x := Option.some.inj ((State.findBlock_of_mem hd (State.mem_of_fillingBlock hb).1).symm.trans hx)
    have hentry : ((s.sealOne b).raise .blockSealed).findEntry b.segment = some e := by
      simpa [State.findEntry, State.sealOne, State.unclaim] using he
    rw [heq, State.serveTake, ClaimSent, State.answer_sent]
    refine ⟨_, List.mem_append_right _ (List.mem_singleton.mpr rfl), rfl, rfl, rfl, rfl, ?_, rfl⟩
    simp [State.claimRecord, hentry, Entry.isOpen]

theorem RingForm.lbns_nodup (hr : RingForm s) : (s.ring.blocks.map Block.lbn).Nodup :=
  (TableForm.of_ringForm hr).distinct

/-! ## Seals outside a working (R52, R53) -/

theorem State.afterSeal_congr (hu : t.unsignalled = s.unsignalled) : t.afterSeal.unsignalled = s.afterSeal.unsignalled := by
  obtain ⟨flags, viewerPort, archivePort, sent, rfl⟩ := eq_of_unsignalled hu
  have hfilling : fillingBlock { s with flags := flags, viewerPort := viewerPort, archivePort := archivePort, sent := sent }
      = s.fillingBlock := rfl
  have hblocks : sealedBlocks { s with flags := flags, viewerPort := viewerPort, archivePort := archivePort, sent := sent }
      = s.sealedBlocks := rfl
  unfold afterSeal
  rw [hfilling, hblocks]
  cases s.fillingBlock <;> rfl

theorem State.afterSeal_of_some (hb : s.fillingBlock = some b) :
    s.afterSeal
      = { s with
          ring := { s.ring with blocks := s.sealedBlocks }
          drain :=
            { s.drain with
              parkedTakes := s.drain.parkedTakes.filter fun k => !(b.archiveRequired && decide (s.takerOf b.lbn = some k)) }
          link := { s.link with counts := { s.link.counts with blocksSealed := s.link.counts.blocksSealed + 1 } } } := by
  rw [afterSeal, hb]

theorem State.sealEvents_of_some (hb : s.fillingBlock = some b) : s.sealEvents = [.blockSealed] := by
  simp [sealEvents, hb]

theorem exec_flush (ht : Taken s .viewer h 0) :
    exec (.flush h) s
      = .next ((s.opened .viewer h .flush).sealFilling.replied .viewer h .flush .ok (.sealedLbn (s.fillingBlock.map Block.lbn))) := by
  refine congrArg Host.Outcome.next ((State.request_taken ht).trans ?_)
  rw [State.opened_fillingBlock]
  rfl

theorem exec_flush_empty (ht : Taken s .viewer h 0) (hnone : s.fillingBlock = none) :
    exec (.flush h) s = .next (s.answered .viewer h .flush .ok (.sealedLbn none)) := by
  have hopened : (s.opened .viewer h .flush).fillingBlock = none := (s.opened_fillingBlock ..).trans hnone
  rw [exec_flush ht, State.sealFilling_of_none hopened, hnone]
  exact congrArg Host.Outcome.next (State.opened_answer ht.2.2.2)

theorem exec_flush_seals (ht : Taken s .viewer h 0) (hb : s.fillingBlock = some b) :
    ∃ t, exec (.flush h) s = .next t ∧ t.answers .viewer h .flush .ok (.sealedLbn (some b.lbn)) ∧ (RingForm s → SealAnswered s t)
      ∧ Signalled (s.reached .viewer) t [.blockSealed] [] ∧ t.unsignalled = s.afterSeal.unsignalled := by
  have hopened : (s.opened .viewer h .flush).fillingBlock = some b := (s.opened_fillingBlock ..).trans hb
  have hsealed := Becomes.sealFilling (s.opened .viewer h .flush)
  rw [State.sealEvents_of_some hopened] at hsealed
  refine ⟨_, exec_flush ht, ?_, fun hr => ?_, hsealed.1.replied ht, ?_⟩
  · rw [hb]
    exact State.replied_answers _
  · have hsent : SealSent (s.opened .viewer h .flush) (s.opened .viewer h .flush).sealFilling :=
      .sealFilling (by rw [State.opened_ring]; exact hr.lbns_nodup)
    have hreplied := (hsent.mono (u := (s.opened .viewer h .flush).sealFilling.answer .viewer h.tag .flush .ok
      (.sealedLbn (s.fillingBlock.map Block.lbn))) (by rw [State.answer_sent]; exact List.subset_append_left _ _)).endAct
    exact fun b k e hb hrequired hk he => hreplied b k e (by rwa [State.opened_fillingBlock]) hrequired
      (by simpa [State.takerOf] using hk) (by simpa [State.findEntry] using he)
  · rw [State.replied_unsignalled, hsealed.2]
    exact State.afterSeal_congr (by simp)

/-- The idle-flush timer has been stopped. -/
def State.timerStopped (s : State) : State :=
  { s with assembler := { s.assembler with idleFlush := none } }

theorem exec_idleFlushExpiry (hrunning : s.assembler.idleFlush.isSome = true) :
    exec .idleFlushExpiry s = .next s.beginAct.timerStopped.sealFilling.endAct := by
  have hrunning' : s.beginAct.assembler.idleFlush.isSome = true := hrunning
  change Host.Outcome.next (s.act fun s =>
    if s.assembler.idleFlush.isSome then (s.mapAssembler fun a => { a with idleFlush := none }).sealFilling else s) = _
  rw [State.act, if_pos hrunning']
  rfl

theorem exec_idleFlushExpiry_stopped (hstopped : s.assembler.idleFlush = none) : exec .idleFlushExpiry s = .next s.silent := by
  have hstopped' : s.beginAct.assembler.idleFlush.isSome ≠ true := by simp [hstopped]
  change Host.Outcome.next (s.act fun s =>
    if s.assembler.idleFlush.isSome then (s.mapAssembler fun a => { a with idleFlush := none }).sealFilling else s) = _
  rw [State.act, if_neg hstopped']
  rfl

theorem exec_idleFlushExpiry_empty (hrunning : s.assembler.idleFlush.isSome = true) (hnone : s.fillingBlock = none) :
    exec .idleFlushExpiry s = .next s.timerStopped.silent := by
  have hnone' : s.beginAct.timerStopped.fillingBlock = none := hnone
  rw [exec_idleFlushExpiry hrunning, State.sealFilling_of_none hnone']
  rfl

theorem exec_idleFlushExpiry_seals (hrunning : s.assembler.idleFlush.isSome = true) (hb : s.fillingBlock = some b) :
    ∃ t, exec .idleFlushExpiry s = .next t ∧ Signalled s t [.blockSealed] [] ∧ (RingForm s → SealAnswered s t)
      ∧ t.unsignalled = s.timerStopped.afterSeal.unsignalled := by
  have hb' : s.beginAct.timerStopped.fillingBlock = some b := hb
  have hsealed := Becomes.sealFilling s.beginAct.timerStopped
  rw [State.sealEvents_of_some hb'] at hsealed
  have hstopped : Signalled s s.beginAct.timerStopped [] [] := .of_eq rfl fun p => by cases p <;> rfl
  refine ⟨_, exec_idleFlushExpiry hrunning, ?_, fun hr => ?_, ?_⟩
  · exact (hstopped.trans (List.Subset.refl _) hsealed.1).endAct
  · exact (SealSent.sealFilling (s := s.beginAct.timerStopped) hr.lbns_nodup).endAct
  · exact hsealed.2.trans (State.afterSeal_congr rfl)

/-! ## A Tail block that leaves the ring (R12, R17, R22) -/

theorem Entry.stays_eq (e : Entry) :
    (e.isOpen || !e.emptied) = decide (e.closeReason = none ∨ e.presentFrom ≠ e.firstLbn + e.blockCount) := by
  rw [Bool.eq_iff_iff]
  simp [isOpen, emptied]

theorem Entry.afterLeave_recycled (b : Block) :
    Entry.afterLeave b false = fun e => if e.number = b.segment then { e with presentFrom := e.presentFrom + 1 } else e := by
  funext e
  simp [afterLeave]

theorem Entry.afterLeave_evicted (b : Block) :
    Entry.afterLeave b true = fun e =>
      if e.number = b.segment then
        { e with
          presentFrom := e.presentFrom + 1
          evictedUnarchived := e.evictedUnarchived + BitVec.ofNat 64 (b.fillBytes / e.bpp)
          frontEvicted := true }
      else e := by
  funext e
  simp [afterLeave]

/-- The index once a block has left: its entry has advanced, and retires if it is Closed and none of its blocks is held (R82, R83). -/
theorem State.leavingReport_index_eq (s : State) (b : Block) (evicted : Bool) :
    (s.leavingReport b evicted).index
      = (s.index.map (Entry.afterLeave b evicted)).filter fun e =>
          decide (e.closeReason = none ∨ e.presentFrom ≠ e.firstLbn + e.blockCount) := by
  rw [leavingReport_index]
  exact List.filter_congr fun e _ => e.stays_eq

/-- A leaving report changes the index alone. -/
theorem State.leavingReport_eq (s : State) (b : Block) (evicted : Bool) :
    s.leavingReport b evicted = { s with index := (s.leavingReport b evicted).index } := rfl

end Sys2Proof.Machine

namespace Sys2Proof.Proofs
open Sys2Proof.Machine

/-- Settles O27: both seal the Filling block by the one act of a seal. -/
theorem flushAndIdleFlushSeal : Obligations.FlushAndIdleFlushSeal := by
  unfold Obligations.FlushAndIdleFlushSeal
  refine ⟨fun h s ht hnone => exec_flush_empty ht hnone, fun h b s ht hb => ?_, fun s hstopped => exec_idleFlushExpiry_stopped hstopped,
    fun s hrunning hnone => exec_idleFlushExpiry_empty hrunning hnone, fun b s hrunning hb => ?_⟩
  · obtain ⟨t, hexec, hanswer, hseal, hsignalled, hdata⟩ := exec_flush_seals ht hb
    exact ⟨t, hexec, hanswer, hseal, hsignalled, by rw [hdata, State.afterSeal_of_some hb]⟩
  · obtain ⟨t, hexec, hsignalled, hseal, hdata⟩ := exec_idleFlushExpiry_seals hrunning hb
    exact ⟨t, hexec, hsignalled, hseal, by rw [hdata, State.afterSeal_of_some (s := s.timerStopped) hb]; rfl⟩

/-- Settles O30: the Tail block leaves by the leaving report of its entry. -/
theorem tailBlockLeavesTheRing : Obligations.TailBlockLeavesTheRing := by
  unfold Obligations.TailBlockLeavesTheRing
  intro s b
  refine ⟨?_, (Becomes.evictTail s b).1, ?_⟩
  · rw [State.recycleTail, State.leavingReport_eq, State.leavingReport_index_eq, Entry.afterLeave_recycled]
    rfl
  · rw [State.evictTail, State.raiseNotice_unsignalled, State.leavingReport_eq, State.leavingReport_index_eq, Entry.afterLeave_evicted]
    rfl

end Sys2Proof.Proofs

/-!
The halt marker and the resync marker at the front of intake (O28).
-/
namespace Sys2Proof.Machine

variable {s t u : State} {loss : Option LossRecord} {rest : List IntakeItem} {x : IntakeItem}

/-! ## A marker leaves intake (R38) -/

theorem framesIn_marker (hx : x.isFrame = false) (rest : List IntakeItem) : framesIn (x :: rest) = framesIn rest := by
  simp [framesIn, hx]

theorem State.takeMarker_occupancy (hfront : s.link.intake = x :: rest) (hx : x.isFrame = false) :
    s.takeMarker.occupancy = s.occupancy := by
  have htaken : s.takeMarker.occupancy = framesIn s.link.intake.tail := rfl
  have hheld : s.occupancy = framesIn s.link.intake := rfl
  rw [htaken, hheld, hfront, framesIn_marker hx]
  rfl

/-- A marker is no frame: what a stop at once makes of intake it makes of it with the marker at its front. -/
theorem StoppedAtOnce.of_takeMarker {close : CloseReason} {reason : StopReason} (hfront : s.link.intake = x :: rest) (hx : x.isFrame = false)
    (h : StoppedAtOnce s.takeMarker t close reason) : StoppedAtOnce s t close reason := by
  obtain ⟨entered, ring, index, counts, timers, takes, pins, power, pending⟩ := h
  have hoccupancy := State.takeMarker_occupancy hfront hx
  refine ⟨?_, ring, index, ?_, timers, takes, pins, power, pending⟩
  · exact entered.of_same rfl rfl rfl rfl ⟨_, _, _, _, rfl⟩ (by rw [hoccupancy]; rfl) rfl ⟨_, rfl⟩ rfl
  · rw [hoccupancy] at counts
    exact counts

theorem State.recordGap_takeMarker (s : State) (lost : Nat) (cause : GapCause) (mixed : Bool) :
    s.takeMarker.recordGap lost cause mixed = (s.recordGap lost cause mixed).takeMarker := by
  have hopen : s.takeMarker.openEntry = s.openEntry := rfl
  unfold recordGap
  rw [hopen]
  cases s.openEntry <;> rfl

theorem State.recordLoss_takeMarker (s : State) (loss : Option LossRecord) (stamp : Option Tick) :
    s.takeMarker.recordLoss loss stamp = (s.recordLoss loss stamp).takeMarker := by
  have hopen : s.takeMarker.openEntry = s.openEntry := rfl
  unfold recordLoss
  rw [hopen]
  cases loss with
  | none => rfl
  | some r =>
    cases s.openEntry with
    | none => rfl
    | some e => exact recordGap_takeMarker (s.mapOpen fun x => { x with stampConflict := x.stampConflict || (e.lossOf r stamp).2 }) _ _ _

/-- Recording a loss reaches neither the flags nor the ports. -/
theorem Signalled.recordLoss (s : State) (loss : Option LossRecord) (stamp : Option Tick) : Signalled s (s.recordLoss loss stamp) [] [] :=
  .of_eq (by simp) fun p => by cases p <;> simp [State.port]

/-- The state in which the front marker's loss record has been recorded and the marker has left. -/
def State.markerTaken (s : State) (loss : Option LossRecord) : State :=
  (s.recordLoss loss none).takeMarker

theorem Signalled.markerTaken (s : State) (loss : Option LossRecord) : Signalled s (s.markerTaken loss) [] [] :=
  (Signalled.recordLoss s loss none).of_ports rfl fun p => by cases p <;> rfl

theorem State.markerTaken_beginAct (s : State) (loss : Option LossRecord) : s.beginAct.markerTaken loss = (s.markerTaken loss).beginAct := by
  rw [markerTaken, recordLoss_beginAct]
  rfl

theorem State.markerTaken_drain (s : State) (loss : Option LossRecord) : (s.markerTaken loss).drain = s.drain :=
  s.recordLoss_drain loss none

theorem State.markerTaken_openEntry (s : State) (loss : Option LossRecord) : (s.markerTaken loss).openEntry.isSome = s.openEntry.isSome :=
  s.openEntry_recordLoss loss none

theorem State.markerTaken_fillingBlock (s : State) (loss : Option LossRecord) : (s.markerTaken loss).fillingBlock = s.fillingBlock :=
  s.recordLoss_fillingBlock loss none

theorem State.markerTaken_lbns_nodup (hr : RingForm s) (loss : Option LossRecord) :
    ((s.markerTaken loss).ring.blocks.map Block.lbn).Nodup := by
  have hring : (s.markerTaken loss).ring = s.ring := s.recordLoss_ring loss none
  rw [hring]
  exact hr.lbns_nodup

theorem State.markerTaken_closeEvents (s : State) (loss : Option LossRecord) : (s.markerTaken loss).closeEvents = s.closeEvents := by
  rw [closeEvents, closeEvents, markerTaken_openEntry, markerTaken_fillingBlock]

theorem State.markerTaken_stopEvents (s : State) (loss : Option LossRecord) (t : State) :
    (s.markerTaken loss).stopEvents t = s.stopEvents t := by
  have hring : (s.markerTaken loss).ring = s.ring := s.recordLoss_ring loss none
  rw [stopEvents, stopEvents, markerTaken_closeEvents, hring]

theorem State.markerTaken_control (s : State) (loss : Option LossRecord) : (s.markerTaken loss).control = s.control :=
  s.recordLoss_control loss none

/-! ## The halt marker (R60, R98) -/

theorem exec_haltMarkerWorked (hfront : s.link.intake = .haltMarker loss :: rest) :
    exec .haltMarkerWorked s = .next ((s.markerTaken loss).beginAct.closeAndStop .halt .halt).endAct := by
  have hfront' : s.beginAct.link.intake = .haltMarker loss :: rest := hfront
  change Host.Outcome.next (s.act fun s =>
    match s.link.intake with
    | .haltMarker loss :: _ => ((s.takeMarker.recordLoss loss none).closeSegment .halt).enterStopped .halt
    | _ => s) = _
  rw [State.act, ← State.markerTaken_beginAct, State.markerTaken, ← State.recordLoss_takeMarker]
  simp only [hfront']
  rfl

/-- The stop of an act that has taken a marker, as the statements have it: from the state in which the marker still stands at the front. -/
theorem State.markerTaken_stops (hfront : s.link.intake = x :: rest) (hx : x.isFrame = false) (hr : RingForm s)
    (close : CloseReason) (reason : StopReason) :
    StoppedAtOnce (s.recordLoss loss none) ((s.markerTaken loss).beginAct.closeAndStop close reason).endAct close reason
      ∧ Signalled s ((s.markerTaken loss).beginAct.closeAndStop close reason).endAct
          (s.stopEvents ((s.markerTaken loss).beginAct.closeAndStop close reason).endAct) [] := by
  have hfront' : (s.recordLoss loss none).link.intake = x :: rest := (congrArg Link.intake (s.recordLoss_link loss none)).trans hfront
  have hstopped : StoppedAtOnce (s.markerTaken loss) ((s.markerTaken loss).beginAct.closeAndStop close reason) close reason :=
    (State.closeAndStop_stoppedAtOnce (s := (s.markerTaken loss).beginAct) (s.markerTaken_lbns_nodup hr loss) close reason).of_beginAct
  have hsignalled : Signalled (s.markerTaken loss) ((s.markerTaken loss).beginAct.closeAndStop close reason)
      ((s.markerTaken loss).stopEvents ((s.markerTaken loss).beginAct.closeAndStop close reason)) [] :=
    (Signalled.closeAndStop (s.markerTaken loss).beginAct close reason).of_beginAct
  rw [State.markerTaken_stopEvents] at hsignalled
  generalize (s.markerTaken loss).beginAct.closeAndStop close reason = t at hstopped hsignalled
  refine ⟨(StoppedAtOnce.of_takeMarker hfront' hx hstopped).endAct, ?_⟩
  exact ((Signalled.markerTaken s loss).trans (State.markerTaken_drain s loss ▸ List.Subset.refl _) hsignalled).endAct

/-! ## The resync marker (R43, R60, R94) -/

theorem exec_resyncMarkerWorked (hfront : s.link.intake = .resyncMarker loss :: rest) :
    exec .resyncMarkerWorked s = .next ((s.markerTaken loss).beginAct.closeInCourse .linkReset).present.endAct := by
  have hfront' : s.beginAct.link.intake = .resyncMarker loss :: rest := hfront
  change Host.Outcome.next (s.act fun s =>
    match s.link.intake with
    | .resyncMarker loss :: _ => ((s.takeMarker.recordLoss loss none).closeInCourse .linkReset).present
    | _ => s) = _
  rw [State.act, ← State.markerTaken_beginAct, State.markerTaken, ← State.recordLoss_takeMarker]
  simp only [hfront']

/-- Recording a loss changes the open entry and the slice counter alone. -/
theorem State.recordLoss_eq (s : State) (loss : Option LossRecord) (stamp : Option Tick) :
    s.recordLoss loss stamp
      = { s with
          index := (s.recordLoss loss stamp).index
          assembler := { s.assembler with sliceCounter := (s.recordLoss loss stamp).assembler.sliceCounter } } := by
  have hgap (a : State) (lost : Nat) (cause : GapCause) (mixed : Bool) :
      a.recordGap lost cause mixed
        = { a with
            index := (a.recordGap lost cause mixed).index
            assembler := { a.assembler with sliceCounter := (a.recordGap lost cause mixed).assembler.sliceCounter } } := by
    unfold recordGap
    cases a.openEntry <;> rfl
  unfold recordLoss
  cases loss with
  | none => rfl
  | some r =>
    cases s.openEntry with
    | none => rfl
    | some e => exact hgap (s.mapOpen fun x => { x with stampConflict := x.stampConflict || (e.lossOf r stamp).2 }) _ _ _

/-- The data once the segment has closed behind a resync marker. -/
def State.resyncWorked (s : State) (loss : Option LossRecord) (rest : List IntakeItem) : State :=
  { s with
    ring := { s.ring with blocks := s.sealedBlocks }
    index := (s.recordLoss loss none).closedIndex .linkReset
    assembler := { s.assembler with idleFlush := none, sliceCounter := none }
    drain :=
      { s.drain with
        parkedTakes := s.drain.parkedTakes.filter fun k =>
          (s.fillingBlock.map fun b => !(b.archiveRequired && decide (s.takerOf b.lbn = some k))).getD true }
    link :=
      { s.link with
        intake := rest
        counts :=
          { s.link.counts with blocksSealed := s.link.counts.blocksSealed + if s.fillingBlock.isSome then 1 else 0 } }
    store :=
      { s.store with admission := frameInFront rest && (s.assembler.stage.isNone || s.store.admission) } }

theorem State.markerTaken_afterClose (hfront : s.link.intake = x :: rest) :
    ((s.markerTaken loss).afterClose .linkReset).present = s.resyncWorked loss rest := by
  have hrest : s.link.intake.tail = rest := by rw [hfront]; rfl
  have hfilling : (s.markerTaken loss).fillingBlock = s.fillingBlock := s.markerTaken_fillingBlock loss
  have hsealed : (s.markerTaken loss).sealedBlocks = s.sealedBlocks := by
    have hring : (s.markerTaken loss).ring = s.ring := s.recordLoss_ring loss none
    have htaker (n : Nat) : (s.markerTaken loss).takerOf n = s.takerOf n := by
      rw [takerOf, takerOf, markerTaken_drain]
    rw [sealedBlocks, sealedBlocks, hfilling, hring]
    simp only [htaker]
  have hindex : (s.markerTaken loss).closedIndex .linkReset = (s.recordLoss loss none).closedIndex .linkReset := rfl
  have heq : s.markerTaken loss
      = { s with
          index := (s.recordLoss loss none).index
          assembler := { s.assembler with sliceCounter := (s.recordLoss loss none).assembler.sliceCounter }
          link := { s.link with intake := rest } } := by
    rw [markerTaken, recordLoss_eq, ← hrest]
    rfl
  rw [afterClose, hindex, afterSeal, hfilling, hsealed, if_neg (by simp)]
  rw [heq, resyncWorked]
  cases hb : s.fillingBlock with
  | none =>
    have hblocks : s.sealedBlocks = s.ring.blocks := by rw [sealedBlocks, hb]
    simp [present, mapStore, frameInFront, hblocks]
  | some b => simp [present, mapStore, frameInFront, takerOf]

theorem exec_resyncMarkerWorked_idle (hfront : s.link.intake = .resyncMarker loss :: rest) (hopen : s.openEntry = none) :
    exec .resyncMarkerWorked s
      = .next
          (State.silent
            { s with
              link := { s.link with intake := rest }
              store := { s.store with admission := frameInFront rest && (s.assembler.stage.isNone || s.store.admission) } }) := by
  have hrest : s.link.intake.tail = rest := by rw [hfront]; rfl
  have htaken : s.markerTaken loss = s.takeMarker := by rw [State.markerTaken, State.recordLoss_of_none hopen]
  have hopen' : s.takeMarker.beginAct.openEntry = none := hopen
  rw [exec_resyncMarkerWorked hfront, htaken, State.closeInCourse, hopen', ← hrest]
  rfl

theorem exec_resyncMarkerWorked_stops (hfront : s.link.intake = .resyncMarker loss :: rest) (hopen : s.openEntry.isSome = true)
    (hstop : s.control.capture = .stopping) :
    exec .resyncMarkerWorked s = .next ((s.markerTaken loss).beginAct.closeAndStop .linkReset s.reasonOfClose).endAct := by
  have hopen' : (s.markerTaken loss).beginAct.openEntry.isSome = true := (s.markerTaken_openEntry loss).trans hopen
  have hcontrol : (s.markerTaken loss).beginAct.control = s.control := s.markerTaken_control loss
  have hreason : (s.markerTaken loss).beginAct.reasonOfClose = s.reasonOfClose := by
    rw [State.reasonOfClose, State.reasonOfClose, hcontrol]
  rw [exec_resyncMarkerWorked hfront, State.closeInCourse_of_stopping hopen' (hcontrol ▸ hstop), hreason, State.closeAndStop]
  rw [(State.enterStopped_enteredStopped _ _).present]

/-- Neither command acts where its marker is not at the front. -/
theorem exec_haltMarkerWorked_absent (hnot : ∀ loss, s.link.intake.head? ≠ some (IntakeItem.haltMarker loss)) :
    exec .haltMarkerWorked s = .next s.silent := by
  change Host.Outcome.next (s.act fun s =>
    match s.link.intake with
    | .haltMarker loss :: _ => ((s.takeMarker.recordLoss loss none).closeSegment .halt).enterStopped .halt
    | _ => s) = _
  have hintake : s.beginAct.link.intake = s.link.intake := rfl
  rw [State.act]
  rcases hfront : s.link.intake with _ | ⟨_ | loss | loss, rest⟩ <;> simp only [hintake, hfront]
  · rfl
  · rfl
  · rfl
  · exact absurd (by rw [hfront]; rfl) (hnot loss)

theorem exec_resyncMarkerWorked_absent (hnot : ∀ loss, s.link.intake.head? ≠ some (IntakeItem.resyncMarker loss)) :
    exec .resyncMarkerWorked s = .next s.silent := by
  change Host.Outcome.next (s.act fun s =>
    match s.link.intake with
    | .resyncMarker loss :: _ => ((s.takeMarker.recordLoss loss none).closeInCourse .linkReset).present
    | _ => s) = _
  have hintake : s.beginAct.link.intake = s.link.intake := rfl
  rw [State.act]
  rcases hfront : s.link.intake with _ | ⟨_ | loss | loss, rest⟩ <;> simp only [hintake, hfront]
  · rfl
  · rfl
  · exact absurd (by rw [hfront]; rfl) (hnot loss)
  · rfl

theorem SealSent.closeSegment (hd : (s.ring.blocks.map Block.lbn).Nodup) (hopen : s.openEntry.isSome = true) (reason : CloseReason) :
    SealSent s (s.closeSegment reason) := by
  obtain ⟨e, he⟩ := Option.isSome_iff_exists.mp hopen
  rw [State.closeSegment_of_open he]
  refine (SealSent.sealFilling hd).mono ?_
  rw [State.clearTimers_sent]
  exact State.raise_sent (s.sealFilling.closeEntry reason) .segmentClosed

/-- A gap leaves what a Claim record shows of an entry. -/
theorem Entry.addGap_extent (e : Entry) (lost : BitVec 64) (cause : GapCause) (mixed : Bool) :
    (e.addGap lost cause mixed).number = e.number ∧ (e.addGap lost cause mixed).firstLbn = e.firstLbn
      ∧ (e.addGap lost cause mixed).blockCount = e.blockCount ∧ (e.addGap lost cause mixed).closeReason = e.closeReason := by
  unfold addGap
  dsimp only
  (repeat' split) <;> exact ⟨rfl, rfl, rfl, rfl⟩

/-- A change of the open entry leaves what a Claim record shows of every entry, where it does so of the open one. -/
theorem State.findEntry_mapOpen {f : Entry → Entry} {n : Nat} {e : Entry}
    (hf : ∀ e : Entry, (f e).number = e.number ∧ (f e).firstLbn = e.firstLbn ∧ (f e).blockCount = e.blockCount ∧ (f e).closeReason = e.closeReason)
    (he : s.findEntry n = some e) :
    ∃ e', (s.mapOpen f).findEntry n = some e' ∧ e'.firstLbn = e.firstLbn ∧ e'.blockCount = e.blockCount ∧ e'.closeReason = e.closeReason := by
  have hnumber (x : Entry) : (if x.isOpen then f x else x).number = x.number := by
    split
    · exact (hf x).1
    · rfl
  refine ⟨if e.isOpen then f e else e, ?_, ?_⟩
  · rw [findEntry] at he ⊢
    have hmap : (s.mapOpen f).index = s.index.map fun x => if x.isOpen then f x else x := rfl
    rw [hmap, List.find?_map]
    have hsame : ((fun x : Entry => decide (x.number = n)) ∘ fun x : Entry => if x.isOpen then f x else x)
        = fun x : Entry => decide (x.number = n) := by
      funext x
      simp [hnumber]
    rw [hsame, he]
    rfl
  · split
    · exact (hf e).2
    · exact ⟨rfl, rfl, rfl⟩

theorem State.findEntry_recordLoss {n : Nat} {e : Entry} (stamp : Option Tick) (he : s.findEntry n = some e) :
    ∃ e', (s.recordLoss loss stamp).findEntry n = some e' ∧ e'.firstLbn = e.firstLbn ∧ e'.blockCount = e.blockCount
      ∧ e'.closeReason = e.closeReason := by
  have hgap {a : State} {x : Entry} (lost : Nat) (cause : GapCause) (mixed : Bool) (hx : a.findEntry n = some x) :
      ∃ e', (a.recordGap lost cause mixed).findEntry n = some e' ∧ e'.firstLbn = x.firstLbn ∧ e'.blockCount = x.blockCount
        ∧ e'.closeReason = x.closeReason := by
    unfold recordGap
    cases a.openEntry with
    | none => exact ⟨x, hx, rfl, rfl, rfl⟩
    | some _ => exact findEntry_mapOpen (fun e => e.addGap_extent _ _ _) hx
  unfold recordLoss
  cases loss with
  | none => exact ⟨e, he, rfl, rfl, rfl⟩
  | some r =>
    cases s.openEntry with
    | none => exact ⟨e, he, rfl, rfl, rfl⟩
    | some o =>
      obtain ⟨x, hx, hfirst, hcount, hclose⟩ := findEntry_mapOpen
        (f := fun x => { x with stampConflict := x.stampConflict || (o.lossOf r stamp).2 }) (fun _ => ⟨rfl, rfl, rfl, rfl⟩) he
      obtain ⟨e', he', hfirst', hcount', hclose'⟩ := hgap (o.lossOf r stamp).1 r.firstCause.gapCause (decide (1 < r.parts)) hx
      exact ⟨e', he', hfirst'.trans hfirst, hcount'.trans hcount, hclose'.trans hclose⟩

/-- A Claim record is the same with the loss record of a marker recorded. -/
theorem SealSent.of_markerTaken (h : SealSent (s.markerTaken loss) t) : SealSent s t := by
  intro b k e hb hrequired hk he
  obtain ⟨e', he', hfirst, hcount, hclose⟩ := State.findEntry_recordLoss (loss := loss) none he
  have hsent := h b k e' ((s.markerTaken_fillingBlock loss).trans hb) hrequired
    (by rwa [State.takerOf, State.markerTaken_drain, ← State.takerOf]) he'
  rw [ClaimSent, hfirst, hcount, hclose] at hsent
  exact hsent

theorem exec_resyncMarkerWorked_closes (hfront : s.link.intake = .resyncMarker loss :: rest) (hopen : s.openEntry.isSome = true)
    (hgoes : s.control.capture ≠ .stopping) :
    ∃ t, exec .resyncMarkerWorked s = .next t ∧ Signalled s t s.closeEvents [] ∧ (RingForm s → SealAnswered s t)
      ∧ t.unsignalled = (s.resyncWorked loss rest).unsignalled := by
  have hopen' : (s.markerTaken loss).beginAct.openEntry.isSome = true := (s.markerTaken_openEntry loss).trans hopen
  have hgoes' : (s.markerTaken loss).beginAct.control.capture ≠ .stopping := by
    have hcontrol : (s.markerTaken loss).beginAct.control = s.control := s.markerTaken_control loss
    rwa [hcontrol]
  have hclosed : Becomes (s.markerTaken loss) ((s.markerTaken loss).beginAct.closeSegment .linkReset)
      ((s.markerTaken loss).afterClose .linkReset) (s.markerTaken loss).closeEvents [] :=
    (Becomes.closeSegment hopen' .linkReset).of_beginAct (State.afterClose_beginAct _ _).symm
  rw [State.markerTaken_closeEvents] at hclosed
  have hpresented := (hclosed.map State.present rfl (fun p => by cases p <;> rfl) fun _ => rfl).endAct
  rw [State.markerTaken_afterClose hfront] at hpresented
  refine ⟨_, exec_resyncMarkerWorked hfront, ?_, fun hr => ?_, ?_⟩
  all_goals rw [State.closeInCourse_of_not_stopping _ hgoes']
  · exact (Signalled.markerTaken s loss).trans (State.markerTaken_drain s loss ▸ List.Subset.refl _) hpresented.1
  · have hsent : SealSent (s.markerTaken loss) ((s.markerTaken loss).beginAct.closeSegment .linkReset).present :=
      SealSent.closeSegment (s := (s.markerTaken loss).beginAct) (s.markerTaken_lbns_nodup hr loss) hopen' .linkReset
    exact hsent.of_markerTaken.endAct
  · exact hpresented.2

end Sys2Proof.Machine

namespace Sys2Proof.Proofs
open Sys2Proof.Machine

/-- Settles O28: a marker is taken with its loss record recorded, and the close or the stop follows. -/
theorem markersAreWorked : Obligations.MarkersAreWorked := by
  unfold Obligations.MarkersAreWorked
  refine ⟨⟨fun s loss rest hfront hr => ?_, fun s hnot => ?_⟩, fun s loss rest hfront => ⟨exec_resyncMarkerWorked_idle hfront, fun hopen hstop hr => ?_,
    fun hopen hgoes => exec_resyncMarkerWorked_closes hfront hopen hgoes⟩, fun s hnot => ?_⟩
  · exact ⟨_, exec_haltMarkerWorked hfront, State.markerTaken_stops hfront rfl hr .halt .halt⟩
  · exact exec_haltMarkerWorked_absent hnot
  · refine ⟨_, exec_resyncMarkerWorked_stops hfront hopen hstop, State.markerTaken_stops hfront rfl hr .linkReset _⟩
  · exact exec_resyncMarkerWorked_absent hnot

end Sys2Proof.Proofs

/-!
Start, Stop and StageProfile (O12 to O15).
-/
namespace Sys2Proof.Machine

variable {s t u : State} {h : Header}

/-! ## Start (R91) -/

theorem exec_start_wrongState (ht : Taken s .viewer h 0) (hstate : s.control.capture = .unformed ∨ s.capturing) :
    exec (.start h) s = .next (s.refused .viewer h .start .wrongState) := by
  refine congrArg Host.Outcome.next (State.request_refuse ht ?_)
  rw [State.opened_control]
  exact if_pos hstate

/-- In Idle and Stopped a Start is neither refused for its state nor without effect. -/
theorem State.not_wrongState_of_idle (hstate : s.control.capture = .idle ∨ s.control.capture = .stopped) :
    ¬(s.control.capture = .unformed ∨ s.control.capture = .running ∨ s.control.capture = .stopping) := by
  obtain hidle | hstopped := hstate
  · simp [hidle]
  · simp [hstopped]

theorem exec_start_asleep (ht : Taken s .viewer h 0) (hstate : s.control.capture = .idle ∨ s.control.capture = .stopped)
    (hasleep : ∃ g ∈ s.power.groupMap, s.power.groups[g].state ≠ .settled .active) :
    exec (.start h) s = .next (s.refused .viewer h .start .asleep) := by
  have hnot : s.mapActive = false := by
    rw [← Bool.not_eq_true, State.mapActive_iff]
    simpa using hasleep
  refine congrArg Host.Outcome.next (State.request_refuse ht ?_)
  rw [State.opened_control, State.opened_mapActive, hnot, if_neg (State.not_wrongState_of_idle hstate)]
  rfl

theorem exec_start (ht : Taken s .viewer h 0) (hstate : s.control.capture = .idle ∨ s.control.capture = .stopped)
    (hactive : ∀ g ∈ s.power.groupMap, s.power.groups[g].state = .settled .active) :
    exec (.start h) s = .next (s.startCapture.answered .viewer h .start .ok (.capture .running)) := by
  refine congrArg Host.Outcome.next (State.request_answer ht ht.2.2.2 ?_)
  rw [State.opened_control, State.opened_mapActive, State.mapActive_iff.mpr hactive, if_neg (State.not_wrongState_of_idle hstate)]
  simp only [State.startCapture, State.opened_mapControl, State.opened_mapLink]
  simp

/-! ## Stop (R92, R93) -/

theorem State.takeStop_badParam {mode : BitVec 8} (h0 : mode ≠ 0) (h1 : mode ≠ 1) : s.takeStop h mode = s.refuse .viewer h.tag .stop .badParam := by
  rw [takeStop, stopModeParam, yesNo, if_neg h0, if_neg h1]

theorem State.takeStop_wrongState {mode : BitVec 8} (hmode : mode = 0 ∨ mode = 1) (hidle : ¬ s.capturing) :
    s.takeStop h mode = s.refuse .viewer h.tag .stop .wrongState := by
  have hidle' : ¬(s.control.capture = .running ∨ s.control.capture = .stopping) := hidle
  obtain rfl | rfl := hmode <;> exact if_neg hidle'

theorem State.takeStop_atSegmentEnd (hcapturing : s.capturing) :
    s.takeStop h 0 = s.stopAtEnd.answer .viewer h.tag .stop .ok (.capture s.stopAtEnd.control.capture) :=
  if_pos hcapturing

theorem State.takeStop_now (hcapturing : s.capturing) :
    s.takeStop h 1
      = (s.stopAtOnce .stop .stop).answer .viewer h.tag .stop .ok (.capture (s.stopAtOnce .stop .stop).control.capture) := by
  have hmode : stopModeParam 1 = some true := rfl
  have hcapturing' : s.control.capture = .running ∨ s.control.capture = .stopping := hcapturing
  rw [takeStop, hmode]
  simp only [if_pos hcapturing', if_true]

/-- Both rows of a Stop come to Capture Control as the same request (assumption log 18). -/
theorem exec_stop (ht : Taken s .viewer h 1) (mode : BitVec 8) :
    exec (.stopAtSegmentEnd h mode) s = .next ((s.opened .viewer h .stop).takeStop h mode).endAct
      ∧ exec (.stopNow h mode) s = .next ((s.opened .viewer h .stop).takeStop h mode).endAct :=
  ⟨congrArg Host.Outcome.next (State.request_taken ht), congrArg Host.Outcome.next (State.request_taken ht)⟩

theorem exec_stop_refused (ht : Taken s .viewer h 1) {mode : BitVec 8} {status : Status}
    (hrefused : (s.opened .viewer h .stop).takeStop h mode = (s.opened .viewer h .stop).refuse .viewer h.tag .stop status) :
    exec (.stopAtSegmentEnd h mode) s = .next (s.refused .viewer h .stop status)
      ∧ exec (.stopNow h mode) s = .next (s.refused .viewer h .stop status) := by
  have hend : ((s.opened .viewer h .stop).takeStop h mode).endAct = s.refused .viewer h .stop status := by
    rw [hrefused]
    exact State.opened_answer ht.2.2.2
  rw [← hend]
  exact exec_stop ht mode

theorem State.opened_capturing (s : State) (p : Port) (h : Header) (k : RequestKind) : (s.opened p h k).capturing ↔ s.capturing := by
  rw [capturing, capturing, opened_control]

theorem exec_stopAtSegmentEnd_waits (ht : Taken s .viewer h 1) (hrunning : s.control.capture = .running) (hopen : s.openEntry.isSome = true) :
    exec (.stopAtSegmentEnd h 0) s
      = .next
          (State.answered { s with control := { s.control with capture := .stopping, stoppingReason := some .stop } } .viewer h .stop
            .ok (.capture .stopping)) := by
  rw [(exec_stop ht 0).1, State.takeStop_atSegmentEnd ((s.opened_capturing ..).mpr (.inl hrunning)), State.stopAtEnd,
    if_pos (by simpa using hrunning), if_pos (by simpa using hopen), State.opened_mapControl]
  simp only [State.opened_control]
  exact congrArg Host.Outcome.next (State.opened_answer ht.2.2.2)

theorem exec_stopAtSegmentEnd_again (ht : Taken s .viewer h 1) (hstopping : s.control.capture = .stopping) :
    exec (.stopAtSegmentEnd h 0) s = .next (s.answered .viewer h .stop .ok (.capture .stopping)) := by
  rw [(exec_stop ht 0).1, State.takeStop_atSegmentEnd ((s.opened_capturing ..).mpr (.inr hstopping)), State.stopAtEnd,
    if_neg (by simp [hstopping]), State.opened_control, hstopping]
  exact congrArg Host.Outcome.next (State.opened_answer ht.2.2.2)

/-- A stop at once in the act of a request that is answered with the state Stopped. -/
theorem stopped_replied {close : CloseReason} {reason : StopReason} {n : Nat} (ht : Taken s .viewer h n)
    (hstopped : StoppedAtOnce (s.opened .viewer h .stop) t close reason)
    (hsignalled : Signalled (s.opened .viewer h .stop) t ((s.opened .viewer h .stop).stopEvents t) []) :
    StoppedAtOnce s (t.replied .viewer h .stop .ok (.capture t.control.capture)) close reason
      ∧ (t.replied .viewer h .stop .ok (.capture t.control.capture)).answers .viewer h .stop .ok (.capture .stopped)
      ∧ Signalled (s.reached .viewer) (t.replied .viewer h .stop .ok (.capture t.control.capture))
          (s.stopEvents (t.replied .viewer h .stop .ok (.capture t.control.capture))) [] := by
  have hcapture : t.control.capture = .stopped := by rw [hstopped.entered.control]
  have hevents (r : Result) : (s.opened .viewer h .stop).stopEvents t = s.stopEvents (t.replied .viewer h .stop .ok r) := by
    simp [State.stopEvents, State.closeEvents]
  rw [hcapture]
  refine ⟨hstopped.congr (by simp) (by simp) fun x => State.mem_replied_sent, State.replied_answers _, ?_⟩
  rw [← hevents]
  exact hsignalled.replied ht

theorem exec_stopAtSegmentEnd_stops (ht : Taken s .viewer h 1) (hrunning : s.control.capture = .running) (hopen : s.openEntry = none) :
    ∃ t, exec (.stopAtSegmentEnd h 0) s = .next t ∧ StoppedAtOnce s t .stop .stop
      ∧ t.answers .viewer h .stop .ok (.capture .stopped) ∧ Signalled (s.reached .viewer) t (s.stopEvents t) [] := by
  have hopen' : (s.opened .viewer h .stop).openEntry = none := (s.opened_openEntry ..).trans hopen
  have hend : (s.opened .viewer h .stop).stopAtEnd = (s.opened .viewer h .stop).closeAndStop .stop .stop := by
    rw [State.stopAtEnd, if_pos (by simpa using hrunning), if_neg (by simp [hopen]), State.closeAndStop,
      State.closeSegment_of_none hopen']
  refine ⟨_, (exec_stop ht 0).1, ?_⟩
  rw [State.takeStop_atSegmentEnd ((s.opened_capturing ..).mpr (.inl hrunning)), hend]
  have hstopped := (s.opened .viewer h .stop).enterStopped_stoppedAtOnce hopen' .stop .stop
  have hsignalled := Signalled.closeAndStop (s.opened .viewer h .stop) .stop .stop
  rw [State.closeAndStop, State.closeSegment_of_none hopen'] at hsignalled ⊢
  exact stopped_replied ht hstopped hsignalled

theorem exec_stopNow_stops (ht : Taken s .viewer h 1) (hcapturing : s.capturing) (hr : RingForm s) :
    ∃ t, exec (.stopNow h 1) s = .next t ∧ StoppedAtOnce s t .stop .stop
      ∧ t.answers .viewer h .stop .ok (.capture .stopped) ∧ Signalled (s.reached .viewer) t (s.stopEvents t) [] := by
  refine ⟨_, (exec_stop ht 1).2, ?_⟩
  rw [State.takeStop_now ((s.opened_capturing ..).mpr hcapturing)]
  exact stopped_replied ht (State.stopAtOnce_stoppedAtOnce (by simpa using hr.lbns_nodup) _ _) (Signalled.stopAtOnce _ _ _)

/-! ## The validation of a profile (R101, R102) -/

theorem yesNo_eq_none {b : BitVec 8} : yesNo b = none ↔ 1 < b.toNat := by
  refine ⟨fun hnone => ?_, yesNo_of_gt⟩
  by_contra hle
  simp [yesNo_of_le (not_lt.mp hle)] at hnone

/-- A byte with three defined values has none of them exactly above 2. -/
theorem three_values_eq_none {α : Type} (x y z : α) {b : BitVec 8} :
    (if b = 0 then some x else if b = 1 then some y else if b = 2 then some z else none) = none ↔ 2 < b.toNat := by
  (repeat' split) <;> simp <;> bv_omega

theorem two_values_eq_none {α : Type} (x y : α) {b : BitVec 8} :
    (if b = 0 then some x else if b = 1 then some y else none) = none ↔ 1 < b.toNat := by
  (repeat' split) <;> simp <;> bv_omega

theorem validateProfile_eq_none {p : ProfileFields} :
    validateProfile p = none ↔
      profileNumbersOk p = false ∨ yesNo p.archiveRequired = none ∨ overrunPolicyParam p.overrunPolicy = none
        ∨ yesNo p.pauseOnCritical = none ∨ sliceModeParam p.sliceMode = none ∨ haltModeParam p.haltMode = none := by
  unfold validateProfile
  cases profileNumbersOk p
  · simp
  cases yesNo p.archiveRequired
  · simp
  cases overrunPolicyParam p.overrunPolicy
  · simp
  cases yesNo p.pauseOnCritical
  · simp
  cases sliceModeParam p.sliceMode
  · simp
  cases haltModeParam p.haltMode <;> simp

theorem profileNumbersOk_iff {p : ProfileFields} :
    profileNumbersOk p = true ↔
      (p.sampleWidth.toNat = 1 ∨ p.sampleWidth.toNat = 2)
        ∧ (p.channelCount.toNat = 1 ∨ p.channelCount.toNat = 2 ∨ p.channelCount.toNat = 4 ∨ p.channelCount.toNat = 8)
        ∧ (1 ≤ p.tickStep.toNat ∧ p.tickStep.toNat ≤ 65536)
        ∧ (1 ≤ p.pressedThreshold.toNat ∧ p.pressedThreshold.toNat ≤ 16384)
        ∧ p.criticalThreshold.toNat < p.pressedThreshold.toNat
        ∧ (1 ≤ p.sliceLength.toNat ∧ p.sliceLength.toNat ≤ 2 ^ 40 - 1)
        ∧ p.idleFlushTime.toNat ≤ 10000 := by
  simp only [profileNumbersOk, Bool.and_eq_true, decide_eq_true_eq, BitVec.toNat_eq, and_assoc]
  rfl

theorem exec_stageProfile_badParam {p : ProfileFields} (ht : Taken s .viewer h 32) (hbad : validateProfile p = none) :
    exec (.stageProfile h p) s = .next (s.refused .viewer h .stageProfile .badParam) := by
  refine congrArg Host.Outcome.next (State.request_refuse ht ?_)
  rw [hbad]

end Sys2Proof.Machine

namespace Sys2Proof.Proofs
open Sys2Proof.Machine

/-- Settles O12. -/
theorem startAnswers : Obligations.StartAnswers := by
  unfold Obligations.StartAnswers
  exact fun h s ht => ⟨exec_start_wrongState ht, exec_start_asleep ht, exec_start ht⟩

/-- Settles O13: a Stop by its Mode and the capture state; a stop at once is the one act of R93. -/
theorem stopEndsCapture : Obligations.StopEndsCapture := by
  unfold Obligations.StopEndsCapture
  refine ⟨fun h mode s ht => ⟨fun h0 h1 => ?_, fun hmode hidle => ?_, ?_, ?_, ?_⟩, fun h s ht hcapturing hr => exec_stopNow_stops ht hcapturing hr⟩
  · exact exec_stop_refused ht (State.takeStop_badParam h0 h1)
  · exact exec_stop_refused ht (State.takeStop_wrongState hmode (by rwa [State.opened_capturing]))
  · rintro rfl hrunning hopen
    exact exec_stopAtSegmentEnd_waits ht hrunning hopen
  · rintro rfl hstopping
    exact exec_stopAtSegmentEnd_again ht hstopping
  · rintro rfl hrunning hopen
    exact exec_stopAtSegmentEnd_stops ht hrunning hopen

/-- Settles O14: a field is refused exactly outside its range. -/
theorem stageProfileValidates : Obligations.StageProfileValidates := by
  unfold Obligations.StageProfileValidates
  refine ⟨fun p => ?_, fun h p s ht hbad => exec_stageProfile_badParam ht hbad⟩
  have hoverrun : overrunPolicyParam p.overrunPolicy = none ↔ 2 < p.overrunPolicy.toNat := three_values_eq_none ..
  have hslice : sliceModeParam p.sliceMode = none ↔ 1 < p.sliceMode.toNat := two_values_eq_none ..
  have hhalt : haltModeParam p.haltMode = none ↔ 1 < p.haltMode.toNat := two_values_eq_none ..
  rw [validateProfile_eq_none, ← Bool.not_eq_true, profileNumbersOk_iff, yesNo_eq_none, yesNo_eq_none, hoverrun, hslice, hhalt]
  omega

end Sys2Proof.Proofs

/-!
StageProfile that is taken (O15).
-/
namespace Sys2Proof.Machine

variable {s t u : State} {h : Header} {p : ProfileFields} {q : Profile}

/-! ## What a profile carries (R101, R203) -/

theorem yesNo_some {b : BitVec 8} {x : Bool} (hx : yesNo b = some x) : x.toNat = b.toNat := by
  unfold yesNo at hx
  (repeat' split at hx) <;> cases hx <;> simp [*]

theorem overrunPolicyParam_some {b : BitVec 8} {x : OverrunPolicy} (hx : overrunPolicyParam b = some x) : x.code = b.toNat := by
  unfold overrunPolicyParam at hx
  (repeat' split at hx) <;> cases hx <;> simp [*, OverrunPolicy.code]

theorem sliceModeParam_some {b : BitVec 8} {x : SliceMode} (hx : sliceModeParam b = some x) : x.code = b.toNat := by
  unfold sliceModeParam at hx
  (repeat' split at hx) <;> cases hx <;> simp [*, SliceMode.code]

theorem haltModeParam_some {b : BitVec 8} {x : HaltMode} (hx : haltModeParam b = some x) : x.code = b.toNat := by
  unfold haltModeParam at hx
  (repeat' split at hx) <;> cases hx <;> simp [*, HaltMode.code]

theorem validateProfile_some (hq : validateProfile p = some q) :
    q.sampleWidth = p.sampleWidth.toNat ∧ q.channelCount = p.channelCount.toNat ∧ q.tickStep = p.tickStep.toNat
      ∧ q.archiveRequired.toNat = p.archiveRequired.toNat ∧ q.overrunPolicy.code = p.overrunPolicy.toNat
      ∧ q.pressed = p.pressedThreshold.toNat ∧ q.critical = p.criticalThreshold.toNat ∧ q.hysteresis = p.hysteresis.toNat
      ∧ q.pauseOnCritical.toNat = p.pauseOnCritical.toNat ∧ q.sliceMode.code = p.sliceMode.toNat
      ∧ q.sliceLength = p.sliceLength.toNat ∧ q.idleFlushTime = p.idleFlushTime.toNat ∧ q.haltMode.code = p.haltMode.toNat := by
  unfold validateProfile at hq
  split at hq
  case isFalse => cases hq
  case isTrue =>
    simp only [Option.bind_eq_bind, Option.bind_eq_some_iff, Option.pure_def, Option.some.injEq] at hq
    obtain ⟨a, ha, o, ho, c, hc, sl, hs, hm, hh, rfl⟩ := hq
    exact ⟨rfl, rfl, rfl, yesNo_some ha, overrunPolicyParam_some ho, rfl, rfl, rfl, yesNo_some hc, sliceModeParam_some hs, rfl, rfl,
      haltModeParam_some hh⟩

/-! ## The swap of profiles (R103, R104) -/

/-- The Staged copy has been replaced. -/
def State.profileStaged (s : State) (q : Profile) : State :=
  s.mapControl fun c => { c with staged := q }

theorem State.opened_profileStaged (s : State) (p : Port) (h : Header) (k : RequestKind) (q : Profile) :
    (s.opened p h k).profileStaged q = (s.profileStaged q).opened p h k :=
  opened_mapControl ..

theorem State.stage_of_capturing (hcapturing : s.capturing) (q : Profile) :
    s.stage q = s.mapControl fun c => { c with staged := q, swapPending := true } :=
  if_pos hcapturing

theorem State.stage_of_idle (hidle : ¬ s.capturing) (q : Profile) : s.stage q = (s.profileStaged q).activate :=
  if_neg hidle

theorem exec_stageProfile_pending (ht : Taken s .viewer h 32) (hq : validateProfile p = some q) (hcapturing : s.capturing) :
    exec (.stageProfile h p) s
      = .next
          (State.answered { s with control := { s.control with staged := q, swapPending := true } } .viewer h .stageProfile .ok
            (.staged false [])) := by
  have hopened : (s.opened .viewer h .stageProfile).capturing := (s.opened_capturing ..).mpr hcapturing
  refine congrArg Host.Outcome.next (State.request_answer ht ht.2.2.2 ?_)
  rw [hq]
  dsimp only
  refine (if_pos hopened).trans ?_
  rw [State.stage_of_capturing hopened, State.opened_mapControl]
  rfl

/-- The state a StageProfile leaves outside Running and Stopping: the copy is staged and becomes active at once. -/
def State.profileTaken (s : State) (h : Header) (q : Profile) : State :=
  ((s.profileStaged q).opened .viewer h .stageProfile).activate

@[simp] theorem State.profileTaken_control (s : State) (h : Header) (q : Profile) :
    (s.profileTaken h q).control
      = { s.control with staged := q, requested := q, swapPending := false, active := q.clampedTo s.capacity } := by
  simp [profileTaken, profileStaged, capacity]

/-- The clamped fields of a profile that becomes active in a ring. -/
def State.clampedFields (s : State) (q : Profile) : List ClampedField :=
  (q.clampedTo s.capacity).clamped q (q.clampedTo s.capacity)

theorem exec_stageProfile_taken (ht : Taken s .viewer h 32) (hq : validateProfile p = some q) (hidle : ¬ s.capturing) :
    exec (.stageProfile h p) s
      = .next
          ((s.profileTaken h q).replied .viewer h .stageProfile (if s.clampedFields q = [] then .ok else .adjusted)
            (.staged true (s.clampedFields q))) := by
  have hopened : ¬ (s.opened .viewer h .stageProfile).capturing := fun h => hidle ((s.opened_capturing ..).mp h)
  refine congrArg Host.Outcome.next ((State.request_taken ht).trans ?_)
  rw [hq]
  dsimp only
  refine congrArg State.endAct ((if_neg hopened).trans ?_)
  rw [State.stage_of_idle hopened, State.opened_profileStaged, ← State.profileTaken, State.profileTaken_control]
  rfl

/-- No field is clamped exactly when the effective values are the requested ones. -/
theorem State.clampedFields_eq_nil (s : State) (q : Profile) : s.clampedFields q = [] ↔ q.clampedTo s.capacity = q := by
  refine ⟨fun hnil => ?_, fun hsame => ?_⟩
  · have hnone (c : ClampedField) : c ∉ s.clampedFields q := by simp [hnil]
    simp only [clampedFields, Profile.mem_clamped, not_or, not_and, not_not] at hnone
    have hpressed := (hnone _).1 rfl
    have hcritical := (hnone _).2.1 rfl
    have hslice := (hnone _).2.2 rfl
    have hrest : q.clampedTo s.capacity
        = { q with
            pressed := (q.clampedTo s.capacity).pressed
            critical := (q.clampedTo s.capacity).critical
            sliceLength := (q.clampedTo s.capacity).sliceLength } := rfl
    rw [hrest, hpressed, hcritical, hslice]
  · rw [clampedFields, hsame]
    simp [Profile.clamped]

theorem State.profileTaken_bandedAfresh (s : State) (h : Header) (q : Profile) : BandedAfresh s (s.profileTaken h q) := by
  have hbanded := BandedAfresh.activate ((s.profileStaged q).opened .viewer h .stageProfile)
  exact hbanded.congr (by simp [profileStaged]) rfl rfl rfl rfl

theorem Signalled.profileTaken (s : State) (h : Header) (q : Profile) :
    Signalled (s.opened .viewer h .stageProfile) (s.profileTaken h q) (bandEvents s.ring.band (s.profileTaken h q).ring.band) [] := by
  have hstaged : Signalled (s.opened .viewer h .stageProfile) ((s.profileStaged q).opened .viewer h .stageProfile) [] [] := by
    rw [← State.opened_profileStaged]
    exact .mapControl _ _
  have hactive := Signalled.activate ((s.profileStaged q).opened .viewer h .stageProfile)
  rw [State.opened_ring] at hactive
  exact hstaged.trans (by simp [State.profileStaged]) hactive

theorem State.profileTaken_unsignalled (s : State) (h : Header) (q : Profile) :
    (s.profileTaken h q).unsignalled
      = State.unsignalled
          { s with
            control := (s.profileTaken h q).control
            ring := { s.ring with band := (s.profileTaken h q).ring.band }
            link := (s.profileTaken h q).link } := by
  have hactive := ((s.profileStaged q).opened .viewer h .stageProfile).activate_unsignalled
  rw [← profileTaken] at hactive
  have hring : (s.profileTaken h q).ring = { s.ring with band := (s.profileTaken h q).ring.band } := by
    simp [profileTaken, profileStaged]
  rw [hactive, ← hring]
  simp [unsignalled, profileStaged]

end Sys2Proof.Machine

namespace Sys2Proof.Proofs
open Sys2Proof.Machine

/-- Settles O15: the profile is staged, and outside Running and Stopping it becomes active with the clamps of R104. -/
theorem stageProfileIsTaken : Obligations.StageProfileIsTaken := by
  unfold Obligations.StageProfileIsTaken
  refine fun h p q s ht hq => ⟨validateProfile_some hq, exec_stageProfile_pending ht hq, fun hidle => ?_⟩
  refine ⟨_, s.clampedFields q, exec_stageProfile_taken ht hq hidle, State.replied_answers _, ?_, fun x => ?_, ?_,
    (s.profileTaken_bandedAfresh h q).replied, ?_, ?_⟩
  · rw [State.replied_control, State.profileTaken_control]
    exact s.clampedFields_eq_nil q
  · rw [State.replied_control, State.profileTaken_control]
    exact Profile.mem_clamped
  · rw [State.replied_control, State.profileTaken_control]
  · rw [State.replied_ring]
    exact (Signalled.profileTaken s h q).replied ht
  · rw [State.replied_unsignalled, State.replied_control, State.replied_ring, State.replied_link]
    exact s.profileTaken_unsignalled h q

end Sys2Proof.Proofs

/-!
The class of a Tail block, slices and triggers, losses and gaps (O19, O26, O29).
-/
namespace Sys2Proof.Machine

variable {s t u : State}

/-! ## The class of a Tail block (R16) -/

/-- A block not required in the archive, or archived already, leaves freely once nothing holds it (R16). -/
def Block.free (b : Block) : Prop :=
  (∀ c, b.state ≠ .claimed c) ∧ (b.state = .archived ∨ b.archiveRequired = false)

theorem Block.classify_of_pinned {b : Block} (policy : OverrunPolicy) (h : 0 < b.pinCount) : b.classify policy = .held := by
  simp [classify, Nat.pos_iff_ne_zero.mp h]

theorem Block.classify_of_claimed {b : Block} (policy : OverrunPolicy) {c : Fin 4} (h : b.state = .claimed c) : b.classify policy = .held := by
  unfold classify
  split
  · rfl
  · rw [h]

theorem Block.classify_of_free {b : Block} (policy : OverrunPolicy) (hpins : b.pinCount = 0) (hstate : b.state ≠ .filling) (hfree : b.free) :
    b.classify policy = if b.readsInFlight = 0 then .recyclable else .readBound := by
  obtain ⟨hclaimed, hrequired⟩ := hfree
  unfold classify
  cases h : b.state with
  | filling => exact absurd h hstate
  | claimed c => exact absurd h (hclaimed c)
  | archived => simp [hpins]
  | sealed =>
    have hno : b.archiveRequired = false := by simpa [h] using hrequired
    simp [hpins, hno]

theorem Block.classify_of_required {b : Block} (policy : OverrunPolicy) (hpins : b.pinCount = 0) (hstate : b.state = .sealed)
    (hrequired : b.archiveRequired = true) :
    b.classify policy
      = if policy = .overwrite then (if b.readsInFlight = 0 then .evictable else .readBound) else .held := by
  cases policy <;> simp [classify, hpins, hstate, hrequired]

/-! ## The carried value (R71) -/

theorem carriedValue_bounds (counter : Int) {l : Nat} (hl : 1 ≤ l) : 1 ≤ carriedValue counter l ∧ carriedValue counter l ≤ l := by
  have hlt := Nat.mod_lt (-counter).toNat (show l > 0 by omega)
  unfold carriedValue
  omega

/-- The counter lies below zero by e points, and L − (e mod L) more bring it to a multiple of L. -/
theorem carriedValue_dvd {counter : Int} {l : Nat} (hcounter : counter ≤ 0) (hl : 1 ≤ l) :
    (l : Int) ∣ counter - (carriedValue counter l : Int) := by
  obtain ⟨e, rfl⟩ : ∃ e : Nat, counter = -(e : Int) := ⟨counter.toNat + (-counter).toNat, by omega⟩
  have hlt := Nat.mod_lt e (show l > 0 by omega)
  have hvalue : carriedValue (-(e : Int)) l = l - e % l := by simp [carriedValue]
  have hsplit : (l : Int) * (e / l : Nat) + (e % l : Nat) = e := by exact_mod_cast Nat.div_add_mod e l
  refine ⟨-(e / l : Nat) - 1, ?_⟩
  rw [hvalue, Nat.cast_sub hlt.le, mul_sub, mul_neg, mul_one]
  omega

/-! ## Triggers (R64) -/

theorem Entry.recordTrigger_ignored {e : Entry} {f : Frame} (p0 : Nat) (h : f.payload.length ≤ f.triggerOffset.toNat / e.bpp * e.bpp) :
    e.recordTrigger f p0 = { e with triggerIgnored := min (e.triggerIgnored + 1) 4294967295 } := by
  have hrounded : f.triggerOffset.toNat - f.triggerOffset.toNat % e.bpp = f.triggerOffset.toNat / e.bpp * e.bpp := by
    rw [mul_comm]
    exact (Nat.eq_sub_of_add_eq (Nat.div_add_mod _ _)).symm
  rw [recordTrigger, hrounded, if_pos h]
  rfl

theorem Entry.recordTrigger_counted {e : Entry} {f : Frame} (p0 : Nat) (h : f.triggerOffset.toNat / e.bpp * e.bpp < f.payload.length)
    (hbpp : 0 < e.bpp) :
    e.recordTrigger f p0
      = { e with
          triggerCount := min (e.triggerCount + 1) 4294967295
          trigger :=
            e.trigger.or
              (some
                { position := p0 + f.triggerOffset.toNat / e.bpp
                  tick := e.firstTick + BitVec.ofNat 64 ((p0 + f.triggerOffset.toNat / e.bpp + e.totalLost.toNat) * e.tickStep)
                  kind := f.triggerKind }) } := by
  have hrounded : f.triggerOffset.toNat - f.triggerOffset.toNat % e.bpp = f.triggerOffset.toNat / e.bpp * e.bpp := by
    rw [mul_comm]
    exact (Nat.eq_sub_of_add_eq (Nat.div_add_mod _ _)).symm
  rw [recordTrigger, hrounded, if_neg (not_le.mpr h), Nat.mul_div_cancel _ hbpp]
  rfl

/-! ## Losses (R36, R66, R67) -/

theorem addLoss_some {r : LossRecord} {frames bytes : Nat} (c : LossCause) (hf : r.missingFrames + frames < 2 ^ 64)
    (hb : r.droppedBytes + bytes < 2 ^ 64) (hp : r.parts + 1 < 2 ^ 64) :
    addLoss (some r) c frames bytes
      = { firstCause := r.firstCause, missingFrames := r.missingFrames + frames, droppedBytes := r.droppedBytes + bytes,
          parts := r.parts + 1 } := by
  simp only [addLoss, lossSum, if_pos hf, if_pos hb, if_pos hp]

section
variable {e : Entry} {r : LossRecord} {tick : Tick}

theorem Entry.lossOf_exact (stamp : Option Tick) (h : r.missingFrames = 0) : e.lossOf r stamp = (r.exact e.bpp, false) :=
  if_pos h

theorem Entry.lossOf_unstamped (h : 0 < r.missingFrames) : e.lossOf r none = (r.estimate e.bpp, false) :=
  if_neg h.ne'

theorem Entry.lossOf_stamped (h : 0 < r.missingFrames) (tick : Tick) :
    e.lossOf r (some tick)
      = if e.nextTick.toNat ≤ tick.toNat ∧ r.exact e.bpp ≤ (tick.toNat - e.nextTick.toNat) / e.tickStep then
          ((tick.toNat - e.nextTick.toNat) / e.tickStep, false)
        else (r.estimate e.bpp, true) :=
  if_neg h.ne'

end

/-! ## Gaps (R65, R78) -/

section
variable {e : Entry} {older : List Gap} {g : Gap}

/-- A gap changes the Gap List and Total Points Lost alone. -/
theorem Entry.addGap_rest (e : Entry) (lost : BitVec 64) (cause : GapCause) (mixed : Bool) :
    e.addGap lost cause mixed
      = { e with
          totalLost := e.totalLost + lost
          gaps := (e.addGap lost cause mixed).gaps
          gapOverflow := (e.addGap lost cause mixed).gapOverflow } := by
  unfold addGap
  dsimp only
  (repeat' split) <;> rfl

theorem Entry.addGap_first (lost : BitVec 64) (cause : GapCause) (mixed : Bool) (h : e.gaps = []) :
    (e.addGap lost cause mixed).gaps
        = [{ position := e.byteLength / e.bpp, pointsLost := lost, cause := cause, mixed := mixed }]
      ∧ (e.addGap lost cause mixed).gapOverflow = e.gapOverflow := by
  have hlast : e.gaps.getLast? = none := by rw [h]; rfl
  unfold addGap
  dsimp only
  rw [hlast]
  exact ⟨rfl, rfl⟩

theorem Entry.addGap_merged (lost : BitVec 64) (cause : GapCause) (mixed : Bool) (h : e.gaps = older ++ [g])
    (hposition : g.position = e.byteLength / e.bpp) :
    (e.addGap lost cause mixed).gaps = older ++ [{ g with pointsLost := g.pointsLost + lost, mixed := true }]
      ∧ (e.addGap lost cause mixed).gapOverflow = e.gapOverflow := by
  have hlast : e.gaps.getLast? = some g := by simp [h]
  have holder : e.gaps.dropLast = older := by simp [h]
  unfold addGap
  dsimp only
  rw [hlast, holder]
  simp [points, hposition]

theorem Entry.addGap_appended (lost : BitVec 64) (cause : GapCause) (mixed : Bool) (h : e.gaps = older ++ [g])
    (hposition : g.position ≠ e.byteLength / e.bpp) (hroom : older.length < 3) :
    (e.addGap lost cause mixed).gaps
        = older ++ [g, { position := e.byteLength / e.bpp, pointsLost := lost, cause := cause, mixed := mixed }]
      ∧ (e.addGap lost cause mixed).gapOverflow = e.gapOverflow := by
  have hlast : e.gaps.getLast? = some g := by simp [h]
  have hlength : e.gaps.length < 4 := by
    rw [h, List.length_append, List.length_singleton]
    omega
  unfold addGap
  dsimp only
  rw [hlast]
  simp only [points, if_neg hposition, if_pos hlength]
  simp [h]

theorem Entry.addGap_folded (lost : BitVec 64) (cause : GapCause) (mixed : Bool) (h : e.gaps = older ++ [g])
    (hposition : g.position ≠ e.byteLength / e.bpp) (hfull : 3 ≤ older.length) :
    (e.addGap lost cause mixed).gaps = older ++ [{ g with pointsLost := g.pointsLost + lost }]
      ∧ (e.addGap lost cause mixed).gapOverflow = true := by
  have hlast : e.gaps.getLast? = some g := by simp [h]
  have holder : e.gaps.dropLast = older := by simp [h]
  have hlength : ¬ e.gaps.length < 4 := by simp [h, hfull]
  unfold addGap
  dsimp only
  rw [hlast, holder]
  simp [points, hposition, hlength]

/-- A loss record acted on with a segment open becomes one gap of it, and the slice counter falls by its points. -/
theorem State.recordLoss_of_open {r : LossRecord} (stamp : Option Tick) (he : s.openEntry = some e) :
    s.recordLoss (some r) stamp
      = { s with
          index :=
            s.index.map fun x =>
              if x.isOpen then
                Entry.addGap { x with stampConflict := x.stampConflict || (e.lossOf r stamp).2 }
                  (BitVec.ofNat 64 (e.lossOf r stamp).1) r.firstCause.gapCause (decide (1 < r.parts))
              else x
          assembler :=
            { s.assembler with
              sliceCounter := s.assembler.sliceCounter.map fun c => c - (((e.lossOf r stamp).1 : Nat) : Int) } } := by
  have hopen : ((s.mapOpen fun x => { x with stampConflict := x.stampConflict || (e.lossOf r stamp).2 }).openEntry).isSome = true := by
    rw [openEntry_isSome]
    refine (any_isOpen_map (fun x => ?_) s.index).trans (by rw [← openEntry_isSome, he]; rfl)
    split <;> rfl
  obtain ⟨e', he'⟩ := Option.isSome_iff_exists.mp hopen
  unfold recordLoss
  rw [he]
  dsimp only
  unfold recordGap
  rw [he']
  dsimp only [spendSlice, mapAssembler, mapOpen]
  rw [List.map_map]
  congr 1
  refine List.map_congr_left fun x _ => ?_
  by_cases hx : x.isOpen = true
  · have hx' : Entry.isOpen { x with stampConflict := x.stampConflict || (e.lossOf r stamp).2 } = true := hx
    simp [hx, hx']
  · simp [hx]

end

end Sys2Proof.Machine

namespace Sys2Proof.Proofs
open Sys2Proof.Machine

/-- Settles O26: a pinned or claimed block is held; any other is free to leave or required in the archive, and its reads decide. -/
theorem tailBlockIsClassified : Obligations.TailBlockIsClassified := by
  unfold Obligations.TailBlockIsClassified
  intro b policy hstate
  by_cases hpins : b.pinCount = 0
  · by_cases hclaimed : ∃ c, b.state = .claimed c
    · obtain ⟨c, hc⟩ := hclaimed
      simp [Block.classify_of_claimed policy hc, hc]
    · have hnot : ∀ c, b.state ≠ .claimed c := fun c hc => hclaimed ⟨c, hc⟩
      by_cases hfree : b.state = .archived ∨ b.archiveRequired = false
      · rw [Block.classify_of_free policy hpins hstate ⟨hnot, hfree⟩]
        by_cases hreads : b.readsInFlight = 0 <;> obtain h | h := hfree <;> simp [hpins, hreads, hnot, h] <;> omega
      · have hrequired : b.archiveRequired = true := by simpa using fun h => hfree (.inr h)
        have hsealed : b.state = .sealed := by
          cases h : b.state <;> simp_all
        rw [Block.classify_of_required policy hpins hsealed hrequired]
        by_cases hreads : b.readsInFlight = 0 <;> cases policy <;> simp [hpins, hreads, hsealed, hrequired]
        omega
  · have hpos : 0 < b.pinCount := Nat.pos_of_ne_zero hpins
    simp [Block.classify_of_pinned policy hpos, hpins, hpos]

/-- Settles O29. -/
theorem slicesCarryAndTriggersAreRecorded : Obligations.SlicesCarryAndTriggersAreRecorded := by
  unfold Obligations.SlicesCarryAndTriggersAreRecorded
  refine ⟨fun counter l hcounter hl => ?_, ?_⟩
  · obtain ⟨hlow, hhigh⟩ := carriedValue_bounds counter hl
    exact ⟨hlow, hhigh, carriedValue_dvd hcounter hl⟩
  · rintro e f p0 _ rfl
    refine ⟨Entry.recordTrigger_ignored p0, fun h hbpp => ?_⟩
    rw [Entry.recordTrigger_counted p0 h hbpp]
    cases e.trigger <;> rfl

/-- Settles O19: a loss record merges, gives its points, and becomes one gap of the open segment. -/
theorem lossesBecomeGaps : Obligations.LossesBecomeGaps := by
  unfold Obligations.LossesBecomeGaps
  refine ⟨⟨fun _ _ _ => rfl, fun _ c _ _ => addLoss_some c, fun _ _ => rfl⟩, ?_, fun e lost cause mixed => ⟨?_, e.addGap_rest lost cause mixed,
    Entry.addGap_first lost cause mixed, fun older g h => ⟨Entry.addGap_merged lost cause mixed h,
      Entry.addGap_appended lost cause mixed h, Entry.addGap_folded lost cause mixed h⟩⟩, fun s r stamp => ⟨rfl, fun hopen => ?_, ?_⟩⟩
  · rintro e r stamp _ _ rfl rfl
    refine ⟨Entry.lossOf_exact stamp, ?_, ?_⟩
    · rintro h rfl
      exact Entry.lossOf_unstamped h
    · rintro tick h rfl
      rw [Entry.lossOf_stamped h]
      refine ⟨fun hle hexact => if_pos ⟨hle, hexact⟩, fun hle hexact => if_neg fun hand => absurd hand.2 (not_le.mpr hexact),
        fun hlt => if_neg fun hand => absurd hand.1 (not_le.mpr hlt)⟩
  · rw [e.addGap_rest lost cause mixed]
  · exact State.recordLoss_of_none hopen stamp
  · intro e lost conflict cause he hloss hcause
    have hsame : r.firstCause.gapCause = cause := by
      obtain ⟨h, rfl⟩ | ⟨h, rfl⟩ := hcause <;> rw [h] <;> rfl
    rw [State.recordLoss_of_open stamp he, ← hloss, hsame]

end Sys2Proof.Proofs

/-!
The Sample Link: frames, resyncs and the Halt line (O17, O18, O20, O21).
-/
namespace Sys2Proof.Machine

variable {s t u : State} {f : Frame} {bytes : List Byte} {d : Nat}

/-! ## Frames (R31 to R37) -/

/-- A frame arrives: the link is in lock, and the frame is counted (R31). -/
def State.frameReceived (s : State) : State :=
  (s.mapLink fun l => { l with locked := true }).count fun c => { c with framesReceived := c.framesReceived + 1 }

/-- The frame is bad or stale (R31, R33). -/
def State.frameBad (s : State) : State :=
  (s.frameReceived.count fun c => { c with framesBad := c.framesBad + 1 }).raiseNotice .linkFault

theorem State.receive_of_bad (h : parseFrame bytes = none) : s.receive bytes = s.frameBad := by
  rw [receive, h]
  rfl

theorem State.receive_of_parsed (h : parseFrame bytes = some f) : s.receive bytes = s.frameReceived.sequenceTest f := by
  rw [receive, h]
  rfl

/-- A good frame advances the sequence state, and the frames missing before it are counted (R32, R33). -/
def State.frameSequenced (s : State) (f : Frame) (d : Nat) : State :=
  if d = 0 then s.frameReceived.expectAfter f
  else
    ((s.frameReceived.count fun c =>
      { c with sequenceGaps := c.sequenceGaps + 1, framesMissing := c.framesMissing + BitVec.ofNat 64 d }).raiseNotice .linkFault).expectAfter f

theorem State.gapBefore_of_expected {e : BitVec 16} (h : s.link.expected = some e) :
    s.gapBefore f = if (f.sequence - e).toNat ≤ 32767 then some (f.sequence - e).toNat else none := by
  rw [gapBefore, h]

theorem State.gapBefore_of_unsynced (h : s.link.expected = none) : s.gapBefore f = some 0 := by
  rw [gapBefore, h]

theorem State.sequenceTest_of_stale (h : s.gapBefore f = none) : s.frameReceived.sequenceTest f = s.frameBad := by
  cases he : s.link.expected with
  | none => simp [gapBefore_of_unsynced he] at h
  | some e =>
    rw [gapBefore_of_expected he] at h
    have hstale : ¬ (f.sequence - e).toNat ≤ 32767 := by simpa using h
    have hlate : ¬ (f.sequence - e).toNat = 0 := by omega
    have he' : s.frameReceived.link.expected = some e := he
    rw [sequenceTest, he']
    dsimp only
    rw [if_neg hlate, if_neg hstale]
    rfl

theorem State.sequenceTest_of_good (h : s.gapBefore f = some d) :
    s.frameReceived.sequenceTest f = (s.frameSequenced f d).offerFrame f d := by
  cases he : s.link.expected with
  | none =>
    obtain rfl : 0 = d := by simpa [gapBefore_of_unsynced he] using h
    have he' : s.frameReceived.link.expected = none := he
    rw [sequenceTest, he']
    rfl
  | some e =>
    rw [gapBefore_of_expected he] at h
    have he' : s.frameReceived.link.expected = some e := he
    obtain ⟨hle, rfl⟩ : (f.sequence - e).toNat ≤ 32767 ∧ (f.sequence - e).toNat = d := by simpa using h
    rw [sequenceTest, he', frameSequenced]
    dsimp only
    by_cases hzero : (f.sequence - e).toNat = 0
    · rw [if_pos hzero, if_pos hzero, hzero]
    · rw [if_neg hzero, if_neg hzero, if_pos hle]

theorem exec_frameArrival_discarded (h : parseFrame bytes = none ∨ ∃ f, parseFrame bytes = some f ∧ s.gapBefore f = none) :
    exec (.frameArrival bytes) s = .next s.beginAct.frameBad.endAct := by
  refine congrArg Host.Outcome.next (congrArg State.endAct ?_)
  obtain hbad | ⟨f, hf, hstale⟩ := h
  · exact State.receive_of_bad hbad
  · exact (State.receive_of_parsed hf).trans (State.sequenceTest_of_stale (s := s.beginAct) hstale)

theorem exec_frameArrival_offered (hf : parseFrame bytes = some f) (hd : s.gapBefore f = some d) :
    exec (.frameArrival bytes) s = .next ((s.beginAct.frameSequenced f d).offerFrame f d).endAct := by
  refine congrArg Host.Outcome.next (congrArg State.endAct ?_)
  exact (State.receive_of_parsed hf).trans (State.sequenceTest_of_good (s := s.beginAct) hd)

/-- The state once a frame has passed its check and the sequence test. -/
def State.sequenced (s : State) (f : Frame) (d : Nat) : State :=
  { s with link := s.afterSequence f d }

/-- The part of a good frame that no notice reaches, and the notice of a Sequence gap. -/
theorem Becomes.frameSequenced (s : State) (f : Frame) (d : Nat) :
    Becomes s (s.beginAct.frameSequenced f d) (s.sequenced f d) [] (if d = 0 then [] else [.linkFault]) := by
  have hreceived : Becomes s s.beginAct.frameReceived s.frameReceived [] [] := .of_ports rfl (fun p => by cases p <;> rfl) rfl
  unfold State.frameSequenced
  by_cases hzero : d = 0
  · subst hzero
    rw [if_pos rfl, if_pos rfl]
    refine (hreceived.map (·.expectAfter f) rfl (fun p => by cases p <;> rfl) fun _ => rfl).unsignalled_eq ?_
    simp [State.unsignalled, State.sequenced, State.afterSequence, State.expectAfter, State.frameReceived, State.mapLink, State.count]
  · rw [if_neg hzero, if_neg hzero]
    have hcounted := hreceived.map (·.count fun c =>
      { c with sequenceGaps := c.sequenceGaps + 1, framesMissing := c.framesMissing + BitVec.ofNat 64 d }) rfl
      (fun p => by cases p <;> rfl) fun _ => rfl
    have hraised := hcounted.thenRaiseNotice (List.Subset.refl _) .linkFault
    refine (hraised.map (·.expectAfter f) rfl (fun p => by cases p <;> rfl) fun _ => rfl).unsignalled_eq ?_
    simp [State.unsignalled, State.sequenced, State.afterSequence, State.expectAfter, State.frameReceived, State.mapLink, State.count, hzero]

theorem State.frameSequenced_sent (s : State) (f : Frame) (d : Nat) : (s.beginAct.frameSequenced f d).sent = [] := by
  unfold frameSequenced
  split <;> rfl

theorem State.offerFrame_rest (s : State) (f : Frame) (d : Nat) :
    (s.offerFrame f d).sent = s.sent ∧ (s.offerFrame f d).flags = s.flags ∧ ∀ p, (s.offerFrame f d).port p = s.port p := by
  unfold offerFrame
  (repeat' split) <;> exact ⟨rfl, rfl, fun p => by cases p <;> rfl⟩

theorem State.takingFrames_iff : s.takingFrames = true ↔ s.capturing ∧ s.control.orderlyHalt = false := by
  simp [takingFrames, capturing]

theorem State.offerFrame_of_idle (h : ¬ s.capturing ∨ s.control.orderlyHalt = true) :
    s.offerFrame f d = s.count fun c => { c with framesDiscarded := c.framesDiscarded + 1 } := by
  have hnot : s.takingFrames = false := by
    rw [← Bool.not_eq_true, takingFrames_iff]
    rintro ⟨hcapturing, hno⟩
    obtain h | h := h
    · exact h hcapturing
    · simp [hno] at h
  rw [offerFrame, hnot]
  rfl

theorem State.offerFrame_of_room (hcapturing : s.capturing) (hno : s.control.orderlyHalt = false) (hroom : s.occupancy < 64) :
    s.offerFrame f d = s.joinIntake f d := by
  rw [offerFrame, takingFrames_iff.mpr ⟨hcapturing, hno⟩]
  exact if_pos hroom

theorem State.offerFrame_of_full (hcapturing : s.capturing) (hno : s.control.orderlyHalt = false) (hfull : 64 ≤ s.occupancy) :
    s.offerFrame f d = s.dropAtIntake f d := by
  rw [offerFrame, takingFrames_iff.mpr ⟨hcapturing, hno⟩]
  exact if_neg (not_lt.mpr hfull)

/-- What offering a frame does it does to every state with the same data. -/
theorem State.offerFrame_congr (h : t.unsignalled = s.unsignalled) : (t.offerFrame f d).unsignalled = (s.offerFrame f d).unsignalled := by
  obtain ⟨flags, viewerPort, archivePort, sent, rfl⟩ := eq_of_unsignalled h
  unfold offerFrame
  have htaking : takingFrames { s with flags := flags, viewerPort := viewerPort, archivePort := archivePort, sent := sent }
      = s.takingFrames := rfl
  have hoccupancy : occupancy { s with flags := flags, viewerPort := viewerPort, archivePort := archivePort, sent := sent }
      = s.occupancy := rfl
  rw [htaking, hoccupancy]
  (repeat' split) <;> rfl

/-! ## Resyncs (R43, R44) -/

/-- The act of a link resync up to the marker: it is counted, its notice raised, and the sequence state Unsynced. -/
def State.resyncBegun (s : State) (lock : Bool) : State :=
  (((s.mapLink fun l => { l with locked := lock }).count fun c => { c with linkResyncs := c.linkResyncs + 1 }).raiseNotice .linkFault).mapLink
    fun l => { l with expected := none }

theorem State.resync_eq (s : State) (lock : Bool) :
    (s.mapLink fun l => { l with locked := lock }).resync
      = if (s.resyncBegun lock).takingFrames then (s.resyncBegun lock).placeResync else s.resyncBegun lock := rfl

/-- The commands of a link resync with a lock to lose or a marker (R43, R44). -/
def resyncs (s : State) (c : Instr) (lock : Bool) : Prop :=
  c = .resyncMarker ∧ lock = true ∨ ∃ relocked, c = .linkLockLoss relocked ∧ (s.link.locked = true ∨ relocked = true) ∧ lock = false

theorem exec_resync {c : Instr} {lock : Bool} (h : resyncs s c lock) :
    exec c s = .next ((s.beginAct.mapLink fun l => { l with locked := lock }).resync).endAct := by
  obtain ⟨rfl, rfl⟩ | ⟨relocked, rfl, hlocked, rfl⟩ := h
  · rfl
  · have hcondition : (s.beginAct.link.locked || relocked) = true := by simpa using hlocked
    change Host.Outcome.next (s.act fun s =>
      if s.link.locked || relocked then (s.mapLink fun l => { l with locked := false }).resync else s) = _
    rw [State.act, if_pos hcondition]

theorem exec_linkLockLoss_unlocked (h : s.link.locked = false) : exec (.linkLockLoss false) s = .next s.silent := by
  have hcondition : ¬(s.beginAct.link.locked || false) = true := by simp [h]
  change Host.Outcome.next (s.act fun s =>
    if s.link.locked || false then (s.mapLink fun l => { l with locked := false }).resync else s) = _
  rw [State.act, if_neg hcondition]
  rfl

theorem State.placeResync_rest (s : State) :
    s.placeResync.sent = s.sent ∧ s.placeResync.flags = s.flags ∧ (∀ p, s.placeResync.port p = s.port p)
      ∧ s.placeResync.unsignalled = State.unsignalled { s with link := s.placeResync.link } := by
  unfold placeResync
  split <;> exact ⟨rfl, rfl, fun p => by cases p <;> rfl, rfl⟩

theorem State.resync_rest (s : State) (lock : Bool) :
    ((s.mapLink fun l => { l with locked := lock }).resync).sent = s.sent
      ∧ Signalled s ((s.mapLink fun l => { l with locked := lock }).resync) [] [.linkFault]
      ∧ ((s.mapLink fun l => { l with locked := lock }).resync).unsignalled
          = State.unsignalled { s with link := ((s.mapLink fun l => { l with locked := lock }).resync).link } := by
  have hcounted : Becomes s ((s.mapLink fun l => { l with locked := lock }).count fun c => { c with linkResyncs := c.linkResyncs + 1 })
      ((s.mapLink fun l => { l with locked := lock }).count fun c => { c with linkResyncs := c.linkResyncs + 1 }) [] [] :=
    .of_ports rfl (fun p => by cases p <;> rfl) rfl
  have hraised := hcounted.thenRaiseNotice (List.Subset.refl _) .linkFault
  have hbegun : Signalled s (s.resyncBegun lock) [] [.linkFault] := hraised.1.of_ports rfl fun p => by cases p <;> rfl
  rw [resync_eq]
  split
  · obtain ⟨hsent, hflags, hports, hdata⟩ := (s.resyncBegun lock).placeResync_rest
    refine ⟨hsent, hbegun.of_ports hflags hports, hdata.trans ?_⟩
    rfl
  · exact ⟨rfl, hbegun, rfl⟩

theorem State.resyncBegun_takingFrames (s : State) (lock : Bool) : (s.resyncBegun lock).takingFrames = s.takingFrames := rfl

theorem State.resyncBegun_endsInResync (s : State) (lock : Bool) : (s.resyncBegun lock).endsInResync = s.endsInResync := rfl

theorem State.endsInResync_iff : s.endsInResync = true ↔ ∃ l, s.link.intake.getLast? = some (.resyncMarker l) := by
  unfold endsInResync
  rcases h : s.link.intake.getLast? with _ | ⟨_ | l | _⟩ <;> simp

theorem State.resync_of_idle (lock : Bool) (h : ¬ s.capturing ∨ s.control.orderlyHalt = true) :
    (s.mapLink fun l => { l with locked := lock }).resync = s.resyncBegun lock := by
  have hnot : s.takingFrames = false := by
    rw [← Bool.not_eq_true, takingFrames_iff]
    rintro ⟨hcapturing, hno⟩
    obtain h | h := h
    · exact h hcapturing
    · simp [hno] at h
  rw [resync_eq, resyncBegun_takingFrames, hnot]
  rfl

theorem State.resync_of_taking (lock : Bool) (hcapturing : s.capturing) (hno : s.control.orderlyHalt = false) :
    (s.mapLink fun l => { l with locked := lock }).resync = (s.resyncBegun lock).placeResync := by
  rw [resync_eq, resyncBegun_takingFrames, takingFrames_iff.mpr ⟨hcapturing, hno⟩]
  rfl

/-! ## The Halt line (R42, R97 to R99) -/

/-- The Halt line is asserted. -/
def State.lineAsserted (s : State) : State :=
  { s with link := { s.link with haltLine := true } }

theorem exec_haltAssertion (h : s.link.haltLine = false) : exec .haltAssertion s = .next s.beginAct.lineAsserted.takeHalt.endAct := by
  have hline : ¬ s.beginAct.link.haltLine = true := by simp [h]
  change Host.Outcome.next (s.act fun s => if s.link.haltLine then s else (s.mapLink fun l => { l with haltLine := true }).takeHalt) = _
  rw [State.act, if_neg hline]
  rfl

theorem exec_haltAssertion_held (h : s.link.haltLine = true) : exec .haltAssertion s = .next s.silent := by
  have hline : s.beginAct.link.haltLine = true := h
  change Host.Outcome.next (s.act fun s => if s.link.haltLine then s else (s.mapLink fun l => { l with haltLine := true }).takeHalt) = _
  rw [State.act, if_pos hline]
  rfl

theorem State.takeHalt_of_idle (h : ¬ s.capturing) : s.takeHalt = s :=
  if_neg h

theorem State.takeHalt_of_orderly (hcapturing : s.capturing) (hmode : s.control.active.haltMode = .orderly) :
    s.takeHalt = if s.control.orderlyHalt then s else s.startOrderlyHalt := by
  refine (if_pos hcapturing).trans ?_
  rw [hmode]

theorem State.takeHalt_of_immediate (hcapturing : s.capturing) (hmode : s.control.active.haltMode = .immediate) :
    s.takeHalt = s.stopAtOnce .halt .halt := by
  refine (if_pos hcapturing).trans ?_
  rw [hmode]

theorem exec_haltAssertion_stops (hline : s.link.haltLine = false) (hcapturing : s.capturing) (hmode : s.control.active.haltMode = .immediate)
    (hr : RingForm s) :
    ∃ t, exec .haltAssertion s = .next t ∧ StoppedAtOnce s.lineAsserted t .halt .halt ∧ Signalled s t (s.stopEvents t) [] := by
  have hd : (s.beginAct.lineAsserted.ring.blocks.map Block.lbn).Nodup := hr.lbns_nodup
  have hstopped := State.stopAtOnce_stoppedAtOnce (s := s.beginAct.lineAsserted) hd .halt .halt
  have hsignalled := Signalled.stopAtOnce s.beginAct.lineAsserted .halt .halt
  have hasserted : Signalled s s.beginAct.lineAsserted [] [] := .of_eq rfl fun p => by cases p <;> rfl
  have hevents (t : State) : s.beginAct.lineAsserted.stopEvents t = s.stopEvents t := rfl
  rw [hevents] at hsignalled
  refine ⟨_, exec_haltAssertion hline, ?_⟩
  rw [State.takeHalt_of_immediate (s := s.beginAct.lineAsserted) hcapturing hmode]
  generalize s.beginAct.lineAsserted.stopAtOnce .halt .halt = t at hstopped hsignalled
  exact ⟨(StoppedAtOnce.of_beginAct (s := s.lineAsserted) hstopped).endAct, (hasserted.trans (List.Subset.refl _) hsignalled).endAct⟩

end Sys2Proof.Machine

namespace Sys2Proof.Proofs
open Sys2Proof.Machine

/-- Settles O17. -/
theorem badAndStaleFramesAreDiscarded : Obligations.BadAndStaleFramesAreDiscarded := by
  unfold Obligations.BadAndStaleFramesAreDiscarded
  intro bytes s h
  have hcounted : Becomes s (s.beginAct.frameReceived.count fun c => { c with framesBad := c.framesBad + 1 })
      (s.frameReceived.count fun c => { c with framesBad := c.framesBad + 1 }) [] [] := .of_ports rfl (fun p => by cases p <;> rfl) rfl
  have hbad := (hcounted.thenRaiseNotice (List.Subset.refl _) .linkFault).endAct
  exact ⟨_, exec_frameArrival_discarded h, rfl, hbad.1, hbad.2⟩

/-- Settles O18: the sequence test of a good frame, and then its offer to intake. -/
theorem goodFramesAreOfferedToIntake : Obligations.GoodFramesAreOfferedToIntake := by
  unfold Obligations.GoodFramesAreOfferedToIntake
  intro bytes f d s hf hd
  have hsequenced := Becomes.frameSequenced s f d
  obtain ⟨hsent, hflags, hports⟩ := (s.beginAct.frameSequenced f d).offerFrame_rest f d
  have hdata : ((s.beginAct.frameSequenced f d).offerFrame f d).endAct.unsignalled
      = ((s.sequenced f d).offerFrame f d).unsignalled := State.offerFrame_congr hsequenced.2
  refine ⟨_, exec_frameArrival_offered hf hd, ?_, (hsequenced.1.of_ports hflags hports).endAct, fun hidle => ?_, fun hcapturing hno hroom => ?_,
    fun hcapturing hno hfull => ?_⟩
  · rw [State.endAct_sent, hsent, State.frameSequenced_sent]
    rfl
  all_goals rw [hdata]
  · rw [State.offerFrame_of_idle (s := s.sequenced f d) hidle]
    rfl
  · rw [State.offerFrame_of_room (s := s.sequenced f d) hcapturing hno hroom]
    simp [State.unsignalled, State.sequenced, State.joinIntake, State.present, State.mapLink, State.mapStore, State.occupancy, State.afterSequence, frameInFront,
      IntakeItem.isFrame]
  · rw [State.offerFrame_of_full (s := s.sequenced f d) hcapturing hno hfull]
    rfl

/-- Settles O20: the resync is counted and raised, and its marker joins intake while capture takes frames. -/
theorem linkResyncIsTaken : Obligations.LinkResyncIsTaken := by
  unfold Obligations.LinkResyncIsTaken
  refine ⟨fun s c lock h => ?_, fun s h => exec_linkLockLoss_unlocked h⟩
  obtain ⟨hsent, hsignalled, hdata⟩ := s.beginAct.resync_rest lock
  refine ⟨_, exec_resync h, ?_, hsignalled.of_beginAct.endAct, hdata, fun hcapturing hno hlast => ?_, fun hcapturing hno hlast => ?_, fun hidle => ?_⟩
  · rw [State.endAct_sent, hsent]
    rfl
  · have hends : (s.beginAct.resyncBegun lock).endsInResync = true := State.endsInResync_iff.mpr hlast
    rw [State.resync_of_taking (s := s.beginAct) lock hcapturing hno, State.placeResync, hends]
    rfl
  · have hends : (s.beginAct.resyncBegun lock).endsInResync = false := by
      rw [← Bool.not_eq_true, State.resyncBegun_endsInResync, State.endsInResync_iff]
      exact fun ⟨l, hl⟩ => hlast l hl
    rw [State.resync_of_taking (s := s.beginAct) lock hcapturing hno, State.placeResync, hends]
    rfl
  · rw [State.resync_of_idle (s := s.beginAct) lock hidle]
    rfl

/-- Settles O21: the Halt line by the capture state and the Halt Mode. -/
theorem haltLineActs : Obligations.HaltLineActs := by
  unfold Obligations.HaltLineActs
  refine ⟨fun s => rfl, fun s hline => exec_haltAssertion_held hline, fun s hline => ⟨fun hidle => ?_, fun hcapturing hmode hhalt => ?_,
    fun hcapturing hmode hno => ?_, fun hcapturing hmode hr => exec_haltAssertion_stops hline hcapturing hmode hr⟩⟩
  · rw [exec_haltAssertion hline, State.takeHalt_of_idle (s := s.beginAct.lineAsserted) hidle]
    rfl
  · rw [exec_haltAssertion hline, State.takeHalt_of_orderly (s := s.beginAct.lineAsserted) hcapturing hmode, if_pos (by exact hhalt)]
    rfl
  · have hnone : ¬ s.beginAct.lineAsserted.control.orderlyHalt = true := Bool.eq_false_iff.mp hno
    rw [exec_haltAssertion hline, State.takeHalt_of_orderly (s := s.beginAct.lineAsserted) hcapturing hmode, if_neg hnone]
    rfl

end Sys2Proof.Proofs

/-!
Fields of a run of bytes, and the requests they spell (O9).
-/
namespace Sys2Proof

/-! ## Layouts (R203) -/

/-- The bytes of a run of fields, each a width and a number. -/
def layout (fields : List (Nat × Nat)) : List Byte :=
  fields.flatMap fun x => leBytes x.1 x.2

/-- The width of a run of fields. -/
def widthOf (fields : List (Nat × Nat)) : Nat :=
  (fields.map Prod.fst).sum

theorem layout_cons (x : Nat × Nat) (fields : List (Nat × Nat)) : layout (x :: fields) = leBytes x.1 x.2 ++ layout fields :=
  List.flatMap_cons

theorem layout_append (fields more : List (Nat × Nat)) : layout (fields ++ more) = layout fields ++ layout more :=
  List.flatMap_append

theorem layout_length (fields : List (Nat × Nat)) : (layout fields).length = widthOf fields := by
  simp [layout, widthOf, List.length_flatMap]

/-- A field of a run is read back at the width of the fields before it, whatever follows the run. -/
theorem fieldAt_layout {fields : List (Nat × Nat)} {width n : Nat} (i : Nat) (h : fields[i]? = some (width, n)) (after : List Byte) :
    fieldAt (layout fields ++ after) (widthOf (fields.take i)) width = n % 256 ^ width := by
  obtain ⟨hlt, heq⟩ := List.getElem?_eq_some_iff.mp h
  have hsplit : fields = fields.take i ++ (width, n) :: fields.drop (i + 1) := by
    rw [← heq, List.cons_getElem_drop_succ, List.take_append_drop]
  have hbytes : layout fields ++ after
      = layout (fields.take i) ++ leBytes width n ++ (layout (fields.drop (i + 1)) ++ after) := by
    conv_lhs => rw [hsplit]
    rw [layout_append, layout_cons]
    simp
  rw [hbytes, ← layout_length, fieldAt_append]

theorem byteAt_eq_fieldAt (bytes : List Byte) (offset : Nat) : byteAt bytes offset = BitVec.ofNat 8 (fieldAt bytes offset 1) := by
  unfold byteAt fieldAt
  cases h : bytes.drop offset with
  | nil =>
    have hend : bytes[offset]? = none := by simpa using h
    simp [leNat, hend]
  | cons b rest =>
    have hat : bytes[offset]? = some b := by
      rw [← List.head?_drop, h]
      rfl
    simp [leNat, hat]

theorem leBytes_one (b : Byte) : leBytes 1 b.toNat = [b] := by
  simp [leBytes]

/-- A byte of a run is read back. -/
theorem byteAt_layout {fields : List (Nat × Nat)} {n : Nat} (i : Nat) (h : fields[i]? = some (1, n)) (after : List Byte) :
    byteAt (layout fields ++ after) (widthOf (fields.take i)) = BitVec.ofNat 8 n := by
  rw [byteAt_eq_fieldAt, fieldAt_layout i h]
  simp [BitVec.toNat_eq]

/-- A number of a field's own width is read back whole. -/
theorem ofNat_fieldAt_layout {fields : List (Nat × Nat)} {width bits : Nat} {x : BitVec bits} (i : Nat) (hbits : 8 * width = bits)
    (h : fields[i]? = some (width, x.toNat)) (after : List Byte) :
    BitVec.ofNat bits (fieldAt (layout fields ++ after) (widthOf (fields.take i)) width) = x := by
  rw [fieldAt_layout i h, BitVec.toNat_eq, BitVec.toNat_ofNat]
  have hlt : x.toNat < 256 ^ width := by
    have hpow : 256 ^ width = 2 ^ bits := by rw [← hbits, Nat.pow_mul]
    rw [hpow]
    exact x.isLt
  rw [Nat.mod_eq_of_lt hlt, Nat.mod_eq_of_lt x.isLt]

theorem byteAt_layout_byte {fields : List (Nat × Nat)} {b : Byte} (i : Nat) (h : fields[i]? = some (1, b.toNat)) (after : List Byte) :
    byteAt (layout fields ++ after) (widthOf (fields.take i)) = b := by
  rw [byteAt_layout i h]
  simp

/-! ## Requests (R198, R203) -/

theorem RequestKind.find?_code (k : RequestKind) : RequestKind.all.find? (fun j => decide (j.code = k.code)) = some k := by
  cases k <;> rfl

theorem Port.requestOf_code {p : Port} {k : RequestKind} (h : p.supportsCode k.code = true) : p.requestOf k.code = some k := by
  rw [requestOf, if_pos h, RequestKind.find?_code]

theorem Port.requestOf_unsupported {p : Port} {kind : BitVec 8} (h : p.supportsCode kind = false) : p.requestOf kind = none := by
  rw [requestOf, if_neg (by simp [h])]

/-- The header of a message is read back. -/
theorem header_eq {h : Header} {body : List Byte} (hlength : body.length = h.received) :
    ({ tag := h.tag, target := h.target, bodyLength := BitVec.ofNat 32 (leNat (leBytes 4 h.bodyLength.toNat)), received := body.length } : Header)
      = h := by
  have hbits : BitVec.ofNat 32 (leNat (leBytes 4 h.bodyLength.toNat)) = h.bodyLength := by
    rw [leNat_leBytes, BitVec.toNat_eq, BitVec.toNat_ofNat]
    omega
  rw [hbits, hlength]

section
variable {p : Port} {h : Header} {body : List Byte}

theorem decodeMessage_eq (p : Port) (h : Header) (kind : BitVec 8) (hlength : body.length = h.received) :
    decodeMessage p ([h.tag, kind, h.target, 0] ++ leBytes 4 h.bodyLength.toNat ++ body)
      = some (((p.requestOf kind).map fun k => commandOf p k h body).getD (.unsupportedKind p kind h)) := by
  have hread (h' : Header) (hheader : h' = h) :
      (match p.requestOf kind with
        | some k => some (commandOf p k h' body)
        | none => some (.unsupportedKind p kind h'))
        = some (((p.requestOf kind).map fun k => commandOf p k h body).getD (.unsupportedKind p kind h)) := by
    subst hheader
    cases p.requestOf kind <;> rfl
  exact hread _ (header_eq hlength)

theorem decodeMessage_supported {k : RequestKind} {i : Instr} (hsupported : p.supportsCode k.code = true) (hlength : body.length = h.received)
    (hcommand : commandOf p k h body = i) :
    decodeMessage p ([h.tag, k.code, h.target, 0] ++ leBytes 4 h.bodyLength.toNat ++ body) = some i := by
  rw [decodeMessage_eq p h k.code hlength, Port.requestOf_code hsupported, ← hcommand]
  rfl

theorem decodeMessage_unsupported {kind : BitVec 8} (hunsupported : p.supportsCode kind = false) (hlength : body.length = h.received) :
    decodeMessage p ([h.tag, kind, h.target, 0] ++ leBytes 4 h.bodyLength.toNat ++ body) = some (.unsupportedKind p kind h) := by
  rw [decodeMessage_eq p h kind hlength, Port.requestOf_unsupported hunsupported]
  rfl

end

theorem profileOfBody_bodyOfProfile (q : ProfileFields) : profileOfBody (bodyOfProfile q) = q := by
  obtain ⟨width, channels, step, required, policy, pressed, critical, hysteresis, pause, mode, slice, idle, halt⟩ := q
  have hbody : bodyOfProfile ⟨width, channels, step, required, policy, pressed, critical, hysteresis, pause, mode, slice, idle, halt⟩
      = layout
          [(1, width.toNat), (1, channels.toNat), (4, step.toNat), (1, required.toNat), (1, policy.toNat), (4, pressed.toNat),
            (4, critical.toNat), (1, hysteresis.toNat), (1, pause.toNat), (1, mode.toNat), (8, slice.toNat), (4, idle.toNat),
            (1, halt.toNat)] ++ [] := by
    simp [bodyOfProfile, layout, leBytes_one]
  rw [profileOfBody, hbody, ProfileFields.mk.injEq]
  exact ⟨byteAt_layout_byte 0 rfl [], byteAt_layout_byte 1 rfl [], ofNat_fieldAt_layout 2 rfl rfl [], byteAt_layout_byte 3 rfl [],
    byteAt_layout_byte 4 rfl [], ofNat_fieldAt_layout 5 rfl rfl [], ofNat_fieldAt_layout 6 rfl rfl [], byteAt_layout_byte 7 rfl [],
    byteAt_layout_byte 8 rfl [], byteAt_layout_byte 9 rfl [], ofNat_fieldAt_layout 10 rfl rfl [], ofNat_fieldAt_layout 11 rfl rfl [],
    byteAt_layout_byte 12 rfl []⟩

end Sys2Proof

/-!
Every well-formed request is given back by its bytes (O9).
-/
namespace Sys2Proof

variable {bits width : Nat}

/-- A number of its field's own width is read back behind `before`. -/
theorem ofNat_fieldAt_append (before after : List Byte) (x : BitVec bits) (hbits : 8 * width = bits) {offset : Nat}
    (hoffset : before.length = offset) : BitVec.ofNat bits (fieldAt (before ++ leBytes width x.toNat ++ after) offset width) = x := by
  have hpow : 256 ^ width = 2 ^ bits := by rw [← hbits, Nat.pow_mul]
  rw [← hoffset, fieldAt_append, hpow, BitVec.toNat_eq, BitVec.toNat_ofNat, Nat.mod_mod, Nat.mod_eq_of_lt x.isLt]

theorem ofNat_fieldAt_first (after : List Byte) (x : BitVec bits) (hbits : 8 * width = bits) :
    BitVec.ofNat bits (fieldAt (leBytes width x.toNat ++ after) 0 width) = x :=
  ofNat_fieldAt_append [] after x hbits rfl

theorem ofNat_fieldAt_alone (x : BitVec bits) (hbits : 8 * width = bits) : BitVec.ofNat bits (fieldAt (leBytes width x.toNat) 0 width) = x := by
  simpa using ofNat_fieldAt_first [] x hbits

theorem ofNat_fieldAt_last (before : List Byte) (x : BitVec bits) (hbits : 8 * width = bits) {offset : Nat} (hoffset : before.length = offset) :
    BitVec.ofNat bits (fieldAt (before ++ leBytes width x.toNat) offset width) = x := by
  simpa using ofNat_fieldAt_append before [] x hbits hoffset

theorem byteAt_last (before : List Byte) (b : Byte) {offset : Nat} (hoffset : before.length = offset) : byteAt (before ++ [b]) offset = b := by
  subst hoffset
  simp [byteAt]

section
variable {h : Header}

/-- An LBN and a byte. -/
theorem fields_lbn_byte (lbn : BitVec 64) (b : BitVec 8) :
    BitVec.ofNat 64 (fieldAt (leBytes 8 lbn.toNat ++ [b]) 0 8) = lbn ∧ byteAt (leBytes 8 lbn.toNat ++ [b]) 8 = b :=
  ⟨ofNat_fieldAt_first _ _ rfl, byteAt_last _ _ rfl⟩

/-- An LBN, an Offset and a Length. -/
theorem fields_piece (lbn : BitVec 64) (offset length : BitVec 32) :
    BitVec.ofNat 64 (fieldAt (leBytes 8 lbn.toNat ++ leBytes 4 offset.toNat ++ leBytes 4 length.toNat) 0 8) = lbn
      ∧ BitVec.ofNat 32 (fieldAt (leBytes 8 lbn.toNat ++ leBytes 4 offset.toNat ++ leBytes 4 length.toNat) 8 4) = offset
      ∧ BitVec.ofNat 32 (fieldAt (leBytes 8 lbn.toNat ++ leBytes 4 offset.toNat ++ leBytes 4 length.toNat) 12 4) = length := by
  refine ⟨?_, ofNat_fieldAt_append _ _ _ rfl rfl, ofNat_fieldAt_last _ _ rfl rfl⟩
  rw [List.append_assoc]
  exact ofNat_fieldAt_first _ _ rfl

end

/-- What a request's message is read as: the command itself, when it is in its row. -/
theorem commandOf_message {i : Instr} {p : Port} {kind : BitVec 8} {body : List Byte} {h : Header} (hheader : i.header = some h)
    (hmessage : i.message = some (p, kind, body)) (hrow : i.inRow = true) :
    p.supportsCode kind = false ∧ i = .unsupportedKind p kind h
      ∨ ∃ k : RequestKind, kind = k.code ∧ p.supportsCode k.code = true ∧ commandOf p k h body = i := by
  cases i
  case unsupportedKind p' kind' h' =>
    cases hheader
    cases hmessage
    exact .inl ⟨by simpa [Instr.inRow] using hrow, rfl⟩
  all_goals cases hmessage
  all_goals cases hheader
  case start => exact .inr ⟨.start, rfl, rfl, rfl⟩
  case stopAtSegmentEnd mode =>
    have hmode : mode ≠ 1 := by simpa [Instr.inRow] using hrow
    exact .inr ⟨.stop, rfl, rfl, if_neg hmode⟩
  case stopNow mode =>
    have hmode : mode = 1 := by simpa [Instr.inRow] using hrow
    exact .inr ⟨.stop, rfl, rfl, if_pos hmode⟩
  case flush => exact .inr ⟨.flush, rfl, rfl, rfl⟩
  case stageProfile q => exact .inr ⟨.stageProfile, rfl, rfl, by rw [commandOf, profileOfBody_bodyOfProfile]⟩
  case readProfile which => exact .inr ⟨.readProfile, rfl, rfl, rfl⟩
  case setHeadMark lbn action =>
    obtain ⟨hlbn, haction⟩ := fields_lbn_byte lbn action
    exact .inr ⟨.setHeadMark, rfl, rfl, by rw [commandOf, hlbn, haction]⟩
  case clearHeadMark => exact .inr ⟨.clearHeadMark, rfl, rfl, rfl⟩
  case pin first count =>
    refine .inr ⟨.pin, rfl, rfl, ?_⟩
    rw [commandOf, ofNat_fieldAt_first _ first rfl, ofNat_fieldAt_last (width := 4) (leBytes 8 first.toNat) count rfl (offset := 8) rfl]
  case unpin => exact .inr ⟨.unpin, rfl, rfl, rfl⟩
  case read lbn offset length =>
    obtain ⟨hlbn, hoffset, hlength⟩ := fields_piece lbn offset length
    exact .inr ⟨.read, rfl, rfl, by rw [commandOf, hlbn, hoffset, hlength]⟩
  case setGroupNext next => exact .inr ⟨.setGroupNext, rfl, rfl, rfl⟩
  case applyGroups => exact .inr ⟨.applyGroups, rfl, rfl, rfl⟩
  case setGroupMap span groups => exact .inr ⟨.setGroupMap, rfl, rfl, rfl⟩
  case reform => exact .inr ⟨.reform, rfl, rfl, rfl⟩
  case openContext first length =>
    refine .inr ⟨.openContext, rfl, rfl, ?_⟩
    rw [commandOf, ofNat_fieldAt_first _ first rfl, ofNat_fieldAt_last (width := 8) (leBytes 8 first.toNat) length rfl (offset := 8) rfl]
  case closeContext => exact .inr ⟨.closeContext, rfl, rfl, rfl⟩
  case take wait => exact .inr ⟨.take, rfl, rfl, rfl⟩
  case fetch lbn offset length =>
    obtain ⟨hlbn, hoffset, hlength⟩ := fields_piece lbn offset length
    exact .inr ⟨.fetch, rfl, rfl, by rw [commandOf, hlbn, hoffset, hlength]⟩
  case confirm lbn withLoss =>
    obtain ⟨hlbn, hloss⟩ := fields_lbn_byte lbn withLoss
    exact .inr ⟨.confirm, rfl, rfl, by rw [commandOf, hlbn, hloss]⟩
  case returnBlock lbn => exact .inr ⟨.returnBlock, rfl, rfl, by rw [commandOf, ofNat_fieldAt_alone lbn rfl]⟩
  case setArchiveMark lbn => exact .inr ⟨.setArchiveMark, rfl, rfl, by rw [commandOf, ofNat_fieldAt_alone lbn rfl]⟩
  case clearArchiveMark => exact .inr ⟨.clearArchiveMark, rfl, rfl, rfl⟩
  case setFlagSource source => exact .inr ⟨.setFlagSource, rfl, by cases p <;> rfl, rfl⟩
  case post => exact .inr ⟨.post, rfl, by cases p <;> rfl, rfl⟩
  case wait mode timeout =>
    refine .inr ⟨.wait, rfl, by cases p <;> rfl, ?_⟩
    have htimeout := ofNat_fieldAt_last [mode] timeout (width := 4) rfl (offset := 1) rfl
    rw [commandOf]
    simp only [List.singleton_append] at htimeout
    rw [htimeout]
    rfl
  case clearFlag => exact .inr ⟨.clearFlag, rfl, by cases p <;> rfl, rfl⟩
  case readIndex first count =>
    obtain ⟨hfirst, hcount⟩ := fields_lbn_byte first count
    exact .inr ⟨.readIndex, rfl, by cases p <;> rfl, by rw [commandOf, hfirst, hcount]⟩
  case readStatus => exact .inr ⟨.readStatus, rfl, by cases p <;> rfl, rfl⟩
  case readCounts => exact .inr ⟨.readCounts, rfl, by cases p <;> rfl, rfl⟩
  case setNoticeMask kinds => exact .inr ⟨.setNoticeMask, rfl, by cases p <;> rfl, by rw [commandOf, ofNat_fieldAt_alone kinds rfl]⟩
  case clearNotice kinds => exact .inr ⟨.clearNotice, rfl, by cases p <;> rfl, by rw [commandOf, ofNat_fieldAt_alone kinds rfl]⟩
  case forceNotice kinds => exact .inr ⟨.forceNotice, rfl, by cases p <;> rfl, by rw [commandOf, ofNat_fieldAt_alone kinds rfl]⟩
  case resetPort => exact .inr ⟨.resetPort, rfl, by cases p <;> rfl, rfl⟩

/-- The body of a request is as long as its parameter fields (R203). -/
theorem Instr.message_bodyBytes {i : Instr} {p : Port} {kind : BitVec 8} {body : List Byte} (hmessage : i.message = some (p, kind, body)) :
    body.length = i.bodyBytes := by
  cases i <;> cases hmessage <;> simp [Instr.bodyBytes, Nat.add_comm]

end Sys2Proof

namespace Sys2Proof.Proofs
open Sys2Proof.Machine

/-- Settles O9: a message's header and its parameter fields are read back from where they stand. -/
theorem messagesDecodeToTheirRequests : Obligations.MessagesDecodeToTheirRequests := by
  unfold Obligations.MessagesDecodeToTheirRequests
  intro i p bytes hwell hencode
  obtain ⟨hframed, hrow⟩ := Bool.and_eq_true_iff.mp hwell
  unfold encodeMessage at hencode
  split at hencode
  case h_2 => cases hencode
  case h_1 p' kind body h hmessage hheader =>
    cases hencode
    have hlength : body.length = h.received := by
      rw [Instr.message_bodyBytes hmessage]
      have hboth : h.bodyLength.toNat = h.received ∧ h.received = i.bodyBytes := by simpa [Instr.framed, hheader] using hframed
      exact hboth.2.symm
    obtain ⟨hunsupported, rfl⟩ | ⟨k, rfl, hsupported, hcommand⟩ := commandOf_message hheader hmessage hrow
    · exact decodeMessage_unsupported hunsupported hlength
    · exact decodeMessage_supported hsupported hlength hcommand

end Sys2Proof.Proofs

/-!
The layouts of a frame, of the Claim record, of the status record and of an index entry (O10).
-/
namespace Sys2Proof
open Sys2Proof.Machine

/-! ## Fields behind other bytes -/

theorem fieldAt_append_right (before bytes : List Byte) (offset width : Nat) :
    fieldAt (before ++ bytes) (before.length + offset) width = fieldAt bytes offset width := by
  rw [fieldAt, List.drop_append, List.drop_of_length_le (by omega), Nat.add_sub_cancel_left]
  rfl

theorem fieldAt_append_left {bytes : List Byte} {offset width : Nat} (hin : offset + width ≤ bytes.length) (after : List Byte) :
    fieldAt (bytes ++ after) offset width = fieldAt bytes offset width := by
  unfold fieldAt
  rw [List.drop_append_of_le_length (by omega), List.take_append_of_le_length (by rw [List.length_drop]; omega)]

/-- A field of the i-th of a run of records that are all `size` bytes long. -/
theorem fieldAt_flatMap {α : Type} {xs : List α} {f : α → List Byte} {size : Nat} (hsize : ∀ x ∈ xs, (f x).length = size) {i : Nat} {x : α}
    (hx : xs[i]? = some x) (before : List Byte) {offset width : Nat} (hin : offset + width ≤ size) :
    fieldAt (before ++ xs.flatMap f) (before.length + size * i + offset) width = fieldAt (f x) offset width := by
  induction xs generalizing i before with
  | nil => cases hx
  | cons y rest ih =>
    have hy : (f y).length = size := hsize y (List.mem_cons_self ..)
    rw [List.flatMap_cons]
    cases i with
    | zero =>
      obtain rfl : y = x := Option.some.inj hx
      have hat : before.length + size * 0 + offset = before.length + offset := by omega
      rw [hat, fieldAt_append_right, fieldAt_append_left (hin.trans hy.ge)]
    | succ i =>
      have hlength : before.length + size * (i + 1) + offset = (before ++ f y).length + size * i + offset := by
        rw [List.length_append, hy, Nat.mul_add]
        omega
      rw [hlength, ← List.append_assoc]
      exact ih (fun z hz => hsize z (List.mem_cons_of_mem _ hz)) hx (before ++ f y)

theorem take_drop_between {before bytes : List Byte} {offset : Nat} (hoffset : before.length = offset) (after : List Byte) :
    ((before ++ (bytes ++ after)).drop offset).take bytes.length = bytes := by
  rw [List.drop_left' hoffset, List.take_left]

theorem byteAt_toNat (bytes : List Byte) (offset : Nat) : (byteAt bytes offset).toNat = fieldAt bytes offset 1 % 256 := by
  rw [byteAt_eq_fieldAt, BitVec.toNat_ofNat]

/-- A number below 256 in a byte of a run is read back. -/
theorem byteAt_layout_toNat {fields : List (Nat × Nat)} {n : Nat} (i : Nat) (h : fields[i]? = some (1, n)) (hlt : n < 256) (after : List Byte) :
    (byteAt (layout fields ++ after) (widthOf (fields.take i))).toNat = n := by
  rw [byteAt_layout i h, BitVec.toNat_ofNat, Nat.mod_eq_of_lt hlt]

/-! ## The frame (R30, R31, R204) -/

section
variable {covered payload : List Byte} {flags units : Byte} {check : BitVec 32}

/-- The bytes of a frame with their fields where the table puts them are read field by field, when the check agrees. -/
theorem parseFrame_eq (hflags : byteAt (covered ++ leBytes 4 check.toNat) 2 = flags)
    (hunits : byteAt (covered ++ leBytes 4 check.toNat) 3 = units) (hlow : 1 ≤ units.toNat) (hhigh : units.toNat ≤ 128)
    (hlength : covered.length = (if flags.getLsbD 3 then 16 else 8) + 64 * units.toNat) :
    parseFrame (covered ++ leBytes 4 check.toNat)
      = if linkCheck covered = check then
          some
            { sequence := BitVec.ofNat 16 (fieldAt (covered ++ leBytes 4 check.toNat) 0 2)
              startFlag := flags.getLsbD 0
              triggerFlag := flags.getLsbD 1
              endFlag := flags.getLsbD 2
              triggerOffset := BitVec.ofNat 13 (fieldAt (covered ++ leBytes 4 check.toNat) 4 2)
              triggerKind := (byteAt (covered ++ leBytes 4 check.toNat) 6).setWidth 4
              stamp := if flags.getLsbD 3 then some (BitVec.ofNat 64 (fieldAt (covered ++ leBytes 4 check.toNat) 8 8)) else none
              payload := ((covered ++ leBytes 4 check.toNat).drop (if flags.getLsbD 3 then 16 else 8)).take (64 * units.toNat) }
        else none := by
  have hcheck : BitVec.ofNat 32 (fieldAt (covered ++ leBytes 4 check.toNat) covered.length 4) = check :=
    ofNat_fieldAt_last (width := 4) covered check rfl rfl
  have htake : (covered ++ leBytes 4 check.toNat).take covered.length = covered := List.take_left
  have hlong : (covered ++ leBytes 4 check.toNat).length = covered.length + 4 := by simp
  unfold parseFrame
  simp only [hflags, hunits, ← hlength, hcheck, htake, hlong, hlow, hhigh, true_and]

end

/-- What the check covers of a frame: the fields in the order of R204, the stamp where the flags have one, and the payload. -/
theorem frame_covered (sequence : BitVec 16) (flags units kind ignored : Byte) (offset : BitVec 16) (stamped payload : List Byte) :
    leBytes 2 sequence.toNat ++ [flags, units] ++ leBytes 2 offset.toNat ++ [kind, ignored] ++ stamped ++ payload
      = layout
          [(2, sequence.toNat), (1, flags.toNat), (1, units.toNat), (2, offset.toNat), (1, kind.toNat), (1, ignored.toNat)]
        ++ (stamped ++ payload) := by
  simp [layout, leBytes_one]

theorem parseFrame_frame {sequence : BitVec 16} {flags units kind ignored : Byte} {offset : BitVec 16} {stamp : BitVec 64}
    {payload covered : List Byte} (hlow : 1 ≤ units.toNat) (hhigh : units.toNat ≤ 128) (hpayload : payload.length = 64 * units.toNat)
    (hcovered : covered = leBytes 2 sequence.toNat ++ [flags, units] ++ leBytes 2 offset.toNat ++ [kind, ignored]
      ++ (if flags.getLsbD 3 then leBytes 8 stamp.toNat else []) ++ payload) (check : BitVec 32) :
    parseFrame (covered ++ leBytes 4 check.toNat)
      = if linkCheck covered = check then
          some
            { sequence := sequence, startFlag := flags.getLsbD 0, triggerFlag := flags.getLsbD 1,
              endFlag := flags.getLsbD 2, triggerOffset := offset.setWidth 13, triggerKind := kind.setWidth 4,
              stamp := if flags.getLsbD 3 then some stamp else none, payload := payload }
        else none := by
  rw [frame_covered] at hcovered
  have hbytes : covered ++ leBytes 4 check.toNat
      = layout
          [(2, sequence.toNat), (1, flags.toNat), (1, units.toNat), (2, offset.toNat), (1, kind.toNat), (1, ignored.toNat)]
        ++ (((if flags.getLsbD 3 then leBytes 8 stamp.toNat else []) ++ payload) ++ leBytes 4 check.toNat) := by
    rw [hcovered, List.append_assoc]
  have hflags : byteAt (covered ++ leBytes 4 check.toNat) 2 = flags := hbytes ▸ byteAt_layout_byte 1 rfl _
  have hunits : byteAt (covered ++ leBytes 4 check.toNat) 3 = units := hbytes ▸ byteAt_layout_byte 2 rfl _
  have hkind : byteAt (covered ++ leBytes 4 check.toNat) 6 = kind := hbytes ▸ byteAt_layout_byte 4 rfl _
  have hsequence : BitVec.ofNat 16 (fieldAt (covered ++ leBytes 4 check.toNat) 0 2) = sequence :=
    hbytes ▸ ofNat_fieldAt_layout 0 rfl rfl _
  have hoffset : fieldAt (covered ++ leBytes 4 check.toNat) 4 2 = offset.toNat :=
    (hbytes ▸ fieldAt_layout 3 rfl _ : fieldAt (covered ++ leBytes 4 check.toNat) 4 2 = offset.toNat % 256 ^ 2).trans
      (Nat.mod_eq_of_lt offset.isLt)
  have hlength : covered.length = (if flags.getLsbD 3 then 16 else 8) + 64 * units.toNat := by
    rw [hcovered, List.length_append, List.length_append, layout_length, hpayload]
    cases flags.getLsbD 3 <;> simp [widthOf]
    all_goals omega
  rw [parseFrame_eq hflags hunits hlow hhigh hlength, hsequence, hoffset, hkind, BitVec.ofNat_toNat, ← hpayload, hbytes]
  have hfields : (layout
      [(2, sequence.toNat), (1, flags.toNat), (1, units.toNat), (2, offset.toNat), (1, kind.toNat), (1, ignored.toNat)]).length = 8 := rfl
  generalize layout _ = fields at hfields
  cases flags.getLsbD 3
  · simp [take_drop_between hfields]
  · have hstamp := ofNat_fieldAt_append (width := 8) fields (payload ++ leBytes 4 check.toNat) stamp rfl hfields
    have hpayload := take_drop_between (before := fields ++ leBytes 8 stamp.toNat) (bytes := payload) (offset := 16) (by simp [hfields])
      (leBytes 4 check.toNat)
    simp only [List.append_assoc] at hstamp hpayload
    simp [hstamp, hpayload]

end Sys2Proof

/-!
The layouts of the Claim record, of the status record and of an index entry (O10).
-/
namespace Sys2Proof.Machine

/-! ## Codes and flags -/

theorem flagBits_lt (flags : List Bool) : flagBits flags < 2 ^ flags.length := by
  induction flags with
  | nil => simp [flagBits]
  | cons b rest ih =>
    have hcons : flagBits (b :: rest) = b.toNat + 2 * flagBits rest := rfl
    have hbit : b.toNat ≤ 1 := Bool.toNat_le b
    rw [hcons, List.length_cons, Nat.pow_succ]
    omega

theorem CaptureState.code_lt (c : CaptureState) : c.code < 256 := by
  cases c <;> decide

theorem StopReason.code_lt (r : StopReason) : r.code < 256 := by
  cases r <;> decide

theorem Band.code_lt (b : Band) : b.code < 256 := by
  cases b <;> decide

theorem GroupPower.code_lt (p : GroupPower) : p.code < 256 := by
  cases p <;> decide

theorem GroupState.code_lt (g : GroupState) : g.code < 256 := by
  cases g with
  | settled p => exact p.code_lt
  | changing _ _ _ => exact (by decide : 3 < 256)

theorem closeReasonCode_lt (r : Option CloseReason) : closeReasonCode r < 256 := by
  cases r with
  | none => decide
  | some r => cases r <;> decide

theorem GapCause.code_lt (c : GapCause) : c.code < 256 := by
  cases c <;> decide

theorem topCode_lt (k : Option NoticeKind) : (k.map NoticeKind.number).getD 255 < 256 := by
  cases k with
  | none => decide
  | some k => cases k <;> decide

theorem toNat_bool_lt (b : Bool) : b.toNat < 256 :=
  (Bool.toNat_le b).trans_lt (by decide)

/-- The bytes hold these fields from an offset on. -/
def Reads (bytes : List Byte) : Nat → List (Nat × Nat) → Prop
  | _, [] => True
  | offset, (width, n) :: rest => fieldAt bytes offset width = n % 256 ^ width ∧ Reads bytes (offset + width) rest

theorem reads_layout (before : List Byte) (fields : List (Nat × Nat)) (after : List Byte) :
    Reads (before ++ layout fields ++ after) before.length fields := by
  induction fields generalizing before with
  | nil => trivial
  | cons x rest ih =>
    obtain ⟨width, n⟩ := x
    have hrest := ih (before ++ leBytes width n)
    rw [layout_cons]
    simp only [List.append_assoc, List.length_append, leBytes_length] at hrest ⊢
    refine ⟨?_, hrest⟩
    rw [← List.append_assoc]
    exact fieldAt_append before _ width n

/-- A run of fields is read back, whatever follows it. -/
theorem reads_fields (fields : List (Nat × Nat)) (after : List Byte) : Reads (layout fields ++ after) 0 fields :=
  reads_layout [] fields after

theorem byteAt_of_field {bytes : List Byte} {offset n : Nat} (h : fieldAt bytes offset 1 = n % 256 ^ 1) : byteAt bytes offset = BitVec.ofNat 8 n := by
  rw [byteAt_eq_fieldAt, h]
  simp [BitVec.toNat_eq]

theorem byteAt_toNat_of_field {bytes : List Byte} {offset n : Nat} (h : fieldAt bytes offset 1 = n % 256 ^ 1) (hlt : n < 256) :
    (byteAt bytes offset).toNat = n := by
  rw [byteAt_of_field h, BitVec.toNat_ofNat, Nat.mod_eq_of_lt hlt]

/-- Flags that fit in their field are read back. -/
theorem flags_of_field {bytes : List Byte} {offset width : Nat} {flags : List Bool} (h : fieldAt bytes offset width = flagBits flags % 256 ^ width)
    (hfit : flags.length ≤ 8 * width) : fieldAt bytes offset width = flagBits flags := by
  refine h.trans (Nat.mod_eq_of_lt ((flagBits_lt flags).trans_le ?_))
  rw [show 256 = 2 ^ 8 from rfl, ← Nat.pow_mul]
  exact Nat.pow_le_pow_right (by decide) hfit

/-! ## The Claim record (R206) -/

theorem ClaimRecord.bytes_eq (c : ClaimRecord) :
    c.bytes
      = layout [(8, c.lbn), (8, c.segment), (4, c.fillBytes), (1, flagBits [c.firstOfSegment, c.lastOfSegment, c.damaged])] ++ [] := by
  simp [ClaimRecord.bytes, layout, oneByte]

theorem ClaimRecord.bytes_layout (c : ClaimRecord) :
    c.bytes.length = 21 ∧ fieldAt c.bytes 0 8 = c.lbn % 2 ^ 64 ∧ fieldAt c.bytes 8 8 = c.segment % 2 ^ 64
      ∧ fieldAt c.bytes 16 4 = c.fillBytes % 2 ^ 32
      ∧ byteAt c.bytes 20 = BitVec.ofNat 8 (c.firstOfSegment.toNat + 2 * c.lastOfSegment.toNat + 4 * c.damaged.toNat) := by
  have hflags : flagBits [c.firstOfSegment, c.lastOfSegment, c.damaged]
      = c.firstOfSegment.toNat + 2 * c.lastOfSegment.toNat + 4 * c.damaged.toNat := by
    simp only [flagBits, List.foldr]
    ring
  rw [c.bytes_eq, ← hflags]
  obtain ⟨hlbn, hsegment, hfill, hbits, -⟩ := reads_fields
    [(8, c.lbn), (8, c.segment), (4, c.fillBytes), (1, flagBits [c.firstOfSegment, c.lastOfSegment, c.damaged])] []
  exact ⟨rfl, hlbn, hsegment, hfill, byteAt_of_field hbits⟩

/-! ## The status record (R207) -/

/-- The fields of the status record before its groups. -/
def StatusRecord.fields (r : StatusRecord) : List (Nat × Nat) :=
  [(1, r.capture.code), (1, r.stopReason.code), (1, r.band.code), (1, r.span),
    (2, flagBits
      [r.pause, r.captureEnable, r.orderlyHalt, r.swapPending, r.headMark.isSome,
        (r.headMark.map fun m => decide (m.action = .stop)).getD false, r.archiveMark.isSome, r.openSegment.isSome, r.openFill.isSome]),
    (1, r.occupancy), (1, (r.top.map NoticeKind.number).getD 255), (8, r.head), (8, r.tail), (8, r.archiveFront), (8, r.holdFloor),
    (2, r.headroom), (2, r.capacity), (4, r.openFill.getD 0), (8, r.openSegment.getD 0), (8, (r.headMark.map HeadMark.lbn).getD 0),
    (8, r.archiveMark.getD 0)]

theorem StatusRecord.bytes_eq (r : StatusRecord) : r.bytes = layout r.fields ++ r.groups.flatMap GroupReport.bytes := by
  simp [StatusRecord.bytes, StatusRecord.fields, layout, oneByte, topByte]

/-- The Target byte of a group's report: 255 while it is settled. -/
def targetCode : GroupState → Nat
  | .settled _ => 255
  | .changing _ target _ => target.code

theorem targetCode_lt (g : GroupState) : targetCode g < 256 := by
  cases g with
  | settled _ => exact (by decide : 255 < 256)
  | changing _ target _ => exact target.code_lt

theorem GroupReport.bytes_eq (g : GroupReport) :
    g.bytes = layout [(1, g.state.code), (1, g.next.code), (1, targetCode g.state), (1, g.slot.getD 255)] ++ [] := by
  obtain ⟨state, next, slot⟩ := g
  cases state <;> simp [GroupReport.bytes, targetCode, layout, oneByte]

theorem GroupReport.bytes_length (g : GroupReport) : g.bytes.length = 4 := by
  simp [g.bytes_eq, layout]

theorem StatusRecord.bytes_length (r : StatusRecord) : r.bytes.length = 72 + 4 * r.groups.length := by
  rw [r.bytes_eq, List.length_append, layout_length, List.length_flatMap,
    List.map_congr_left (g := fun _ => 4) fun g _ => g.bytes_length]
  simp [StatusRecord.fields, widthOf, Nat.mul_comm]

/-- A group's four bytes stand at 72 and four times its number. -/
theorem StatusRecord.bytes_group {r : StatusRecord} {i : Nat} {g : GroupReport} (hg : r.groups[i]? = some g) {offset : Nat} (hin : offset + 1 ≤ 4) :
    byteAt r.bytes (72 + 4 * i + offset) = byteAt g.bytes offset := by
  have hfields : (layout r.fields).length = 72 := rfl
  rw [byteAt_eq_fieldAt, byteAt_eq_fieldAt, r.bytes_eq, ← hfields, fieldAt_flatMap (fun x _ => x.bytes_length) hg _ hin]

/-- Every field of the status record before its groups. -/
theorem StatusRecord.bytes_fields (r : StatusRecord) :
    (byteAt r.bytes 0).toNat = r.capture.code ∧ (byteAt r.bytes 1).toNat = r.stopReason.code ∧ (byteAt r.bytes 2).toNat = r.band.code
      ∧ byteAt r.bytes 3 = BitVec.ofNat 8 r.span
      ∧ fieldAt r.bytes 4 2
          = r.pause.toNat + 2 * r.captureEnable.toNat + 4 * r.orderlyHalt.toNat + 8 * r.swapPending.toNat + 16 * r.headMark.isSome.toNat
            + 32 * (decide (∃ m ∈ r.headMark, m.action = .stop)).toNat + 64 * r.archiveMark.isSome.toNat + 128 * r.openSegment.isSome.toNat
            + 256 * r.openFill.isSome.toNat
      ∧ byteAt r.bytes 6 = BitVec.ofNat 8 r.occupancy ∧ (byteAt r.bytes 7).toNat = (r.top.map NoticeKind.number).getD 255
      ∧ fieldAt r.bytes 8 8 = r.head % 2 ^ 64 ∧ fieldAt r.bytes 16 8 = r.tail % 2 ^ 64 ∧ fieldAt r.bytes 24 8 = r.archiveFront % 2 ^ 64
      ∧ fieldAt r.bytes 32 8 = r.holdFloor % 2 ^ 64 ∧ fieldAt r.bytes 40 2 = r.headroom % 2 ^ 16 ∧ fieldAt r.bytes 42 2 = r.capacity % 2 ^ 16
      ∧ fieldAt r.bytes 44 4 = r.openFill.getD 0 % 2 ^ 32 ∧ fieldAt r.bytes 48 8 = r.openSegment.getD 0 % 2 ^ 64
      ∧ fieldAt r.bytes 56 8 = (r.headMark.map HeadMark.lbn).getD 0 % 2 ^ 64 ∧ fieldAt r.bytes 64 8 = r.archiveMark.getD 0 % 2 ^ 64 := by
  have hstop : (r.headMark.map fun m => decide (m.action = .stop)).getD false = decide (∃ m ∈ r.headMark, m.action = .stop) := by
    cases r.headMark <;> simp
  have hflags : flagBits
      [r.pause, r.captureEnable, r.orderlyHalt, r.swapPending, r.headMark.isSome,
        (r.headMark.map fun m => decide (m.action = .stop)).getD false, r.archiveMark.isSome, r.openSegment.isSome, r.openFill.isSome]
      = r.pause.toNat + 2 * r.captureEnable.toNat + 4 * r.orderlyHalt.toNat + 8 * r.swapPending.toNat + 16 * r.headMark.isSome.toNat
        + 32 * (decide (∃ m ∈ r.headMark, m.action = .stop)).toNat + 64 * r.archiveMark.isSome.toNat + 128 * r.openSegment.isSome.toNat
        + 256 * r.openFill.isSome.toNat := by
    rw [hstop]
    simp only [flagBits, List.foldr]
    ring
  rw [r.bytes_eq, ← hflags]
  obtain ⟨h0, h1, h2, h3, h4, h6, h7, h8, h16, h24, h32, h40, h42, h44, h48, h56, h64, -⟩ :=
    reads_fields r.fields (r.groups.flatMap GroupReport.bytes)
  exact ⟨byteAt_toNat_of_field h0 r.capture.code_lt, byteAt_toNat_of_field h1 r.stopReason.code_lt, byteAt_toNat_of_field h2 r.band.code_lt,
    byteAt_of_field h3, flags_of_field h4 (by simp), byteAt_of_field h6, byteAt_toNat_of_field h7 (topCode_lt r.top), h8, h16, h24, h32,
    h40, h42, h44, h48, h56, h64⟩

/-- Every field of a group's report. -/
theorem GroupReport.bytes_fields (g : GroupReport) :
    (byteAt g.bytes 0).toNat = g.state.code ∧ (byteAt g.bytes 1).toNat = g.next.code ∧ (byteAt g.bytes 2).toNat = targetCode g.state
      ∧ byteAt g.bytes 3 = BitVec.ofNat 8 (g.slot.getD 255) := by
  rw [g.bytes_eq]
  exact ⟨byteAt_layout_toNat 0 rfl g.state.code_lt _, byteAt_layout_toNat 1 rfl g.next.code_lt _,
    byteAt_layout_toNat 2 rfl (targetCode_lt g.state) _, byteAt_layout 3 rfl _⟩

theorem State.statusRecord_group (s : State) (p : Port) (g : Fin 16) :
    (s.statusRecord p).groups[g.val]? = some { state := s.power.groups[g].state, next := s.power.groups[g].next, slot := s.ringSlot g } := by
  simp [State.statusRecord]

/-! ## An index entry (R205) -/

/-- The fields of an index entry before its gap records. -/
def Entry.fields (e : Entry) : List (Nat × Nat) :=
  [(8, e.number), (1, (!e.isOpen).toNat), (1, closeReasonCode e.closeReason), (1, e.bpp), (1, e.gaps.length),
    (2, flagBits
      [e.startLost, e.noStamp, e.stampConflict, e.frontEvicted, e.archivedWithLoss, e.damaged, e.archiveRequired, e.gapOverflow,
        e.trigger.isSome]),
    (1, (e.trigger.map fun t => t.kind.toNat).getD 0), (1, 0), (4, e.tickStep), (4, e.triggerCount), (4, e.triggerIgnored), (8, e.firstLbn),
    (8, e.blockCount), (8, e.presentFrom), (8, e.byteLength), (8, e.points), (8, e.firstTick.toNat), (8, e.totalLost.toNat),
    (8, e.evictedUnarchived.toNat), (8, (e.trigger.map Trigger.position).getD 0), (8, (e.trigger.map fun t => t.tick.toNat).getD 0)]

theorem Entry.bytes_eq (e : Entry) : e.bytes = layout e.fields ++ e.gaps.flatMap Gap.bytes := by
  unfold Entry.bytes Entry.fields layout yesNoByte oneByte
  generalize e.gaps.flatMap Gap.bytes = after
  simp only [List.append_assoc, List.flatMap_cons, List.flatMap_nil, List.append_nil]

theorem Gap.bytes_eq (g : Gap) : g.bytes = layout [(8, g.position), (8, g.pointsLost.toNat), (1, g.cause.code), (1, g.mixed.toNat)] ++ [] := by
  simp [Gap.bytes, layout, oneByte, yesNoByte]

theorem Gap.bytes_length (g : Gap) : g.bytes.length = 18 := by
  simp [g.bytes_eq, layout]

theorem Entry.bytes_length (e : Entry) : e.bytes.length = 108 + 18 * e.gaps.length := by
  rw [e.bytes_eq, List.length_append, layout_length, List.length_flatMap, List.map_congr_left (g := fun _ => 18) fun g _ => g.bytes_length]
  simp [Entry.fields, widthOf, Nat.mul_comm]

theorem toNat_mod_field {bits : Nat} (x : BitVec bits) : x.toNat % 2 ^ bits = x.toNat :=
  Nat.mod_eq_of_lt x.isLt

/-- Every field of an index entry before its gap records. -/
theorem Entry.bytes_fields (e : Entry) :
    fieldAt e.bytes 0 8 = e.number % 2 ^ 64 ∧ (byteAt e.bytes 8).toNat = e.closeReason.isSome.toNat
      ∧ (byteAt e.bytes 9).toNat = closeReasonCode e.closeReason ∧ byteAt e.bytes 10 = BitVec.ofNat 8 e.bpp
      ∧ byteAt e.bytes 11 = BitVec.ofNat 8 e.gaps.length
      ∧ fieldAt e.bytes 12 2
          = e.startLost.toNat + 2 * e.noStamp.toNat + 4 * e.stampConflict.toNat + 8 * e.frontEvicted.toNat + 16 * e.archivedWithLoss.toNat
            + 32 * e.damaged.toNat + 64 * e.archiveRequired.toNat + 128 * e.gapOverflow.toNat + 256 * e.trigger.isSome.toNat
      ∧ (byteAt e.bytes 14).toNat = (e.trigger.map fun x => x.kind.toNat).getD 0 ∧ byteAt e.bytes 15 = 0
      ∧ fieldAt e.bytes 16 4 = e.tickStep % 2 ^ 32 ∧ fieldAt e.bytes 20 4 = e.triggerCount % 2 ^ 32
      ∧ fieldAt e.bytes 24 4 = e.triggerIgnored % 2 ^ 32 ∧ fieldAt e.bytes 28 8 = e.firstLbn % 2 ^ 64
      ∧ fieldAt e.bytes 36 8 = e.blockCount % 2 ^ 64 ∧ fieldAt e.bytes 44 8 = e.presentFrom % 2 ^ 64
      ∧ fieldAt e.bytes 52 8 = e.byteLength % 2 ^ 64 ∧ fieldAt e.bytes 60 8 = e.byteLength / e.bpp % 2 ^ 64
      ∧ fieldAt e.bytes 68 8 = e.firstTick.toNat ∧ fieldAt e.bytes 76 8 = e.totalLost.toNat
      ∧ fieldAt e.bytes 84 8 = e.evictedUnarchived.toNat ∧ fieldAt e.bytes 92 8 = (e.trigger.map Trigger.position).getD 0 % 2 ^ 64
      ∧ fieldAt e.bytes 100 8 = (e.trigger.map fun x => x.tick.toNat).getD 0 := by
  have hopen : (!e.isOpen).toNat = e.closeReason.isSome.toNat := by
    cases h : e.closeReason <;> simp [Entry.isOpen, h]
  have hkind : (e.trigger.map fun t => t.kind.toNat).getD 0 < 256 := by
    cases h : e.trigger with
    | none => decide
    | some t => exact t.kind.isLt.trans (by decide)
  have htick : (e.trigger.map fun t => t.tick.toNat).getD 0 < 2 ^ 64 := by
    cases h : e.trigger with
    | none => decide
    | some t => exact t.tick.isLt
  have hflags : flagBits
      [e.startLost, e.noStamp, e.stampConflict, e.frontEvicted, e.archivedWithLoss, e.damaged, e.archiveRequired, e.gapOverflow,
        e.trigger.isSome]
      = e.startLost.toNat + 2 * e.noStamp.toNat + 4 * e.stampConflict.toNat + 8 * e.frontEvicted.toNat + 16 * e.archivedWithLoss.toNat
        + 32 * e.damaged.toNat + 64 * e.archiveRequired.toNat + 128 * e.gapOverflow.toNat + 256 * e.trigger.isSome.toNat := by
    simp only [flagBits, List.foldr]
    ring
  rw [← hflags, e.bytes_eq]
  generalize e.gaps.flatMap Gap.bytes = after
  have hreads := reads_fields e.fields after
  generalize layout e.fields ++ after = bytes at hreads
  obtain ⟨h0, h8, h9, h10, h11, h12, h14, h15, h16, h20, h24, h28, h36, h44, h52, h60, h68, h76, h84, h92, h100, -⟩ := hreads
  exact ⟨h0, (byteAt_toNat_of_field h8 (toNat_bool_lt _)).trans hopen, byteAt_toNat_of_field h9 (closeReasonCode_lt _),
    byteAt_of_field h10, byteAt_of_field h11, flags_of_field h12 (by simp), byteAt_toNat_of_field h14 hkind,
    byteAt_of_field h15, h16, h20, h24, h28, h36, h44, h52, h60, h68.trans (toNat_mod_field _), h76.trans (toNat_mod_field _),
    h84.trans (toNat_mod_field _), h92, h100.trans (Nat.mod_eq_of_lt htick)⟩

/-- A gap record stands at 108 and eighteen times its place. -/
theorem Entry.bytes_gap {e : Entry} {i : Nat} {g : Gap} (hg : e.gaps[i]? = some g) {offset width : Nat} (hin : offset + width ≤ 18) :
    fieldAt e.bytes (108 + 18 * i + offset) width = fieldAt g.bytes offset width := by
  have hfields : (layout e.fields).length = 108 := rfl
  rw [e.bytes_eq, ← hfields, fieldAt_flatMap (fun x _ => x.bytes_length) hg _ hin]

/-- Every field of a gap record. -/
theorem Gap.bytes_fields (g : Gap) :
    fieldAt g.bytes 0 8 = g.position % 2 ^ 64 ∧ fieldAt g.bytes 8 8 = g.pointsLost.toNat ∧ (byteAt g.bytes 16).toNat = g.cause.code
      ∧ (byteAt g.bytes 17).toNat = g.mixed.toNat := by
  rw [g.bytes_eq]
  exact ⟨fieldAt_layout 0 rfl [], (fieldAt_layout 1 rfl []).trans (toNat_mod_field _), byteAt_layout_toNat 2 rfl g.cause.code_lt [],
    byteAt_layout_toNat 3 rfl (toNat_bool_lt _) []⟩

/-- Every field of the i-th gap record of an entry. -/
theorem Entry.bytes_gap_fields {e : Entry} {i : Nat} {g : Gap} (hg : e.gaps[i]? = some g) :
    fieldAt e.bytes (108 + 18 * i) 8 = g.position % 2 ^ 64 ∧ fieldAt e.bytes (116 + 18 * i) 8 = g.pointsLost.toNat
      ∧ (byteAt e.bytes (124 + 18 * i)).toNat = g.cause.code ∧ (byteAt e.bytes (125 + 18 * i)).toNat = g.mixed.toNat := by
  obtain ⟨hposition, hlost, hcause, hmixed⟩ := g.bytes_fields
  rw [byteAt_eq_fieldAt] at hcause hmixed
  rw [← Entry.bytes_gap hg (by decide)] at hposition hlost hcause hmixed
  have h116 : 116 + 18 * i = 108 + 18 * i + 8 := by omega
  have h124 : 124 + 18 * i = 108 + 18 * i + 16 := by omega
  have h125 : 125 + 18 * i = 108 + 18 * i + 17 := by omega
  rw [byteAt_eq_fieldAt, byteAt_eq_fieldAt, h116, h124, h125]
  exact ⟨hposition, hlost, hcause, hmixed⟩

end Sys2Proof.Machine

namespace Sys2Proof.Proofs
open Sys2Proof.Machine

/-- Settles O10: a frame, a Claim record, the status record and an index entry are runs of fields, each read back from where it stands. -/
theorem framesAndRecordsHaveTheirLayout : Obligations.FramesAndRecordsHaveTheirLayout := by
  unfold Obligations.FramesAndRecordsHaveTheirLayout
  refine ⟨?frame, ClaimRecord.bytes_layout, ?status, ?entry⟩
  case frame =>
    intro sequence flags units kind ignored offset stamp payload hlow hhigh hpayload covered hcovered
    have hframe := parseFrame_frame hlow hhigh hpayload hcovered
    exact ⟨(hframe _).trans (if_pos rfl), fun check hcheck => (hframe check).trans (if_neg (Ne.symm hcheck))⟩
  case status =>
    intro s p r bytes hr hbytes
    obtain ⟨h0, h1, h2, h3, h4, h6, h7, h8, h16, h24, h32, h40, h42, h44, h48, h56, h64⟩ := r.bytes_fields
    have hlength := r.bytes_length
    subst hbytes
    refine ⟨by rw [hlength, hr]; simp [State.statusRecord], h0, h1, h2, h3, h4, h6, h7, h8, h16, h24, h32, h40, h42, h44, h48, h56, h64,
      fun g => ?_⟩
    have hgroup := hr ▸ s.statusRecord_group p g
    obtain ⟨hstate, hnext, htarget, hslot⟩ :=
      GroupReport.bytes_fields { state := s.power.groups[g].state, next := s.power.groups[g].next, slot := s.ringSlot g }
    rw [← StatusRecord.bytes_group hgroup (by decide)] at hstate hnext htarget hslot
    have h73 : 73 + 4 * g.val = 72 + 4 * g.val + 1 := by omega
    have h74 : 74 + 4 * g.val = 72 + 4 * g.val + 2 := by omega
    have h75 : 75 + 4 * g.val = 72 + 4 * g.val + 3 := by omega
    rw [h73, h74, h75]
    refine ⟨hstate, hnext, htarget.trans ?_, hslot⟩
    dsimp only
    cases s.power.groups[g].state <;> rfl
  case entry =>
    intro e bytes hbytes
    obtain ⟨h0, h8, h9, h10, h11, h12, h14, h15, h16, h20, h24, h28, h36, h44, h52, h60, h68, h76, h84, h92, h100⟩ := e.bytes_fields
    have hlength := e.bytes_length
    have hgaps (i : Nat) (g : Gap) (hg : e.gaps[i]? = some g) := e.bytes_gap_fields hg
    rw [hbytes]
    exact ⟨hlength, h0, h8, h9, h10, h11, h12, h14, h15, h16, h20, h24, h28, h36, h44, h52, h60, h68, h76, h84, h92, h100, hgaps⟩

end Sys2Proof.Proofs

/-!
Store addresses (O43).
-/
namespace Sys2Proof.Machine

variable {s : State}

/-- The ring slot of an LBN's block (R5). -/
def State.slotIndex (s : State) (lbn : Nat) : Nat :=
  s.position lbn / 1024

theorem State.groupOf_eq (s : State) (lbn : Nat) : s.groupOf lbn = s.power.groupMap.getD (s.slotIndex lbn) 0 := rfl

theorem RingForm.capacity_pos (hr : RingForm s) : 0 < s.capacity := by
  obtain ⟨hspan, -⟩ := hr
  have hpos : 0 < s.power.groupMap.length := by
    rcases List.mem_cons.mp hspan with h | h
    · omega
    · simp only [List.mem_cons, List.not_mem_nil, or_false] at h
      omega
  simp only [State.capacity]
  omega

theorem State.position_lt (hpos : 0 < s.capacity) (lbn : Nat) : s.position lbn < s.capacity :=
  Nat.mod_lt _ hpos

theorem State.slotIndex_lt (hpos : 0 < s.capacity) (lbn : Nat) : s.slotIndex lbn < s.power.groupMap.length := by
  have hlt := State.position_lt hpos lbn
  simp only [capacity] at hlt
  exact Nat.div_lt_of_lt_mul hlt

theorem State.groupOf_mem (hpos : 0 < s.capacity) (lbn : Nat) : s.groupOf lbn ∈ s.power.groupMap := by
  have hlt := State.slotIndex_lt hpos lbn
  rw [groupOf_eq, List.getD_eq_getElem _ _ hlt]
  exact List.getElem_mem hlt

/-- Blocks of one group of a map without repetitions have one ring slot. -/
theorem State.slotIndex_eq_of_groupOf_eq (hpos : 0 < s.capacity) (hnodup : s.power.groupMap.Nodup) {n m : Nat} (h : s.groupOf n = s.groupOf m) :
    s.slotIndex n = s.slotIndex m := by
  have hn := State.slotIndex_lt hpos n
  have hm := State.slotIndex_lt hpos m
  rw [groupOf_eq, groupOf_eq, List.getD_eq_getElem _ _ hn, List.getD_eq_getElem _ _ hm] at h
  exact (List.Nodup.getElem_inj_iff hnodup).mp h

/-- The address of a byte of a block, within its group. -/
theorem State.storeAddress_eq (s : State) (n b : Nat) :
    s.storeAddress n b = (s.groupOf n).val * groupBytes + (s.position n % 1024 * blockBytes + b) := by
  rw [storeAddress, Nat.add_assoc]

/-- The bytes of a block lie in its group. -/
theorem State.storeAddress_in_group (s : State) (n : Nat) {offset width : Nat} (hin : offset + width ≤ blockBytes) :
    (s.groupOf n).val * groupBytes ≤ s.storeAddress n offset ∧ s.storeAddress n offset + width ≤ ((s.groupOf n).val + 1) * groupBytes := by
  have hslot : s.position n % 1024 < 1024 := Nat.mod_lt _ (by decide)
  rw [storeAddress_eq]
  unfold groupBytes blockBytes at *
  omega

/-- Two bytes of blocks at one address are one byte of one position. -/
theorem State.position_eq_of_storeAddress_eq (hpos : 0 < s.capacity) (hnodup : s.power.groupMap.Nodup) {n m a b : Nat} (ha : a < blockBytes)
    (hb : b < blockBytes) (h : s.storeAddress n a = s.storeAddress m b) : s.position n = s.position m ∧ a = b := by
  have hn : s.position n % 1024 < 1024 := Nat.mod_lt _ (by decide)
  have hm : s.position m % 1024 < 1024 := Nat.mod_lt _ (by decide)
  rw [storeAddress_eq, storeAddress_eq] at h
  unfold groupBytes blockBytes at *
  have hgroup : (s.groupOf n).val = (s.groupOf m).val := by omega
  have hslot := State.slotIndex_eq_of_groupOf_eq hpos hnodup (Fin.ext hgroup)
  unfold slotIndex at hslot
  omega

/-- LBNs less than a capacity apart with one position are one LBN. -/
theorem eq_of_mod_eq_of_near {n m c : Nat} (hmod : n % c = m % c) (hnear : m < n + c) (hnear' : n < m + c) : n = m := by
  rcases Nat.le_total n m with hle | hle
  · obtain ⟨k, rfl⟩ := Nat.exists_eq_add_of_le hle
    have hdvd : c ∣ k := by simpa using (Nat.modEq_iff_dvd' hle).mp hmod
    have := Nat.eq_zero_of_dvd_of_lt hdvd (by omega)
    omega
  · obtain ⟨k, rfl⟩ := Nat.exists_eq_add_of_le hle
    have hdvd : c ∣ k := by simpa using (Nat.modEq_iff_dvd' hle).mp hmod.symm
    have := Nat.eq_zero_of_dvd_of_lt hdvd (by omega)
    omega

end Sys2Proof.Machine

namespace Sys2Proof.Proofs
open Sys2Proof.Machine

/-- Settles O43: a position is read off an address because no group stands in the map twice, and held LBNs are less than a capacity apart. -/
theorem heldBlocksHaveTheirOwnAddresses : Obligations.HeldBlocksHaveTheirOwnAddresses := by
  unfold Obligations.HeldBlocksHaveTheirOwnAddresses
  refine ⟨fun s n b => rfl, fun s hr n m a b hn hn' hm hm' ha hb => ⟨?_, fun h => ?_⟩⟩
  · have hgroup := (s.groupOf n).isLt
    obtain ⟨-, hlt⟩ := s.storeAddress_in_group n (offset := a) (width := 1) ha
    unfold groupBytes at hlt
    omega
  · have hpos := hr.capacity_pos
    obtain ⟨-, hnodup, -, hfits, -⟩ := hr
    obtain ⟨hposition, hab⟩ := State.position_eq_of_storeAddress_eq hpos hnodup ha hb h
    exact ⟨eq_of_mod_eq_of_near hposition (by omega) (by omega), hab⟩

end Sys2Proof.Proofs

/-!
Changes of power state: the settle of a group (O34), and ApplyGroups (O33).
-/
namespace Sys2Proof.Machine

variable {s t : State} {g x : Fin 16} {h : Header}

/-! ## The settle of a group (R170, R172) -/

/-- The group has settled in its Target and lost its contents where it must; GroupsSettled is not yet raised. -/
def State.settled (s : State) (g : Fin 16) (start target : GroupPower) : State :=
  if start = .off ∨ target = .off then (s.putGroup g { s.power.groups[g] with state := .settled target }).loseContents g
  else s.putGroup g { s.power.groups[g] with state := .settled target }

theorem State.settleGroup_eq (s : State) (g : Fin 16) (start target : GroupPower) :
    s.settleGroup g start target
      = if (s.settled g start target).anyChanging then s.settled g start target else (s.settled g start target).raise .groupsSettled :=
  rfl

theorem State.settled_eq (s : State) (g : Fin 16) (start target : GroupPower) :
    s.settled g start target
      = { s with
          power := { s.power with groups := s.power.groups.set g { s.power.groups[g] with state := .settled target } }
          store :=
            { s.store with
              memory :=
                if start = .off ∨ target = .off then Memory.forget s.store.memory (g.val * groupBytes) ((g.val + 1) * groupBytes)
                else s.store.memory } } := by
  unfold settled
  split <;> rfl

theorem filter_eq_finRange : ∀ g : Fin 16, ((List.finRange 16).filter fun x => decide (x = g)) = [g] := by
  decide

/-- A group's record after another's has been replaced. -/
theorem State.putGroup_groups (s : State) (g x : Fin 16) (r : Group) :
    (s.putGroup g r).power.groups[x] = if g = x then r else s.power.groups[x] := by
  simp [putGroup, Vector.getElem_set, Fin.ext_iff]

theorem State.settled_groups (s : State) (g x : Fin 16) (start target : GroupPower) :
    (s.settled g start target).power.groups[x] = if g = x then { s.power.groups[g] with state := .settled target } else s.power.groups[x] := by
  rw [settled_eq, ← putGroup_groups]
  rfl

theorem State.anyChanging_settled (s : State) (g : Fin 16) (start target : GroupPower) :
    (s.settled g start target).anyChanging = true ↔ ∃ x, x ≠ g ∧ s.power.groups[x].isChanging = true := by
  refine any_toList_iff.trans (exists_congr fun x => ?_)
  rw [settled_groups]
  by_cases hx : g = x
  · simp [hx, Group.isChanging]
  · simp [hx, Ne.symm hx]

theorem State.changingGroups_eq_singleton (hg : s.power.groups[g].isChanging = true) :
    s.changingGroups = [g] ↔ ¬ ∃ x, x ≠ g ∧ s.power.groups[x].isChanging = true := by
  constructor
  · rintro hone ⟨x, hne, hx⟩
    have hmem : x ∈ s.changingGroups := List.mem_filter.mpr ⟨List.mem_finRange x, hx⟩
    rw [hone, List.mem_singleton] at hmem
    exact hne hmem
  · intro hnone
    have hsame : s.changingGroups = (List.finRange 16).filter fun x => decide (x = g) := by
      refine List.filter_congr fun x _ => ?_
      by_cases hx : x = g
      · simpa [hx] using hg
      · simpa [hx] using fun hc => hnone ⟨x, hx, hc⟩
    rw [hsame]
    exact filter_eq_finRange g

/-- The settle of a Changing group: GroupsSettled is raised where it was the only one. -/
theorem Becomes.settleGroup (hg : s.power.groups[g].isChanging = true) (start target : GroupPower) :
    Becomes s (s.settleGroup g start target) (s.settled g start target) (if s.changingGroups = [g] then [.groupsSettled] else []) [] := by
  have hset : Becomes s (s.settled g start target) (s.settled g start target) [] [] := by
    rw [State.settled_eq]
    exact .of_ports rfl (fun p => by cases p <;> rfl) rfl
  rw [State.settleGroup_eq]
  by_cases hone : s.changingGroups = [g]
  · have hnone : ¬ (s.settled g start target).anyChanging = true :=
      (State.anyChanging_settled ..).not.mpr ((State.changingGroups_eq_singleton hg).mp hone)
    rw [if_neg hnone, if_pos hone]
    exact hset.thenRaise (by rw [State.settled_eq]; exact List.Subset.refl _) _
  · have hany : (s.settled g start target).anyChanging = true :=
      (State.anyChanging_settled ..).mpr (not_not.mp fun hno => hone ((State.changingGroups_eq_singleton hg).mpr hno))
    rw [if_pos hany, if_neg hone]
    exact hset

theorem exec_groupSettle {start target : GroupPower} {left : Nat} (hg : s.power.groups[g].state = .changing start target (.timing left)) :
    exec (.groupSettle g) s = .next (s.beginAct.settleGroup g start target).endAct := by
  have hg' : s.beginAct.power.groups[g].state = .changing start target (.timing left) := hg
  change Host.Outcome.next (s.act fun s =>
    match s.power.groups[g].state with
    | .changing start target (.timing _) => s.settleGroup g start target
    | .changing _ _ .draining => s
    | .settled _ => s) = _
  unfold State.act
  dsimp only
  rw [hg']

theorem exec_groupSettle_notDue (hg : ∀ (start target : GroupPower) (left : Nat), s.power.groups[g].state ≠ .changing start target (.timing left)) :
    exec (.groupSettle g) s = .next s.silent := by
  change Host.Outcome.next (s.act fun s =>
    match s.power.groups[g].state with
    | .changing start target (.timing _) => s.settleGroup g start target
    | .changing _ _ .draining => s
    | .settled _ => s) = _
  unfold State.act
  dsimp only
  split
  next start target left hstate => exact absurd hstate (hg start target left)
  next => rfl
  next => rfl

end Sys2Proof.Machine

namespace Sys2Proof.Proofs
open Sys2Proof.Machine

/-- Settles O34: the settle raises GroupsSettled where no other group is Changing. -/
theorem groupsSettleWhenTheirTimeRunsOut : Obligations.GroupsSettleWhenTheirTimeRunsOut := by
  unfold Obligations.GroupsSettleWhenTheirTimeRunsOut
  refine fun g s => ⟨fun start target left hg => ?_, exec_groupSettle_notDue⟩
  have hchanging : s.beginAct.power.groups[g].isChanging = true := Group.isChanging_iff.mpr ⟨start, target, _, hg⟩
  obtain ⟨hsignals, hdata⟩ := (Becomes.settleGroup hchanging start target).endAct
  refine ⟨_, exec_groupSettle hg, hsignals.of_beginAct, hdata.trans ?_⟩
  rw [State.settled_eq]
  rfl

end Sys2Proof.Proofs

/-!
ApplyGroups (O33).
-/
namespace Sys2Proof.Machine

variable {s t : State} {g x : Fin 16} {h : Header} {p n : GroupPower}

/-! ## The groups of a state after a run of replacements -/

/-- Replacing the records of distinct groups, each by what a function makes of it, reaches each of them once. -/
theorem groups_foldl_put (act : State → Fin 16 → State) (f : Group → Group)
    (hact : ∀ (s : State) (g x : Fin 16), (act s g).power.groups[x] = if g = x then f s.power.groups[g] else s.power.groups[x])
    {gs : List (Fin 16)} (hd : gs.Nodup) (s : State) (x : Fin 16) :
    (gs.foldl act s).power.groups[x] = if x ∈ gs then f s.power.groups[x] else s.power.groups[x] := by
  induction gs generalizing s with
  | nil => rfl
  | cons g rest ih =>
    obtain ⟨hnew, hrest⟩ := List.nodup_cons.mp hd
    rw [List.foldl_cons, ih hrest, hact]
    by_cases hx : g = x
    · subst hx
      simp [hnew]
    · simp [hx, Ne.symm hx]

/-! ## The start of a change (R169) -/

/-- A settled group whose change from its State to its Next begins. -/
def Group.begun (r : Group) : Group :=
  match r.state with
  | .settled p => { r with state := .changing p r.next (firstPhase p r.next) }
  | .changing _ _ _ => r

theorem State.beginChange_eq (s : State) (g : Fin 16) : s.beginChange g = s.putGroup g s.power.groups[g].begun := by
  unfold beginChange Group.begun
  cases hg : s.power.groups[g].state with
  | settled p => rfl
  | changing start target phase => simp [putGroup]

theorem State.beginChange_groups (s : State) (g x : Fin 16) :
    (s.beginChange g).power.groups[x] = if g = x then s.power.groups[g].begun else s.power.groups[x] := by
  rw [beginChange_eq, putGroup_groups]

/-! ## The phases that end in the act (R170, R171) -/

/-- The state of a group whose change has begun, once the first phase has ended where it ends at once: with nothing in flight on the group a drain
does, and a change from Retain to Off waits for nothing. -/
def appliedState (p n : GroupPower) (idle : Bool) : GroupState :=
  match p, n with
  | .active, .off => if idle then .settled .off else .changing .active .off .draining
  | .active, .retain => if idle then .changing .active .retain (.timing 200) else .changing .active .retain .draining
  | .retain, .off => .settled .off
  | p, n => .changing p n (.timing (timingOf p))

theorem State.putGroup_self (s : State) {r : Group} (hr : s.power.groups[g] = r) : s.putGroup g r = s := by
  subst hr
  simp [putGroup]

theorem State.endDraining_of_off (hg : s.power.groups[g].state = .changing p .off .draining) : s.endDraining g = s.settleGroup g p .off := by
  unfold endDraining
  rw [hg]

theorem State.endDraining_of_retain (hg : s.power.groups[g].state = .changing p .retain .draining) :
    s.endDraining g = s.putGroup g { s.power.groups[g] with state := .changing p .retain (.timing (timingOf p)) } := by
  unfold endDraining
  rw [hg]

theorem State.endDraining_of_timing {left : Nat} (hg : s.power.groups[g].state = .changing p n (.timing left)) : s.endDraining g = s := by
  unfold endDraining
  rw [hg]

theorem State.checkDrain_of_timing {left : Nat} (hg : s.power.groups[g].state = .changing p n (.timing left)) : s.checkDrain g = s := by
  rw [checkDrain, endDraining_of_timing hg, ite_self]

theorem State.endFirstPhase_of_retain_off {phase : Phase} (hg : s.power.groups[g].state = .changing .retain .off phase) :
    s.endFirstPhase g = s.endDraining g := by
  unfold endFirstPhase
  rw [hg]

theorem State.endFirstPhase_of_other {phase : Phase} (hg : s.power.groups[g].state = .changing p n phase) (hother : ¬ (p = .retain ∧ n = .off)) :
    s.endFirstPhase g = s.checkDrain g := by
  unfold endFirstPhase
  rw [hg]
  split
  next hsame =>
    cases hsame
    exact absurd ⟨rfl, rfl⟩ hother
  next => rfl

/-- A group whose change has just begun passes to what stands at the end of the act. -/
theorem State.endFirstPhase_eq (hne : p ≠ n) (hg : s.power.groups[g].state = .changing p n (firstPhase p n)) :
    s.endFirstPhase g
      = if appliedState p n (s.groupIdle g) = .settled .off then s.settleGroup g p .off
        else s.putGroup g { s.power.groups[g] with state := appliedState p n (s.groupIdle g) } := by
  have hself {st : GroupState} (hst : s.power.groups[g].state = st) : s = s.putGroup g { s.power.groups[g] with state := st } :=
    (s.putGroup_self (by rw [← hst])).symm
  cases p <;> cases n
  case off.off | retain.retain | active.active => exact absurd rfl hne
  case off.retain | off.active | retain.active =>
    rw [endFirstPhase_of_other hg (by simp), checkDrain_of_timing hg]
    exact hself hg
  case retain.off => rw [endFirstPhase_of_retain_off hg, endDraining_of_off hg, appliedState, if_pos rfl]
  case active.off =>
    rw [endFirstPhase_of_other hg (by simp), checkDrain, endDraining_of_off hg]
    cases s.groupIdle g
    · exact hself hg
    · rfl
  case active.retain =>
    rw [endFirstPhase_of_other hg (by simp), checkDrain, endDraining_of_retain hg]
    cases s.groupIdle g
    · exact hself hg
    · rfl

theorem appliedState_cases (p n : GroupPower) (idle : Bool) :
    appliedState p n idle = .settled .off ∨ ∃ a b c, appliedState p n idle = .changing a b c := by
  cases p <;> cases n <;> cases idle <;> simp [appliedState]

/-- The group has passed to what stands at the end of the act; GroupsSettled is not yet raised. -/
def State.applied (s : State) (g : Fin 16) : State :=
  match s.power.groups[g].state with
  | .changing p n _ =>
    if appliedState p n (s.groupIdle g) = .settled .off then s.settled g p .off
    else s.putGroup g { s.power.groups[g] with state := appliedState p n (s.groupIdle g) }
  | .settled _ => s

/-- The record of a group that has passed to what stands at the end of the act. -/
def Group.applied (idle : Bool) (r : Group) : Group :=
  match r.state with
  | .changing p n _ => { r with state := appliedState p n idle }
  | .settled _ => r

/-- The group has just begun a change. -/
def State.begins (s : State) (g : Fin 16) : Prop :=
  ∃ p n, p ≠ n ∧ s.power.groups[g].state = .changing p n (firstPhase p n)

/-- The contents of a group are lost in the act: it settles in Off. -/
def State.loses (s : State) (g : Fin 16) : Prop :=
  ∃ p n phase, s.power.groups[g].state = .changing p n phase ∧ appliedState p n (s.groupIdle g) = .settled .off

theorem State.applied_eq (hg : s.begins g) :
    s.applied g
      = { s with
          power := { s.power with groups := s.power.groups.set g (s.power.groups[g].applied (s.groupIdle g)) }
          store := { s.store with memory := (s.applied g).store.memory } } := by
  obtain ⟨p, n, -, hstate⟩ := hg
  unfold applied Group.applied
  rw [hstate]
  dsimp only
  split
  next hoff =>
    rw [settled_eq, hoff]
  next => rfl

theorem State.applied_groups (hg : s.begins g) (x : Fin 16) :
    (s.applied g).power.groups[x] = if g = x then s.power.groups[g].applied (s.groupIdle g) else s.power.groups[x] := by
  rw [applied_eq hg, ← putGroup_groups]
  rfl

theorem State.applied_memory (hg : s.begins g) (a : Nat) [Decidable (s.loses g)] :
    Memory.read (s.applied g).store.memory a
      = if s.loses g ∧ g.val * groupBytes ≤ a ∧ a < (g.val + 1) * groupBytes then none else Memory.read s.store.memory a := by
  obtain ⟨p, n, -, hstate⟩ := hg
  have hloses : s.loses g ↔ appliedState p n (s.groupIdle g) = .settled .off :=
    ⟨fun ⟨p', n', _, hst, hoff⟩ => by cases hstate.symm.trans hst; exact hoff, fun hoff => ⟨p, n, _, hstate, hoff⟩⟩
  unfold applied
  rw [hstate]
  dsimp only
  split
  next hoff =>
    rw [settled_eq]
    simp only [or_true, if_true, Memory.read_forget, hloses.mpr hoff, true_and]
  next hoff =>
    rw [if_neg fun hc => hoff (hloses.mp hc.1)]
    rfl

theorem State.applied_begins (hg : s.begins g) (hx : s.begins x) (hne : g ≠ x) : (s.applied g).begins x := by
  unfold begins
  rw [applied_groups hg, if_neg hne]
  exact hx

theorem State.applied_groupIdle (hg : s.begins g) (x : Fin 16) : (s.applied g).groupIdle x = s.groupIdle x := by
  rw [applied_eq hg]
  rfl

theorem State.applied_loses (hg : s.begins g) (hne : g ≠ x) : (s.applied g).loses x ↔ s.loses x := by
  unfold loses
  rw [applied_groups hg, if_neg hne, applied_groupIdle hg]

/-- While another group still changes, the end of a first phase raises nothing. -/
theorem State.endFirstPhase_eq_applied (hg : s.begins g) (hx : s.begins x) (hne : g ≠ x) : s.endFirstPhase g = s.applied g := by
  have hchanging : s.power.groups[x].isChanging = true := by
    obtain ⟨p, n, -, hstate⟩ := hx
    exact Group.isChanging_iff.mpr ⟨p, n, _, hstate⟩
  obtain ⟨p, n, hpn, hstate⟩ := hg
  have hany : (s.settled g p .off).anyChanging = true := (s.anyChanging_settled ..).mpr ⟨x, hne.symm, hchanging⟩
  rw [endFirstPhase_eq hpn hstate, settleGroup_eq, if_pos hany]
  unfold applied
  rw [hstate]

/-- The end of the last first phase raises GroupsSettled where no group is Changing any more. -/
theorem State.endFirstPhase_eq_last (hg : s.begins g) :
    s.endFirstPhase g = if (s.applied g).anyChanging then s.applied g else (s.applied g).raise .groupsSettled := by
  obtain ⟨p, n, hpn, hstate⟩ := hg
  rw [endFirstPhase_eq hpn hstate, settleGroup_eq]
  have happlied : s.applied g = if appliedState p n (s.groupIdle g) = .settled .off then s.settled g p .off
      else s.putGroup g { s.power.groups[g] with state := appliedState p n (s.groupIdle g) } := by
    unfold applied
    rw [hstate]
  rw [happlied]
  split
  next => rfl
  next hoff =>
    obtain hoff' | ⟨a, b, c, heq⟩ := appliedState_cases p n (s.groupIdle g)
    · exact absurd hoff' hoff
    · rw [if_pos (anyChanging_iff.mpr ⟨g, a, b, c, by rw [putGroup_groups, if_pos rfl, heq]⟩)]

theorem State.foldl_endFirstPhase {gs : List (Fin 16)} (hd : gs.Nodup) (hgs : ∀ g ∈ gs, s.begins g) (hne : gs ≠ []) :
    gs.foldl endFirstPhase s
      = if (gs.foldl applied s).anyChanging then gs.foldl applied s else (gs.foldl applied s).raise .groupsSettled := by
  induction gs generalizing s with
  | nil => exact absurd rfl hne
  | cons g rest ih =>
    have hg := hgs g (List.mem_cons_self ..)
    obtain ⟨hnew, hrest⟩ := List.nodup_cons.mp hd
    rw [List.foldl_cons, List.foldl_cons]
    cases rest with
    | nil => exact endFirstPhase_eq_last hg
    | cons x more =>
      have hother (y : Fin 16) (hy : y ∈ x :: more) : g ≠ y := fun heq => hnew (heq ▸ hy)
      have hx : x ∈ x :: more := List.mem_cons_self ..
      rw [endFirstPhase_eq_applied hg (hgs x (List.mem_cons_of_mem _ hx)) (hother x hx)]
      exact ih hrest (fun y hy => applied_begins hg (hgs y (List.mem_cons_of_mem _ hy)) (hother y hy)) (by simp)

theorem State.foldl_applied_frame {gs : List (Fin 16)} (hd : gs.Nodup) (hgs : ∀ g ∈ gs, s.begins g) :
    gs.foldl applied s
      = { s with
          power := { s.power with groups := (gs.foldl applied s).power.groups }
          store := { s.store with memory := (gs.foldl applied s).store.memory } } := by
  induction gs generalizing s with
  | nil => rfl
  | cons g rest ih =>
    obtain ⟨hnew, hrest⟩ := List.nodup_cons.mp hd
    have hg := hgs g (List.mem_cons_self ..)
    rw [List.foldl_cons, ih hrest fun y hy => applied_begins hg (hgs y (List.mem_cons_of_mem _ hy)) fun heq => hnew (heq ▸ hy), applied_eq hg]

theorem State.foldl_applied_groups {gs : List (Fin 16)} (hd : gs.Nodup) (hgs : ∀ g ∈ gs, s.begins g) (x : Fin 16) :
    (gs.foldl applied s).power.groups[x] = if x ∈ gs then s.power.groups[x].applied (s.groupIdle x) else s.power.groups[x] := by
  induction gs generalizing s with
  | nil => rfl
  | cons g rest ih =>
    obtain ⟨hnew, hrest⟩ := List.nodup_cons.mp hd
    have hg := hgs g (List.mem_cons_self ..)
    rw [List.foldl_cons, ih hrest fun y hy => applied_begins hg (hgs y (List.mem_cons_of_mem _ hy)) fun heq => hnew (heq ▸ hy),
      applied_groups hg, applied_groupIdle hg]
    by_cases hx : g = x
    · subst hx
      simp [hnew]
    · simp [hx, Ne.symm hx]

open Classical in
theorem State.foldl_applied_memory {gs : List (Fin 16)} (hd : gs.Nodup) (hgs : ∀ g ∈ gs, s.begins g) (a : Nat) :
    Memory.read (gs.foldl applied s).store.memory a
      = if ∃ g ∈ gs, s.loses g ∧ g.val * groupBytes ≤ a ∧ a < (g.val + 1) * groupBytes then none else Memory.read s.store.memory a := by
  induction gs generalizing s with
  | nil => simp
  | cons g rest ih =>
    obtain ⟨hnew, hrest⟩ := List.nodup_cons.mp hd
    have hg := hgs g (List.mem_cons_self ..)
    have hother (y : Fin 16) (hy : y ∈ rest) : g ≠ y := fun heq => hnew (heq ▸ hy)
    have hlater : (∃ y ∈ rest, (s.applied g).loses y ∧ y.val * groupBytes ≤ a ∧ a < (y.val + 1) * groupBytes)
        ↔ ∃ y ∈ rest, s.loses y ∧ y.val * groupBytes ≤ a ∧ a < (y.val + 1) * groupBytes :=
      exists_congr fun y => and_congr_right fun hy => by rw [applied_loses hg (hother y hy)]
    rw [List.foldl_cons, ih hrest fun y hy => applied_begins hg (hgs y (List.mem_cons_of_mem _ hy)) (hother y hy), applied_memory hg]
    simp only [hlater, List.exists_mem_cons_iff]
    by_cases hnow : s.loses g ∧ g.val * groupBytes ≤ a ∧ a < (g.val + 1) * groupBytes
    · simp [hnow]
    · simp [hnow]

/-! ## ApplyGroups (R169) -/

/-- Every group that wants a change has begun it. -/
def State.begun (s : State) : State :=
  s.wanting.foldl State.beginChange s

theorem State.mem_wanting : g ∈ s.wanting ↔ s.power.groups[g].state ≠ .settled s.power.groups[g].next := by
  simp [wanting, Group.wantsChange]

theorem State.wanting_nodup (s : State) : s.wanting.Nodup :=
  (List.nodup_finRange 16).filter _

theorem State.begun_eq (s : State) : s.begun = { s with power := { s.power with groups := s.begun.power.groups } } := by
  unfold begun
  generalize s.wanting = gs
  induction gs generalizing s with
  | nil => rfl
  | cons g rest ih =>
    rw [List.foldl_cons, ih, beginChange_eq]
    rfl

theorem State.begun_groups (s : State) (x : Fin 16) :
    s.begun.power.groups[x]
      = if s.power.groups[x].state ≠ .settled s.power.groups[x].next then s.power.groups[x].begun else s.power.groups[x] := by
  rw [begun, groups_foldl_put beginChange Group.begun (fun s g x => s.beginChange_groups g x) s.wanting_nodup]
  simp only [mem_wanting]

theorem State.begun_begins (hstill : ∀ g : Fin 16, ¬ s.changing g) (hg : g ∈ s.wanting) : s.begun.begins g := by
  have hwants := mem_wanting.mp hg
  unfold begins
  rw [begun_groups, if_pos hwants]
  unfold Group.begun
  cases hstate : s.power.groups[g].state with
  | settled p => exact ⟨p, _, fun heq => hwants (by rw [hstate, heq]), rfl⟩
  | changing start target phase => exact absurd ⟨start, target, phase, hstate⟩ (hstill g)

/-- The record of a settled group once an ApplyGroups has been taken. -/
def Group.changed (r : Group) (idle : Bool) : Group :=
  match r.state with
  | .settled p => if p = r.next then r else { r with state := appliedState p r.next idle }
  | .changing _ _ _ => r

/-- The state once an ApplyGroups has been taken; GroupsSettled is not yet raised. -/
def State.changed (s : State) : State :=
  s.wanting.foldl State.applied s.begun

section
variable (hstill : ∀ g : Fin 16, ¬ s.changing g)
include hstill

theorem State.changed_eq :
    s.changed
      = { s with
          power := { s.power with groups := s.changed.power.groups }
          store := { s.store with memory := s.changed.store.memory } } := by
  have hframe := foldl_applied_frame s.wanting_nodup fun g hg => begun_begins hstill hg
  rw [begun_eq] at hframe
  unfold changed
  rw [begun_eq]
  exact hframe

theorem State.changed_groups (x : Fin 16) : s.changed.power.groups[x] = s.power.groups[x].changed (s.groupIdle x) := by
  have hidle : s.begun.groupIdle x = s.groupIdle x := by rw [begun_eq]; rfl
  rw [changed, foldl_applied_groups s.wanting_nodup fun g hg => begun_begins hstill hg, begun_groups, hidle]
  simp only [mem_wanting]
  unfold Group.changed
  cases hstate : s.power.groups[x].state with
  | changing start target phase => exact absurd ⟨start, target, phase, hstate⟩ (hstill x)
  | settled p =>
    dsimp only
    by_cases hp : p = s.power.groups[x].next
    · subst hp
      simp
    · simp only [ne_eq, GroupState.settled.injEq, hp, not_false_eq_true, if_true, Group.begun, hstate, Group.applied, if_false]

/-- The groups whose contents an ApplyGroups loses are those that it settles in Off. -/
theorem State.loses_iff (x : Fin 16) :
    x ∈ s.wanting ∧ s.begun.loses x ↔ s.power.groups[x].state ≠ .settled .off ∧ s.changed.power.groups[x].state = .settled .off := by
  have hidle : s.begun.groupIdle x = s.groupIdle x := by rw [begun_eq]; rfl
  rw [changed_groups hstill, mem_wanting]
  unfold loses
  rw [hidle, begun_groups]
  unfold Group.changed Group.begun
  cases hstate : s.power.groups[x].state with
  | changing start target phase => exact absurd ⟨start, target, phase, hstate⟩ (hstill x)
  | settled p =>
    dsimp only
    by_cases hp : p = s.power.groups[x].next
    · rw [if_pos hp, hstate, hp]
      simp
    · simp only [ne_eq, GroupState.settled.injEq, hp, not_false_eq_true, if_true, if_false, true_and, GroupState.changing.injEq]
      constructor
      · rintro ⟨p', n', phase, ⟨rfl, rfl, -⟩, hoff⟩
        refine ⟨fun heq => ?_, hoff⟩
        subst heq
        cases hnext : s.power.groups[x].next <;> rw [hnext] at hoff <;> cases hoff
      · exact fun ⟨_, hoff⟩ => ⟨p, _, _, ⟨rfl, rfl, rfl⟩, hoff⟩

open Classical in
theorem State.changed_memory (a : Nat) :
    Memory.read s.changed.store.memory a
      = if ∃ g : Fin 16, g.val * groupBytes ≤ a ∧ a < (g.val + 1) * groupBytes ∧ s.power.groups[g].state ≠ .settled .off
            ∧ s.changed.power.groups[g].state = .settled .off then none
        else Memory.read s.store.memory a := by
  have hmemory : s.begun.store.memory = s.store.memory := by rw [begun_eq]
  have hlost : (∃ g ∈ s.wanting, s.begun.loses g ∧ g.val * groupBytes ≤ a ∧ a < (g.val + 1) * groupBytes)
      ↔ ∃ g : Fin 16, g.val * groupBytes ≤ a ∧ a < (g.val + 1) * groupBytes ∧ s.power.groups[g].state ≠ .settled .off
          ∧ s.changed.power.groups[g].state = .settled .off := by
    refine exists_congr fun g => ?_
    rw [← and_assoc, loses_iff hstill]
    tauto
  conv_lhs => rw [changed, foldl_applied_memory s.wanting_nodup fun g hg => begun_begins hstill hg, hmemory]
  simp only [hlost]

/-- An ApplyGroups that is taken raises GroupsSettled where its changes all settle in the act. -/
theorem Becomes.applyChanges :
    Becomes s s.applyChanges s.changed
      (if (∃ g : Fin 16, s.power.groups[g].state ≠ .settled s.power.groups[g].next) ∧ s.changed.changingGroups = [] then [.groupsSettled] else [])
      [] := by
  have hany : s.changed.anyChanging = true ↔ s.changed.changingGroups ≠ [] := by
    rw [State.anyChanging, any_toList_iff, State.changingGroups, ne_eq, List.filter_eq_nil_iff]
    simp
  have hset : Becomes s s.changed s.changed [] [] := by
    rw [State.changed_eq hstill]
    exact .of_ports rfl (fun p => by cases p <;> rfl) rfl
  by_cases hwants : ∃ g : Fin 16, s.power.groups[g].state ≠ .settled s.power.groups[g].next
  · have hne : s.wanting ≠ [] := by
      obtain ⟨g, hg⟩ := hwants
      exact List.ne_nil_of_mem (State.mem_wanting.mpr hg)
    have hact : s.applyChanges = if s.changed.anyChanging then s.changed else s.changed.raise .groupsSettled :=
      State.foldl_endFirstPhase s.wanting_nodup (fun g hg => State.begun_begins hstill hg) hne
    rw [hact]
    by_cases hchanging : s.changed.changingGroups = []
    · rw [if_neg fun hc => hany.mp hc hchanging, if_pos ⟨hwants, hchanging⟩]
      refine hset.thenRaise ?_ _
      rw [State.changed_eq hstill]
      exact List.Subset.refl _
    · rw [if_pos (hany.mpr hchanging), if_neg fun hc => hchanging hc.2]
      exact hset
  · have hnone : s.wanting = [] := by
      refine List.filter_eq_nil_iff.mpr fun g _ => ?_
      simpa [Group.wantsChange] using fun hne => hwants ⟨g, hne⟩
    rw [if_neg fun hc => hwants hc.1]
    have hact : s.applyChanges = s.changed := by
      unfold State.applyChanges State.changed State.begun
      rw [hnone]
      rfl
    rw [hact]
    exact hset

end

theorem power_of_unsignalled (hu : t.unsignalled = s.unsignalled) : t.power = s.power := by
  obtain ⟨_, _, _, _, rfl⟩ := State.eq_of_unsignalled hu
  rfl

theorem store_of_unsignalled (hu : t.unsignalled = s.unsignalled) : t.store = s.store := by
  obtain ⟨_, _, _, _, rfl⟩ := State.eq_of_unsignalled hu
  rfl

theorem State.refusedGroup_eq_none (hno : ∀ g : Fin 16, ¬ s.illegalChange g) : s.refusedGroup = none := by
  classical
  rw [refusedGroup_eq_find, Fin.find?_eq_none_iff]
  exact fun g => decide_eq_false (hno g)

theorem exec_applyGroups (ht : Taken s .viewer h 0) (hstill : ∀ g : Fin 16, ¬ s.changing g) (hlegal : ∀ g : Fin 16, ¬ s.illegalChange g) :
    exec (.applyGroups h) s
      = .next ((s.opened .viewer h .applyGroups).applyChanges.replied .viewer h .applyGroups .ok (.changingCount s.wanting.length)) := by
  have still : ¬ s.anyChanging = true := State.anyChanging_iff.not.mpr (by simpa using hstill)
  refine congrArg Host.Outcome.next ((State.request_taken ht).trans ?_)
  rw [State.opened_anyChanging, if_neg still, State.opened_refusedGroup, State.refusedGroup_eq_none hlegal, State.opened_wanting]
  rfl

end Sys2Proof.Machine

namespace Sys2Proof.Proofs
open Sys2Proof.Machine

/-- Settles O33: the changes begin one by one, and their first phases end one by one, each at its own group; only the last can leave none Changing. -/
theorem applyGroupsStartsTheChanges : Obligations.ApplyGroupsStartsTheChanges := by
  unfold Obligations.ApplyGroupsStartsTheChanges
  intro h s ht hstill hlegal
  have hlegal' (g : Fin 16) : ¬ s.illegalChange g := by
    rintro ⟨hmapped, hwants, hbad⟩
    obtain ⟨hidle, hoff⟩ := hlegal g hmapped hwants
    exact hbad.elim hidle fun ⟨hstopped, hnext⟩ => hoff hstopped hnext
  have hopened : (s.opened .viewer h .applyGroups).power = s.power := s.opened_power ..
  have hstill' : ∀ g : Fin 16, ¬ (s.opened .viewer h .applyGroups).changing g := by
    unfold State.changing
    rw [hopened]
    exact hstill
  obtain ⟨hsignals, hdata⟩ := Becomes.applyChanges hstill'
  have hdata' : ((s.opened .viewer h .applyGroups).applyChanges.replied .viewer h .applyGroups .ok (.changingCount s.wanting.length)).unsignalled
      = (s.opened .viewer h .applyGroups).changed.unsignalled := (State.replied_unsignalled _).trans hdata
  have hpower := power_of_unsignalled hdata'
  have hstore := store_of_unsignalled hdata'
  refine ⟨_, exec_applyGroups ht hstill hlegal', ?_, fun g => ?_, fun a => ?_, ?_, ?_⟩
  · rw [List.countP_eq_length_filter]
    exact State.replied_answers _
  · rw [hpower, State.changed_groups hstill', hopened]
    have hidle : (s.opened .viewer h .applyGroups).groupIdle g = true ↔ ¬ ∃ e ∈ s.store.inFlight, e.group = g := by
      simp [State.groupIdle]
    unfold Group.changed
    generalize (s.opened .viewer h .applyGroups).groupIdle g = idle at hidle
    generalize s.power.groups[g] = r
    obtain ⟨state, next⟩ := r
    cases state with
    | changing start target phase => rfl
    | settled p =>
      by_cases hbusy : ∃ e ∈ s.store.inFlight, e.group = g
      · have : idle = false := by simpa [hbusy] using hidle
        subst this
        cases p <;> cases next <;> simp [appliedState, timingOf, hbusy]
      · have : idle = true := hidle.mpr hbusy
        subst this
        cases p <;> cases next <;> simp [appliedState, timingOf, hbusy]
  · rw [hstore, State.changed_memory hstill', hpower, hopened, s.opened_store]
  · rw [hopened] at hsignals
    have hgroups : State.changingGroups ((s.opened .viewer h .applyGroups).applyChanges.replied .viewer h .applyGroups .ok
        (.changingCount s.wanting.length)) = (s.opened .viewer h .applyGroups).changed.changingGroups := by
      unfold State.changingGroups
      rw [hpower]
    rw [hgroups]
    exact hsignals.replied ht
  · rw [hdata', hpower, hstore]
    conv_lhs => rw [State.changed_eq hstill']
    generalize (s.opened .viewer h .applyGroups).changed = u
    rfl

end Sys2Proof.Proofs

/-!
The grants of reads (O44).
-/
namespace Sys2Proof.Machine

variable {s t : State} {p : Port} {tag : Byte} {kind : RequestKind}

/-- A request answered in an act that has done nothing else but change the data. -/
theorem State.answerWith_endAct (s : State) (p : Port) (tag : Byte) (kind : RequestKind) (status : Status) (result : Result) (data : List Byte) :
    (s.beginAct.answerWith p tag kind status result data).endAct = s.completed p tag kind status result data := by
  cases p <;> rfl

theorem State.refuse_endAct (s : State) (p : Port) (tag : Byte) (kind : RequestKind) (status : Status) :
    (s.beginAct.refuse p tag kind status).endAct = s.completed p tag kind status .none [] :=
  s.answerWith_endAct p tag kind status .none []

/-! ## Whose turn it is (R155, R156) -/

theorem State.grantChoice_archive :
    s.grantChoice = some .archive
      ↔ s.store.inFlight.length < 3 ∧ s.store.admission = false ∧ s.store.archiveQueue ≠ []
        ∧ (s.ring.band = .relaxed → s.store.turn = .archive ∨ s.store.viewerQueue = []) := by
  unfold grantChoice readChoice
  by_cases hroom : s.store.inFlight.length < 3
  · cases hadmission : s.store.admission
    · rw [if_pos hroom]
      cases hband : s.ring.band <;> cases hturn : s.store.turn <;> cases harchive : s.store.archiveQueue <;> cases hviewer : s.store.viewerQueue <;>
        simp [hroom]
    · simp [hroom]
  · simp [hroom]

theorem State.grantChoice_viewer :
    s.grantChoice = some .viewer
      ↔ s.store.inFlight.length < 3 ∧ s.store.admission = false ∧ s.store.viewerQueue ≠ [] ∧ s.ring.band ≠ .critical
        ∧ (s.ring.band = .pressed → s.store.archiveQueue = [])
        ∧ (s.ring.band = .relaxed → s.store.turn = .viewer ∨ s.store.archiveQueue = []) := by
  unfold grantChoice readChoice
  by_cases hroom : s.store.inFlight.length < 3
  · cases hadmission : s.store.admission
    · rw [if_pos hroom]
      cases hband : s.ring.band <;> cases hturn : s.store.turn <;> cases harchive : s.store.archiveQueue <;> cases hviewer : s.store.viewerQueue <;>
        simp [hroom]
    · simp [hroom]
  · simp [hroom]

theorem State.readChoice_ne_admission (s : State) : s.readChoice ≠ some .admission := by
  unfold readChoice
  cases hband : s.ring.band <;> cases hturn : s.store.turn <;> cases harchive : s.store.archiveQueue <;> cases hviewer : s.store.viewerQueue <;> simp

theorem State.grantChoice_admission : s.grantChoice = some .admission ↔ s.store.inFlight.length < 3 ∧ s.store.admission = true := by
  have hread := s.readChoice_ne_admission
  unfold grantChoice
  by_cases hroom : s.store.inFlight.length < 3 <;> cases hadmission : s.store.admission <;> simp [hroom, hread]

theorem exec_admissionGrant_notDue (hno : 3 ≤ s.store.inFlight.length ∨ s.store.admission = false) :
    exec .admissionGrant s = .next s.silent := by
  have hchoice : s.beginAct.grantChoice ≠ some .admission := by
    refine (State.grantChoice_admission (s := s.beginAct)).not.mpr fun ⟨hroom, hadmission⟩ => ?_
    obtain hfull | hnone := hno
    · exact absurd hroom (Nat.not_lt.mpr hfull)
    · exact absurd (hadmission.symm.trans hnone) (by decide)
  change Host.Outcome.next (s.act fun s => if s.grantChoice = some .admission then s.workFront else s) = _
  unfold State.act
  dsimp only
  rw [if_neg hchoice]
  rfl

/-! ## A Fetch or a Read that is granted (R123, R143, R158 to R160) -/

section
variable {r : FetchRequest} {rest : List FetchRequest}

/-- The front Fetch has left its queue, and Turn is the viewer's. -/
def State.fetchTaken (s : State) (rest : List FetchRequest) : State :=
  s.mapStore fun t => { t with archiveQueue := rest, turn := .viewer }

theorem exec_fetchGrant_notDue (hno : s.grantChoice ≠ some .archive) : exec .fetchGrant s = .next s.silent := by
  change Host.Outcome.next (s.act fun s =>
    match s.grantChoice, s.store.archiveQueue with
    | some .archive, r :: rest => (s.mapStore fun t => { t with archiveQueue := rest, turn := .viewer }).grantFetch r
    | _, _ => s) = _
  unfold State.act
  dsimp only
  split
  next hchoice _ => exact absurd hchoice hno
  next => rfl

theorem exec_fetchGrant (hdue : s.grantChoice = some .archive) (hqueue : s.store.archiveQueue = r :: rest) :
    exec .fetchGrant s = .next ((s.fetchTaken rest).beginAct.grantFetch r).endAct := by
  have hdue' : s.beginAct.grantChoice = some .archive := hdue
  have hqueue' : s.beginAct.store.archiveQueue = r :: rest := hqueue
  change Host.Outcome.next (s.act fun s =>
    match s.grantChoice, s.store.archiveQueue with
    | some .archive, r :: rest => (s.mapStore fun t => { t with archiveQueue := rest, turn := .viewer }).grantFetch r
    | _, _ => s) = _
  unfold State.act
  dsimp only
  rw [hdue', hqueue']
  rfl

theorem State.grantFetch_gone (hgone : s.findBlock r.lbn = none) : s.grantFetch r = s.refuse .archive r.tag .fetch .gone := by
  rw [grantFetch, hgone]

theorem State.grantFetch_asleep (hheld : (s.findBlock r.lbn).isSome = true) (hasleep : ¬ s.blockActive r.lbn = true) :
    s.grantFetch r = s.refuse .archive r.tag .fetch .asleep := by
  obtain ⟨b, hb⟩ := Option.isSome_iff_exists.mp hheld
  rw [grantFetch, hb]
  exact if_neg hasleep

theorem State.grantFetch_issued (hheld : (s.findBlock r.lbn).isSome = true) (hactive : s.blockActive r.lbn = true) :
    s.grantFetch r = s.issueRead .archive r.tag (.archiveRead r) r.lbn r.offset r.length := by
  obtain ⟨b, hb⟩ := Option.isSome_iff_exists.mp hheld
  rw [grantFetch, hb]
  exact if_pos hactive

end

section
variable {r : ReadRequest} {rest : List ReadRequest} {b : Block}

/-- The front Read has left its queue, and Turn is the archive's. -/
def State.readTaken (s : State) (rest : List ReadRequest) : State :=
  s.mapStore fun t => { t with viewerQueue := rest, turn := .archive }

theorem exec_readGrant_notDue (hno : s.grantChoice ≠ some .viewer) : exec .readGrant s = .next s.silent := by
  change Host.Outcome.next (s.act fun s =>
    match s.grantChoice, s.store.viewerQueue with
    | some .viewer, r :: rest => (s.mapStore fun t => { t with viewerQueue := rest, turn := .archive }).grantRead r
    | _, _ => s) = _
  unfold State.act
  dsimp only
  split
  next hchoice _ => exact absurd hchoice hno
  next => rfl

theorem exec_readGrant (hdue : s.grantChoice = some .viewer) (hqueue : s.store.viewerQueue = r :: rest) :
    exec .readGrant s = .next ((s.readTaken rest).beginAct.grantRead r).endAct := by
  have hdue' : s.beginAct.grantChoice = some .viewer := hdue
  have hqueue' : s.beginAct.store.viewerQueue = r :: rest := hqueue
  change Host.Outcome.next (s.act fun s =>
    match s.grantChoice, s.store.viewerQueue with
    | some .viewer, r :: rest => (s.mapStore fun t => { t with viewerQueue := rest, turn := .archive }).grantRead r
    | _, _ => s) = _
  unfold State.act
  dsimp only
  rw [hdue', hqueue']
  rfl

theorem State.grantRead_gone (hgone : s.findBlock r.lbn = none) : s.grantRead r = s.refuse .viewer r.tag .read .gone := by
  rw [grantRead, hgone]

theorem State.grantRead_asleep (hb : s.findBlock r.lbn = some b) (hasleep : ¬ s.blockActive r.lbn = true) :
    s.grantRead r = s.refuse .viewer r.tag .read .asleep := by
  rw [grantRead, hb]
  exact if_neg hasleep

theorem State.grantRead_issued (hb : s.findBlock r.lbn = some b) (hactive : s.blockActive r.lbn = true) :
    s.grantRead r
      = s.issueRead .viewer r.tag (.viewerRead r b.fillBytes (decide (b.state ≠ .filling))) r.lbn r.offset
          (if r.length ≤ b.fillBytes - r.offset then r.length else b.fillBytes - r.offset) := by
  rw [grantRead, hb]
  exact if_pos hactive

end

theorem State.findBlock_eq_none_iff {n : Nat} : s.findBlock n = none ↔ ∀ b ∈ s.ring.blocks, b.lbn ≠ n := by
  simp [findBlock]

end Sys2Proof.Machine

namespace Sys2Proof.Proofs
open Sys2Proof.Machine

/-- Settles O44: a grant is due where the choice of the Store Channel falls to its class. -/
theorem grantsFollowTheBand : Obligations.GrantsFollowTheBand := by
  unfold Obligations.GrantsFollowTheBand
  refine ⟨fun s => exec_admissionGrant_notDue, fun s due hdue => ?fetch, fun s due hdue => ?read⟩
  case fetch =>
    have hchoice : due ↔ s.grantChoice = some .archive := hdue.trans State.grantChoice_archive.symm
    refine ⟨fun hno => exec_fetchGrant_notDue (hchoice.not.mp hno), fun r rest hyes hqueue => ?_⟩
    rw [exec_fetchGrant (hchoice.mp hyes) hqueue]
    have hheld (hb : ∃ b ∈ s.ring.blocks, b.lbn = r.lbn) : ((s.fetchTaken rest).beginAct.findBlock r.lbn).isSome = true := by
      obtain ⟨b, hb, hlbn⟩ := hb
      exact List.find?_isSome.mpr ⟨b, hb, decide_eq_true hlbn⟩
    refine ⟨fun hgone => ?_, fun hb hasleep => ?_, fun hb hactive => ?_⟩
    · rw [State.grantFetch_gone (s := (s.fetchTaken rest).beginAct) (State.findBlock_eq_none_iff.mpr hgone), State.refuse_endAct]
      rfl
    · rw [State.grantFetch_asleep (s := (s.fetchTaken rest).beginAct) (hheld hb) (State.blockActive_iff.not.mpr hasleep), State.refuse_endAct]
      rfl
    · rw [State.grantFetch_issued (s := (s.fetchTaken rest).beginAct) (hheld hb) (State.blockActive_iff.mpr hactive)]
      rfl
  case read =>
    have hchoice : due ↔ s.grantChoice = some .viewer := hdue.trans State.grantChoice_viewer.symm
    refine ⟨fun hno => exec_readGrant_notDue (hchoice.not.mp hno), fun r rest hyes hqueue => ?_⟩
    rw [exec_readGrant (hchoice.mp hyes) hqueue]
    refine ⟨fun hgone => ?_, fun b hb => ⟨fun hasleep => ?_, fun hactive => ?_⟩⟩
    · rw [State.grantRead_gone (s := (s.readTaken rest).beginAct) (State.findBlock_eq_none_iff.mpr hgone), State.refuse_endAct]
      rfl
    · rw [State.grantRead_asleep (s := (s.readTaken rest).beginAct) (b := b) hb (State.blockActive_iff.not.mpr hasleep), State.refuse_endAct]
      rfl
    · rw [State.grantRead_issued (s := (s.readTaken rest).beginAct) (b := b) hb (State.blockActive_iff.mpr hactive)]
      rfl

end Sys2Proof.Proofs

/-!
Completions on the Store Channel (O45), and the one that O46 overlooks: a write whose requester is a request.
-/
namespace Sys2Proof.Machine

variable {s t : State} {e : InFlight} {rest : List InFlight} {units : List UnitResult} {kind : RequestKind} {clamped : Bool} {result : Result}
variable {g : Fin 16} {b : Block}

/-! ## Completions that end no drain (R160, R171) -/

theorem State.endDraining_of_not_drains (hno : ¬ s.drains g) : s.endDraining g = s := by
  unfold endDraining
  split
  next start target hg => exact absurd ⟨start, target, hg⟩ hno
  next => rfl
  next => rfl

theorem State.checkDrain_of_not_due (hno : ¬ s.drains g ∨ s.groupIdle g = false) : s.checkDrain g = s := by
  unfold checkDrain
  split
  next hidle =>
    obtain hno | hbusy := hno
    · exact endDraining_of_not_drains hno
    · exact absurd (hidle.symm.trans hbusy) (by decide)
  next => rfl

/-! ## A write completes (R159) -/

/-- The payload of the oldest operation in flight stands in the store, and its entry has left the list. -/
def State.writeEnded (s : State) (e : InFlight) (payload : List Byte) : State :=
  s.popInFlight.storePayload e.address payload

theorem exec_admissionWriteCompletion {payload : List Byte} (hflight : s.store.inFlight = e :: rest) (hop : e.op = .admissionWrite payload) :
    exec .admissionWriteCompletion s = .next ((s.beginAct.writeEnded e payload).checkDrain e.group).endAct := by
  have hflight' : s.beginAct.store.inFlight = e :: rest := hflight
  change Host.Outcome.next (s.act fun s =>
    match s.store.inFlight with
    | e :: _ =>
      match e.op with
      | .admissionWrite payload => ((s.popInFlight).storePayload e.address payload).checkDrain e.group
      | .archiveRead _ => s
      | .viewerRead _ _ _ => s
    | [] => s) = _
  unfold State.act
  dsimp only
  rw [hflight']
  dsimp only
  rw [hop]
  rfl

/-! ## A read completes (R124, R144, R159 to R163) -/

/-- A read of a block no longer counts in its Reads In Flight, and the admission request stands again where a frame waits on the block and no other read
of it is in flight (R160). -/
def State.readOff (s : State) (lbn : Nat) : State :=
  { s with
    ring :=
      { s.ring with
        blocks := s.ring.blocks.map fun b => if b.lbn = lbn then { b with readsInFlight := b.readsInFlight - 1 } else b }
    store :=
      { s.store with
        admission :=
          s.store.admission
            || (s.assembler.stage.isSome && decide (lbn = s.ring.tail)
              && ((s.findBlock lbn).map fun b => decide (b.readsInFlight ≤ 1)).getD false) } }

theorem State.wakeAssembler_eq (s : State) (lbn : Nat) :
    (s.mapBlock lbn fun b => { b with readsInFlight := b.readsInFlight - 1 }).wakeAssembler lbn = s.readOff lbn := by
  have hreads : ((s.findBlock lbn).map fun b => decide (b.readsInFlight - 1 = 0)) = (s.findBlock lbn).map fun b => decide (b.readsInFlight ≤ 1) := by
    refine Option.map_congr fun b _ => decide_eq_decide.mpr ?_
    omega
  have hfound : ((s.mapBlock lbn fun b => { b with readsInFlight := b.readsInFlight - 1 }).findBlock lbn).map (fun b => decide (b.readsInFlight = 0))
      = (s.findBlock lbn).map fun b => decide (b.readsInFlight ≤ 1) := by
    rw [findBlock_mapBlock (by simp), Option.map_map, ← hreads]
    rfl
  unfold wakeAssembler waitingOnRead
  rw [hfound]
  have hstage : (s.mapBlock lbn fun b => { b with readsInFlight := b.readsInFlight - 1 }).assembler.stage = s.assembler.stage := rfl
  have hadmission : (s.mapBlock lbn fun b => { b with readsInFlight := b.readsInFlight - 1 }).store.admission = s.store.admission := rfl
  have htail : (s.mapBlock lbn fun b => { b with readsInFlight := b.readsInFlight - 1 }).ring.tail = s.ring.tail := rfl
  rw [hstage, hadmission, htail]
  unfold readOff
  cases hadm : s.store.admission <;> cases s.assembler.stage.isSome <;> cases decide (lbn = s.ring.tail) <;>
    cases ((s.findBlock lbn).map fun b => decide (b.readsInFlight ≤ 1)).getD false <;> simp [mapBlock, mapRing, mapStore, ← hadm]

theorem State.endRead_eq (s : State) (lbn : Nat) (g : Fin 16) : s.endRead lbn g = (s.readOff lbn).checkDrain g := by
  rw [endRead, wakeAssembler_eq]

/-- The oldest entry has left the list for a read whose units have been checked, and its corrected units are counted. -/
def State.readCounted (s : State) (checked : List UnitResult) : State :=
  (s.popInFlight.mapStore fun t => { t with readsDone := t.readsDone + 1 }).countCorrected checked

/-- The block and the segment of a failed read are Damaged, and the error is counted; MediaError is not yet raised. -/
def State.damageMarked (s : State) (lbn : Nat) : State :=
  (match s.findBlock lbn with
    | some b => (s.mapBlock lbn fun b => { b with damaged := true }).mapEntry b.segment fun e => { e with damaged := true }
    | none => s).count fun c => { c with uncorrectableErrors := c.uncorrectableErrors + 1 }

/-- The data that a read delivers. -/
def State.delivered (s : State) (e : InFlight) : List Byte :=
  Memory.deliver s.store.memory s.store.readsDone e.address e.length

theorem State.delivered_length (s : State) (e : InFlight) : (s.delivered e).length = e.length := by
  simp [delivered, Memory.deliver]

theorem State.delivered_getElem? {i : Nat} {v : Byte} (hi : i < e.length) (hv : Memory.read s.store.memory (e.address + i) = some v) :
    (s.delivered e)[i]? = some v := by
  simp [delivered, Memory.deliver, List.getElem?_range hi, hv]

theorem uncorrectable_iff {checked : List UnitResult} : uncorrectable checked = true ↔ UnitResult.uncorrectable ∈ checked := by
  simp [uncorrectable]

/-- A read without an uncorrectable unit. -/
theorem State.completeRead_clean (hclean : UnitResult.uncorrectable ∉ units.take (e.length / 64)) :
    s.completeRead e units kind clamped result
      = ((((s.readCounted (units.take (e.length / 64))).answerRead e kind clamped false result (s.delivered e)).readOff e.lbn).checkDrain
          e.group) := by
  have hno : uncorrectable (units.take (e.length / 64)) = false := by simpa using uncorrectable_iff.not.mpr hclean
  have heq : s.completeRead e units kind clamped result
      = State.endRead
          (if uncorrectable (units.take (e.length / 64)) then
            ((s.readCounted (units.take (e.length / 64))).answerRead e kind clamped (uncorrectable (units.take (e.length / 64))) result
              (s.delivered e)).markDamaged e.lbn
          else
            (s.readCounted (units.take (e.length / 64))).answerRead e kind clamped (uncorrectable (units.take (e.length / 64))) result
              (s.delivered e)) e.lbn e.group := rfl
  rw [heq, hno, if_neg (by decide), endRead_eq]

/-- A read with an uncorrectable unit. -/
theorem State.completeRead_failed (hfailed : UnitResult.uncorrectable ∈ units.take (e.length / 64)) :
    s.completeRead e units kind clamped result
      = ((((((s.readCounted (units.take (e.length / 64))).answerRead e kind clamped true result (s.delivered e)).damageMarked e.lbn).raise
          .mediaError).readOff e.lbn).checkDrain e.group) := by
  have hyes : uncorrectable (units.take (e.length / 64)) = true := uncorrectable_iff.mpr hfailed
  have heq : s.completeRead e units kind clamped result
      = State.endRead
          (if uncorrectable (units.take (e.length / 64)) then
            ((s.readCounted (units.take (e.length / 64))).answerRead e kind clamped (uncorrectable (units.take (e.length / 64))) result
              (s.delivered e)).markDamaged e.lbn
          else
            (s.readCounted (units.take (e.length / 64))).answerRead e kind clamped (uncorrectable (units.take (e.length / 64))) result
              (s.delivered e)) e.lbn e.group := rfl
  rw [heq, hyes, if_pos rfl, endRead_eq]
  rfl

/-- The command is the completion of the read at the head of the list, answered with these fields. -/
def ReadCompletes (e : InFlight) (units : List UnitResult) (c : Instr) (kind : RequestKind) (clamped : Bool) (result : Result) : Prop :=
  (∃ r : FetchRequest, e.op = .archiveRead r ∧ c = .fetchCompletion units ∧ kind = .fetch ∧ clamped = r.clamped
      ∧ result = .fetch r.lbn r.offset e.length)
    ∨ (∃ (r : ReadRequest) (fill : Nat) (done : Bool), e.op = .viewerRead r fill done ∧ c = .readCompletion units ∧ kind = .read
        ∧ clamped = decide (e.length < r.length) ∧ result = .read r.pin r.lbn r.offset e.length fill done)

theorem exec_readCompletes {c : Instr} (hc : ReadCompletes e units c kind clamped result) (hflight : s.store.inFlight = e :: rest) :
    exec c s = .next (s.beginAct.completeRead e units kind clamped result).endAct := by
  have hflight' : s.beginAct.store.inFlight = e :: rest := hflight
  obtain ⟨r, hop, rfl, rfl, rfl, rfl⟩ | ⟨r, fill, done, hop, rfl, rfl, rfl, rfl⟩ := hc
  · change Host.Outcome.next (s.act fun s =>
      match s.store.inFlight with
      | e :: _ =>
        match e.op with
        | .archiveRead r => s.completeRead e units .fetch r.clamped (.fetch r.lbn r.offset e.length)
        | .admissionWrite _ => s
        | .viewerRead _ _ _ => s
      | [] => s) = _
    unfold State.act
    dsimp only
    rw [hflight']
    dsimp only
    rw [hop]
  · change Host.Outcome.next (s.act fun s =>
      match s.store.inFlight with
      | e :: _ =>
        match e.op with
        | .viewerRead r fill blockSealed =>
          s.completeRead e units .read (decide (e.length < r.length)) (.read r.pin r.lbn r.offset e.length fill blockSealed)
        | .admissionWrite _ => s
        | .archiveRead _ => s
      | [] => s) = _
    unfold State.act
    dsimp only
    rw [hflight']
    dsimp only
    rw [hop]

/-- What the data of a state are once a read has been counted and no longer counts for its block. -/
theorem State.readCounted_readOff (s : State) (e : InFlight) (checked : List UnitResult) :
    (s.beginAct.readCounted checked).readOff e.lbn = (s.readEnded e checked).beginAct :=
  rfl

theorem State.answerWith_readOff (s : State) (p : Port) (tag : Byte) (kind : RequestKind) (status : Status) (result : Result) (data : List Byte)
    (lbn : Nat) : (s.answerWith p tag kind status result data).readOff lbn = (s.readOff lbn).answerWith p tag kind status result data := by
  cases p <;> rfl

theorem State.answerRead_readOff (s : State) (e : InFlight) (failed : Bool) (data : List Byte) (lbn : Nat) :
    (s.answerRead e kind clamped failed result data).readOff lbn = (s.readOff lbn).answerRead e kind clamped failed result data := by
  unfold answerRead
  cases e.requester with
  | request p tag =>
    cases failed
    · exact s.answerWith_readOff ..
    · exact s.answerWith_readOff ..
  | discarded => rfl
  | absent => rfl

@[simp] theorem State.answerRead_power (s : State) (e : InFlight) (failed : Bool) (data : List Byte) :
    (s.answerRead e kind clamped failed result data).power = s.power := by
  unfold answerRead
  (repeat' split) <;> simp

@[simp] theorem State.answerRead_store (s : State) (e : InFlight) (failed : Bool) (data : List Byte) :
    (s.answerRead e kind clamped failed result data).store = s.store := by
  unfold answerRead
  (repeat' split) <;> simp

/-- Neither a group that does not drain nor one with operations in flight has a drain to end. -/
theorem State.not_due_of_same {u : State} (hno : ¬ s.drains g ∨ ∃ x ∈ rest, x.group = g)
    (hpower : u.power = s.power) (hstore : u.store.inFlight = rest) : ¬ u.drains g ∨ u.groupIdle g = false := by
  refine hno.imp (fun hnot => ?_) fun ⟨x, hx, hgroup⟩ => ?_
  · unfold drains
    rw [hpower]
    exact hnot
  · simpa [groupIdle, hstore] using ⟨x, hx, hgroup⟩

/-! ## A read that fails (R81, R162) -/

theorem State.damageMarked_flags (s : State) (lbn : Nat) : (s.damageMarked lbn).flags = s.flags := by
  unfold damageMarked
  cases s.findBlock lbn <;> rfl

theorem State.damageMarked_port (s : State) (lbn : Nat) (p : Port) : (s.damageMarked lbn).port p = s.port p := by
  unfold damageMarked
  cases s.findBlock lbn <;> cases p <;> rfl

theorem State.damageMarked_congr {u v : State} (huv : u.unsignalled = v.unsignalled) (lbn : Nat) :
    (u.damageMarked lbn).unsignalled = (v.damageMarked lbn).unsignalled := by
  obtain ⟨flags, viewerPort, archivePort, sent, rfl⟩ := eq_of_unsignalled huv
  have hfound : State.findBlock { v with flags := flags, viewerPort := viewerPort, archivePort := archivePort, sent := sent } lbn = v.findBlock lbn := rfl
  unfold damageMarked
  rw [hfound]
  cases v.findBlock lbn <;> rfl

theorem State.readOff_congr {u v : State} (huv : u.unsignalled = v.unsignalled) (lbn : Nat) :
    (u.readOff lbn).unsignalled = (v.readOff lbn).unsignalled := by
  obtain ⟨flags, viewerPort, archivePort, sent, rfl⟩ := eq_of_unsignalled huv
  rfl

theorem State.readOff_port (s : State) (lbn : Nat) (p : Port) : (s.readOff lbn).port p = s.port p := by
  cases p <;> rfl

theorem State.answerRead_flags (s : State) (e : InFlight) (failed : Bool) (data : List Byte) :
    (s.answerRead e kind clamped failed result data).flags = s.flags := by
  unfold answerRead
  (repeat' split) <;> simp

theorem State.answerRead_port (s : State) (e : InFlight) (failed : Bool) (data : List Byte) (p : Port) :
    (s.answerRead e kind clamped failed result data).port p = (s.withoutSlotOf e).port p := by
  unfold answerRead withoutSlotOf
  cases e.requester with
  | request q tag => cases failed <;> cases p <;> cases q <;> rfl
  | discarded => rfl
  | absent => rfl

theorem State.answerRead_unsignalled (s : State) (e : InFlight) (failed : Bool) (data : List Byte) :
    (s.answerRead e kind clamped failed result data).unsignalled = s.unsignalled := by
  unfold answerRead
  cases e.requester with
  | request q tag => cases failed <;> cases q <;> rfl
  | discarded => rfl
  | absent => rfl

theorem State.withoutSlotOf_flags (s : State) (e : InFlight) : (s.withoutSlotOf e).flags = s.flags := by
  unfold withoutSlotOf
  cases e.requester with
  | request q tag => cases q <;> rfl
  | discarded => rfl
  | absent => rfl

theorem State.withoutSlotOf_drain (s : State) (e : InFlight) : (s.withoutSlotOf e).drain = s.drain := by
  unfold withoutSlotOf
  cases e.requester with
  | request q tag => cases q <;> rfl
  | discarded => rfl
  | absent => rfl

/-- The act of a failed read, before the end of a drain. -/
def State.readFailed (s : State) (e : InFlight) (checked : List UnitResult) (kind : RequestKind) (clamped : Bool) (result : Result) : State :=
  ((((s.beginAct.readCounted checked).answerRead e kind clamped true result (s.delivered e)).damageMarked e.lbn).raise .mediaError).readOff e.lbn

theorem Becomes.answerRead (s : State) (e : InFlight) (checked : List UnitResult) (failed : Bool) (data : List Byte) :
    Becomes (s.withoutSlotOf e) ((s.beginAct.readCounted checked).answerRead e kind clamped failed result data) (s.readCounted checked) [] [] := by
  refine .of_ports ?_ (fun p => ?_) ?_
  · rw [State.answerRead_flags, State.withoutSlotOf_flags]
    rfl
  · rw [State.answerRead_port]
    unfold State.withoutSlotOf
    cases e.requester with
    | request q tag => cases p <;> cases q <;> rfl
    | discarded => cases p <;> rfl
    | absent => cases p <;> rfl
  · rw [State.answerRead_unsignalled]
    rfl

theorem Becomes.damageMarked {u : State} {es : List Event} {ks : List NoticeKind} (h : Becomes s t u es ks) (lbn : Nat) :
    Becomes s (t.damageMarked lbn) (u.damageMarked lbn) es ks :=
  ⟨h.1.of_ports (t.damageMarked_flags lbn) (t.damageMarked_port lbn), State.damageMarked_congr h.2 lbn⟩

theorem Becomes.readOff {u : State} {es : List Event} {ks : List NoticeKind} (h : Becomes s t u es ks) (lbn : Nat) :
    Becomes s (t.readOff lbn) (u.readOff lbn) es ks :=
  ⟨h.1.of_ports rfl (t.readOff_port lbn), State.readOff_congr h.2 lbn⟩

theorem State.damageMarked_drain (s : State) (lbn : Nat) : (s.damageMarked lbn).drain = s.drain := by
  unfold damageMarked
  cases s.findBlock lbn <;> rfl

theorem Becomes.readFailed (s : State) (e : InFlight) (checked : List UnitResult) (kind : RequestKind) (clamped : Bool) (result : Result) :
    Becomes (s.withoutSlotOf e) (s.readFailed e checked kind clamped result) (((s.readCounted checked).damageMarked e.lbn).readOff e.lbn)
      [.mediaError] [] := by
  have hmarked := (Becomes.answerRead (kind := kind) (clamped := clamped) (result := result) s e checked true (s.delivered e)).damageMarked e.lbn
  refine (hmarked.thenRaise ?_ .mediaError).readOff e.lbn
  rw [State.withoutSlotOf_drain, State.damageMarked_drain]
  exact List.Subset.refl _

/-- What the data of a state are once a read of a held block has failed. -/
theorem State.readFailed_data {checked : List UnitResult} (hb : s.findBlock e.lbn = some b) :
    ((s.readCounted checked).damageMarked e.lbn).readOff e.lbn = (s.readEnded e checked).markedDamaged b := by
  have hlbn : b.lbn = e.lbn := lbn_of_findBlock hb
  have hb' : (s.readCounted checked).findBlock e.lbn = some b := hb
  have hmarked : (s.readCounted checked).damageMarked e.lbn
      = ((((s.readCounted checked).mapBlock e.lbn fun b => { b with damaged := true }).mapEntry b.segment fun e => { e with damaged := true }).count
          fun c => { c with uncorrectableErrors := c.uncorrectableErrors + 1 }) := by
    unfold damageMarked
    rw [hb']
  have hfound : State.findBlock ((s.readCounted checked).damageMarked e.lbn) e.lbn = some { b with damaged := true } := by
    rw [hmarked]
    have hmap : ((s.readCounted checked).mapBlock e.lbn fun b => { b with damaged := true }).findBlock e.lbn = some { b with damaged := true } := by
      rw [findBlock_mapBlock (by simp), hb']
      rfl
    exact hmap
  have hblocks : ((s.ring.blocks.map fun x => if x.lbn = e.lbn then { x with damaged := true } else x).map fun x =>
        if x.lbn = e.lbn then { x with readsInFlight := x.readsInFlight - 1 } else x)
      = (s.ring.blocks.map fun x => if x.lbn = e.lbn then { x with readsInFlight := x.readsInFlight - 1 } else x).map fun x =>
          if x.lbn = b.lbn then { x with damaged := true } else x := by
    rw [List.map_map, List.map_map]
    refine List.map_congr_left fun x _ => ?_
    by_cases hx : x.lbn = e.lbn <;> simp [hx, hlbn]
  unfold readOff
  rw [hfound, hmarked]
  unfold readEnded markedDamaged
  rw [hb, ← hblocks]
  rfl

@[simp] theorem State.damageMarked_power (s : State) (lbn : Nat) : (s.damageMarked lbn).power = s.power := by
  unfold damageMarked
  cases s.findBlock lbn <;> rfl

@[simp] theorem State.damageMarked_store (s : State) (lbn : Nat) : (s.damageMarked lbn).store = s.store := by
  unfold damageMarked
  cases s.findBlock lbn <;> rfl

theorem State.readFailed_power (s : State) (e : InFlight) (checked : List UnitResult) :
    (s.readFailed e checked kind clamped result).power = s.power := by
  rw [power_of_unsignalled (Becomes.readFailed s e checked kind clamped result).2]
  exact damageMarked_power ..

theorem State.readFailed_inFlight (s : State) (e : InFlight) (checked : List UnitResult) :
    (s.readFailed e checked kind clamped result).store.inFlight = s.store.inFlight.tail := by
  have hstore : (((s.readCounted checked).damageMarked e.lbn).readOff e.lbn).store.inFlight = ((s.readCounted checked).damageMarked e.lbn).store.inFlight := rfl
  rw [store_of_unsignalled (Becomes.readFailed s e checked kind clamped result).2, hstore, damageMarked_store]
  rfl

theorem State.damageMarked_sent (s : State) (lbn : Nat) : (s.damageMarked lbn).sent = s.sent := by
  unfold damageMarked
  cases s.findBlock lbn <;> rfl

theorem State.readOff_sent (s : State) (lbn : Nat) : (s.readOff lbn).sent = s.sent := rfl

/-- A response leaves the act with the Top Notice that stands at its end. -/
theorem State.mem_endAct_sent {x : Response} (hx : x ∈ s.sent) : { x with top := (s.port x.port).notices.top } ∈ s.endAct.sent :=
  List.mem_map.mpr ⟨x, hx, rfl⟩

/-- A failed read whose requester still waits is answered MEDIA_ERROR. -/
theorem State.readFailed_answered {p : Port} {tag : Byte} (hrequester : e.requester = .request p tag) (checked : List UnitResult) :
    ∃ x ∈ (s.readFailed e checked kind clamped result).endAct.sent,
      x.port = p ∧ x.tag = tag ∧ x.kind = kind.code ∧ x.status = .mediaError ∧ x.result = result ∧ x.data = [] := by
  have hanswer : ({ port := p, tag := tag, kind := kind.code, status := .mediaError, top := none, result := result, data := [] } : Response)
      ∈ ((s.beginAct.readCounted checked).answerRead e kind clamped true result (s.delivered e)).sent := by
    unfold answerRead
    rw [hrequester]
    cases p <;> exact List.mem_append_right _ (List.mem_singleton.mpr rfl)
  rw [← damageMarked_sent _ e.lbn] at hanswer
  have hsent := raise_sent _ .mediaError hanswer
  rw [← readOff_sent _ e.lbn] at hsent
  exact ⟨_, mem_endAct_sent (s := s.readFailed e checked kind clamped result) hsent, rfl, rfl, rfl, rfl, rfl, rfl⟩

/-! ## Completions of another class (R159) -/

theorem exec_admissionWriteCompletion_notDue (hno : ∀ e ∈ s.store.inFlight.head?, ∀ d, e.op ≠ .admissionWrite d) :
    exec .admissionWriteCompletion s = .next s.silent := by
  change Host.Outcome.next (s.act fun s =>
    match s.store.inFlight with
    | e :: _ =>
      match e.op with
      | .admissionWrite payload => ((s.popInFlight).storePayload e.address payload).checkDrain e.group
      | .archiveRead _ => s
      | .viewerRead _ _ _ => s
    | [] => s) = _
  unfold State.act
  dsimp only
  split
  next e _ hflight =>
    split
    next payload hop =>
      have hflight' : s.store.inFlight = e :: _ := hflight
      exact absurd hop (hno e (by rw [hflight']; rfl) payload)
    next => rfl
    next => rfl
  next => rfl

theorem exec_fetchCompletion_notDue (hno : ∀ e ∈ s.store.inFlight.head?, ∀ r, e.op ≠ .archiveRead r) :
    exec (.fetchCompletion units) s = .next s.silent := by
  change Host.Outcome.next (s.act fun s =>
    match s.store.inFlight with
    | e :: _ =>
      match e.op with
      | .archiveRead r => s.completeRead e units .fetch r.clamped (.fetch r.lbn r.offset e.length)
      | .admissionWrite _ => s
      | .viewerRead _ _ _ => s
    | [] => s) = _
  unfold State.act
  dsimp only
  split
  next e _ hflight =>
    split
    next r hop =>
      have hflight' : s.store.inFlight = e :: _ := hflight
      exact absurd hop (hno e (by rw [hflight']; rfl) r)
    next => rfl
    next => rfl
  next => rfl

theorem exec_readCompletion_notDue (hno : ∀ e ∈ s.store.inFlight.head?, ∀ r fill done, e.op ≠ .viewerRead r fill done) :
    exec (.readCompletion units) s = .next s.silent := by
  change Host.Outcome.next (s.act fun s =>
    match s.store.inFlight with
    | e :: _ =>
      match e.op with
      | .viewerRead r fill blockSealed =>
        s.completeRead e units .read (decide (e.length < r.length)) (.read r.pin r.lbn r.offset e.length fill blockSealed)
      | .admissionWrite _ => s
      | .archiveRead _ => s
    | [] => s) = _
  unfold State.act
  dsimp only
  split
  next e _ hflight =>
    split
    next r fill done hop =>
      have hflight' : s.store.inFlight = e :: _ := hflight
      exact absurd hop (hno e (by rw [hflight']; rfl) r fill done)
    next => rfl
    next => rfl
  next => rfl

end Sys2Proof.Machine

namespace Sys2Proof.Proofs
open Sys2Proof.Machine

/-- Settles O45: the act of a completion before the end of a drain, which none of these has. -/
theorem completionsDeliver : Obligations.CompletionsDeliver := by
  unfold Obligations.CompletionsDeliver
  refine ⟨?write, ?read, fun s units => ⟨exec_admissionWriteCompletion_notDue, exec_fetchCompletion_notDue, exec_readCompletion_notDue⟩⟩
  case write =>
    intro s e rest payload hflight hop hno
    have hrest : (s.beginAct.writeEnded e payload).store.inFlight = rest := congrArg List.tail hflight
    have hsame := State.checkDrain_of_not_due (State.not_due_of_same (u := s.beginAct.writeEnded e payload) hno rfl hrest)
    refine ⟨Memory.write s.store.memory e.address payload, ?_, fun a => ?_⟩
    · rw [exec_admissionWriteCompletion hflight hop, hsame, ← hrest]
      rfl
    · by_cases ha : e.address ≤ a ∧ a < e.address + payload.length
      · rw [if_pos ha, Memory.read_write_inside ha.1 ha.2]
      · rw [if_neg ha, Memory.read_write_outside (by omega)]
  case read =>
    intro s e rest units c kind clamped result checked hflight hc hno hchecked ended hended
    have hended' : ended = s.readEnded e checked := by
      rw [hended, State.readEnded, hflight]
      rfl
    have hexec := exec_readCompletes hc hflight
    subst hchecked
    refine ⟨fun hclean => ?_, fun hfailed b hb => ?_⟩
    · have hdue : ¬ State.drains (((s.beginAct.readCounted (units.take (e.length / 64))).answerRead e kind clamped false result
            (s.beginAct.delivered e)).readOff e.lbn) e.group
          ∨ State.groupIdle (((s.beginAct.readCounted (units.take (e.length / 64))).answerRead e kind clamped false result
            (s.beginAct.delivered e)).readOff e.lbn) e.group = false := by
        rw [State.answerRead_readOff, State.readCounted_readOff]
        refine State.not_due_of_same hno (State.answerRead_power ..) ?_
        rw [State.answerRead_store]
        exact congrArg List.tail hflight
      rw [State.completeRead_clean hclean, State.checkDrain_of_not_due hdue, State.answerRead_readOff, State.readCounted_readOff,
        ← hended'] at hexec
      refine ⟨fun hdiscarded => ?_, fun p tag hrequester => ⟨s.delivered e, ?_, s.delivered_length e, fun i v => State.delivered_getElem?⟩⟩
      · rw [hexec, State.answerRead, hdiscarded]
        rfl
      · rw [hexec, State.answerRead, hrequester]
        exact congrArg Host.Outcome.next (ended.answerWith_endAct ..)
    · have hdue : ¬ (s.readFailed e (units.take (e.length / 64)) kind clamped result).drains e.group
          ∨ (s.readFailed e (units.take (e.length / 64)) kind clamped result).groupIdle e.group = false :=
        State.not_due_of_same hno (s.readFailed_power ..) ((s.readFailed_inFlight ..).trans (congrArg List.tail hflight))
      have hcompleted : s.beginAct.completeRead e units kind clamped result = s.readFailed e (units.take (e.length / 64)) kind clamped result :=
        (State.completeRead_failed hfailed).trans (State.checkDrain_of_not_due hdue)
      obtain ⟨hsignals, hdata⟩ := (Becomes.readFailed s e (units.take (e.length / 64)) kind clamped result).endAct
      rw [hcompleted] at hexec
      refine ⟨_, hexec, fun p tag hrequester => ?_, hsignals, ?_⟩
      · obtain ⟨x, hx, hport, htag, -, hstatus, hresult, hdata⟩ := State.readFailed_answered hrequester (units.take (e.length / 64))
        exact ⟨x, hx, hport, htag, hstatus, hresult, hdata⟩
      · rw [hdata, State.readFailed_data hb, ← hended']
        have hlbn : b.lbn = e.lbn := State.lbn_of_findBlock hb
        have hblocks : (s.ring.blocks.map fun x => if x.lbn = e.lbn then { x with readsInFlight := x.readsInFlight - 1 } else x).map
              (fun x => if x.lbn = b.lbn then { x with damaged := true } else x)
            = s.ring.blocks.map fun x => if x.lbn = e.lbn then { x with readsInFlight := x.readsInFlight - 1, damaged := true } else x := by
          rw [List.map_map]
          refine List.map_congr_left fun x _ => ?_
          by_cases hx : x.lbn = e.lbn <;> simp [hx, hlbn]
        subst hended
        rw [← hblocks]
        rfl

/-! ## A write whose requester is a request -/

/-- The slot of a request at the Archive Port. -/
def straySlot : Slot where
  tag := 7
  kind := .fetch
  progress := .issued

/-- A write in flight on a group that drains, whose requester is the request of that slot. -/
def strayWrite : InFlight where
  op := .admissionWrite []
  lbn := 0
  group := 0
  address := 0
  length := 0
  requester := .request .archive 7

/-- The write is the one operation in flight, on a group that drains. -/
def strayWriteState : State :=
  { State.reset with
    power := { State.reset.power with groups := State.reset.power.groups.set 0 { state := .changing .active .retain .draining, next := .retain } }
    store := { State.reset.store with inFlight := [strayWrite] }
    archivePort := { State.reset.archivePort with slots := [straySlot] } }

/-- Refutes O46: nothing in it says that a write belongs to no request. Where one does, its completion frees no slot (R159, R196), yet the statement has the
slots of the next state among those of a state in which the requester's slot is free. -/
theorem not_completionsEndADrain : ¬ Obligations.CompletionsEndADrain := by
  unfold Obligations.CompletionsEndADrain
  intro hall
  obtain ⟨t, failed, hexec, -, -, hretain, -⟩ :=
    hall strayWriteState strayWrite [] [] .admissionWriteCompletion rfl (.inl ⟨⟨[], rfl⟩, rfl⟩) (by simp)
  obtain ⟨hsignals, -⟩ := hretain rfl
  have hexec' := exec_admissionWriteCompletion (s := strayWriteState) (e := strayWrite) (rest := []) (payload := []) rfl rfl
  obtain rfl := Host.Outcome.next.inj (hexec.symm.trans hexec')
  have hback := (hsignals.slots .archive straySlot).1
  have hthere : straySlot ∈ (State.port ((strayWriteState.beginAct.writeEnded strayWrite []).checkDrain strayWrite.group).endAct .archive).slots := by
    decide
  have hgone : straySlot ∉ (State.port (strayWriteState.withoutSlotOf strayWrite) .archive).slots := by decide
  exact hgone (hback hthere)

end Sys2Proof.Proofs

/-!
Events and their waits (O49), Post and Wait (O48).
-/
namespace Sys2Proof.Machine

variable {s t : State} {p q : Port} {h : Header} {i : Fin 8} {n : Nat}

/-! ## The waits a set flag serves (R188) -/

theorem serveWaits_peeks {peeks : List ParkedWait} (hpeeks : ∀ w ∈ peeks, w.mode = .peek) (rest : List ParkedWait) :
    serveWaits (peeks ++ rest)
      = { served := (peeks.map fun w => (w, true)) ++ (serveWaits rest).served, kept := (serveWaits rest).kept, value := (serveWaits rest).value } := by
  induction peeks with
  | nil => rfl
  | cons w peeks ih =>
    rw [List.cons_append, serveWaits, hpeeks w (List.mem_cons_self ..)]
    dsimp only
    rw [ih fun x hx => hpeeks x (List.mem_cons_of_mem _ hx)]
    rfl

theorem serveWaits_consume {w : ParkedWait} (hconsume : w.mode = .consume) (rest : List ParkedWait) :
    serveWaits (w :: rest) = { served := [(w, false)], kept := rest, value := false } := by
  rw [serveWaits, hconsume]

/-- Every wait that completes is answered OK, with its flag's Value after it. -/
theorem State.completeWaits_answered {served : List (Fin 8 × ParkedWait × Bool)} {d : Fin 8 × ParkedWait × Bool} (hd : d ∈ served) (s : State) :
    ({ port := d.2.1.port, tag := d.2.1.tag, kind := RequestKind.code .wait, status := .ok, top := none,
       result := .waited d.1 d.2.1.mode d.2.2, data := [] } : Response) ∈ (s.completeWaits served).sent := by
  induction served generalizing s with
  | nil => cases hd
  | cons x served ih =>
    rcases List.mem_cons.mp hd with rfl | hd
    · refine completeWaits_sent (s.completeWait d.1 d.2) served ?_
      rw [completeWait, answer_sent]
      exact List.mem_append_right _ (List.mem_singleton.mpr rfl)
    · exact ih hd _

theorem State.mem_waitsServed {e : Event} {d : ParkedWait × Bool} (hsource : s.flags[i].source = e.source) (hclear : s.flags[i].value = false)
    (hd : d ∈ (serveWaits s.flags[i].waits).served) : (i, d) ∈ s.waitsServed e := by
  rw [waitsServed_eq, List.mem_flatMap]
  refine ⟨i, List.mem_finRange i, ?_⟩
  rw [waitsServedAt, if_pos ⟨hsource, hclear⟩]
  exact List.mem_map_of_mem hd

end Sys2Proof.Machine

namespace Sys2Proof.Proofs
open Sys2Proof.Machine

/-- Settles O49: the waits of a set flag up to its first Consume, and the events of a raise at all flags at once. -/
theorem eventsSetFlagsAndServeWaits : Obligations.EventsSetFlagsAndServeWaits := by
  unfold Obligations.EventsSetFlagsAndServeWaits
  refine ⟨fun peeks hpeeks => ⟨?_, fun w rest hconsume => ?_⟩, fun s e => ⟨.raise s e, by simp, fun i hsource hclear d hd => ?_⟩⟩
  · simpa [serveWaits] using serveWaits_peeks hpeeks []
  · rw [serveWaits_peeks hpeeks, serveWaits_consume hconsume]
  · rw [State.raise_eq]
    exact ⟨_, State.completeWaits_answered (State.mem_waitsServed hsource hclear hd) _, rfl, rfl, rfl, rfl⟩

end Sys2Proof.Proofs

/-!
Post, Wait and the end of a wait's time (O48).
-/
namespace Sys2Proof.Machine

variable {s t : State} {p q : Port} {h : Header} {i : Fin 8} {mode : BitVec 8} {timeout : BitVec 32} {m : WaitMode}

/-! ## A request's own answer at the end of its act (R196, R197) -/

section
variable {k : RequestKind} {st : Status} {r : Result}

theorem State.replied_port (s : State) (q : Port) : (s.replied p h k st r).port q = (s.answer p h.tag k st r).port q := by
  cases q <;> rfl

theorem State.mem_replied_slots {x : Slot} :
    x ∈ ((s.replied p h k st r).port q).slots ↔ x ∈ (s.port q).slots ∧ (p = q → h.tag ≠ x.tag) := by
  rw [replied_port, mem_answer_slots]

theorem State.mem_reached_slots {x : Slot} : x ∈ ((s.reached p).port q).slots ↔ x ∈ (s.port q).slots := by
  cases p <;> cases q <;> rfl

theorem State.replied_notices (s : State) (q : Port) : ((s.replied p h k st r).port q).notices = (s.port q).notices := by
  rw [replied_port, answer_notices]

theorem State.replied_flags (s : State) : (s.replied p h k st r).flags = s.flags := by
  simp [replied]

/-- A response that had left in the act stays, with the Top Notice of the act's end. -/
theorem State.sent_of_replied {x : Response} (hx : x ∈ s.sent) : ∃ top, { x with top := top } ∈ (s.replied p h k st r).sent := by
  refine ⟨_, mem_endAct_sent (s := s.answer p h.tag k st r) ?_⟩
  rw [answer_sent]
  exact List.mem_append_left _ hx

end

/-! ## Post (R185) -/

/-- The waits that setting a Clear flag completes. -/
def State.waitsOf (s : State) (i : Fin 8) : List (Fin 8 × ParkedWait × Bool) :=
  (serveWaits s.flags[i].waits).served.map fun d => (i, d)

theorem State.setFlag_of_set (hset : s.flags[i].value = true) : s.setFlag i = s :=
  if_pos hset

theorem State.setFlag_of_clear (hclear : s.flags[i].value = false) :
    s.setFlag i = (s.putFlag i s.flags[i].afterSet).completeWaits (s.waitsOf i) := by
  have hafter : s.flags[i].afterSet = { s.flags[i] with value := (serveWaits s.flags[i].waits).value, waits := (serveWaits s.flags[i].waits).kept } :=
    if_neg (by rw [hclear]; decide)
  rw [setFlag, if_neg (by rw [hclear]; decide), hafter, completeWaits, waitsOf, List.foldl_map]

/-- The setting of a Clear flag: it answers waits of that flag, and reaches no other port state and no data. -/
theorem State.setFlag_flags (hclear : s.flags[i].value = false) : (s.setFlag i).flags = s.flags.set i s.flags[i].afterSet := by
  rw [setFlag_of_clear hclear, completeWaits_flags, putFlag_flags]

theorem State.setFlag_unsignalled (hclear : s.flags[i].value = false) : (s.setFlag i).unsignalled = s.unsignalled := by
  rw [setFlag_of_clear hclear, completeWaits_unsignalled]
  rfl

theorem State.setFlag_notices (hclear : s.flags[i].value = false) : ((s.setFlag i).port p).notices = (s.port p).notices := by
  rw [setFlag_of_clear hclear, completeWaits_notices]
  cases p <;> rfl

theorem State.mem_setFlag_slots (hclear : s.flags[i].value = false) {x : Slot} :
    x ∈ ((s.setFlag i).port p).slots ↔ x ∈ (s.port p).slots ∧ ∀ d ∈ s.waitsOf i, d.2.1.port = p → d.2.1.tag ≠ x.tag := by
  have hput : ((s.putFlag i s.flags[i].afterSet).port p).slots = (s.port p).slots := by cases p <;> rfl
  rw [setFlag_of_clear hclear, mem_completeWaits_slots, hput]

theorem State.setFlag_answered (hclear : s.flags[i].value = false) {d : ParkedWait × Bool} (hd : d ∈ (serveWaits s.flags[i].waits).served) :
    ({ port := d.1.port, tag := d.1.tag, kind := RequestKind.code .wait, status := .ok, top := none, result := .waited i d.1.mode d.2,
       data := [] } : Response) ∈ (s.setFlag i).sent := by
  rw [setFlag_of_clear hclear]
  exact completeWaits_answered (List.mem_map_of_mem (f := fun d => (i, d)) hd) _

theorem exec_post_badParam (ht : Taken s p h 0) (hbad : 7 < h.target.toNat) : exec (.post p h) s = .next (s.refused p h .post .badParam) :=
  congrArg Host.Outcome.next (State.request_refuse ht (by rw [flagParam_of_gt hbad]))

theorem exec_post (ht : Taken s p h 0) (hi : h.target.toNat = i.val) :
    exec (.post p h) s
      = .next (((s.opened p h .post).setFlag i).replied p h .post .ok
          (.posted (s.servedBySet i) ((s.opened p h .post).setFlag i).flags[i].value)) := by
  refine congrArg Host.Outcome.next ((State.request_taken ht).trans ?_)
  rw [flagParam_of_eq hi]
  dsimp only
  rw [State.opened_servedBySet]
  rfl

theorem exec_post_set (ht : Taken s p h 0) (hi : h.target.toNat = i.val) (hset : s.flags[i].value = true) :
    exec (.post p h) s = .next (s.answered p h .post .ok (.posted 0 true)) := by
  have hset' : (s.opened p h .post).flags[i].value = true := by rw [State.opened_flags]; exact hset
  have hnone : s.servedBySet i = 0 := if_pos hset
  rw [exec_post ht hi, State.setFlag_of_set hset', hset', hnone]
  exact congrArg Host.Outcome.next (State.opened_answer ht.2.2.2)

theorem exec_post_clear (ht : Taken s p h 0) (hi : h.target.toNat = i.val) (hclear : s.flags[i].value = false) :
    ∃ t, exec (.post p h) s = .next t
      ∧ t.answers p h .post .ok (.posted (serveWaits s.flags[i].waits).served.length (serveWaits s.flags[i].waits).value)
      ∧ t.flags = s.flags.set i s.flags[i].afterSet
      ∧ (∀ d ∈ (serveWaits s.flags[i].waits).served,
          ∃ r ∈ t.sent, r.port = d.1.port ∧ r.tag = d.1.tag ∧ r.status = .ok ∧ r.result = .waited i d.1.mode d.2)
      ∧ (∀ q : Port, (t.port q).notices = (s.port q).notices)
      ∧ SlotsKept (s.reached p) t
      ∧ t.unsignalled = s.unsignalled := by
  have hflags : (s.opened p h .post).flags = s.flags := s.opened_flags ..
  have hclear' : (s.opened p h .post).flags[i].value = false := by rw [hflags]; exact hclear
  have hserved : s.servedBySet i = (serveWaits s.flags[i].waits).served.length := if_neg (by rw [hclear]; decide)
  have hafter : s.flags[i].afterSet.value = (serveWaits s.flags[i].waits).value := by
    rw [SyncFlag.afterSet, if_neg (by rw [hclear]; decide)]
  have hvalue : ((s.opened p h .post).setFlag i).flags[i].value = (serveWaits s.flags[i].waits).value := by
    rw [State.setFlag_flags hclear', hflags, ← hafter]
    simp
  refine ⟨_, exec_post ht hi, ?_, ?_, fun d hd => ?_, fun q => ?_, fun q x => ⟨fun hx => ?_, fun hx hwaits _ => ?_⟩, ?_⟩
  · rw [hserved, hvalue]
    exact State.replied_answers _
  · rw [State.replied_flags, State.setFlag_flags hclear', hflags]
  · rw [← hflags] at hd
    obtain ⟨top, htop⟩ := State.sent_of_replied (State.setFlag_answered hclear' hd)
    exact ⟨_, htop, rfl, rfl, rfl, rfl⟩
  · rw [State.replied_notices, State.setFlag_notices hclear', State.opened_notices]
  · obtain ⟨hset, htag⟩ := State.mem_replied_slots.mp hx
    obtain hold | ⟨rfl, rfl⟩ := State.mem_opened_slots.mp ((State.mem_setFlag_slots hclear').mp hset).1
    · exact State.mem_reached_slots.mpr hold
    · exact absurd rfl (htag rfl)
  · have hold := State.mem_reached_slots.mp hx
    refine State.mem_replied_slots.mpr ⟨(State.mem_setFlag_slots hclear').mpr ⟨State.mem_opened_slots.mpr (.inl hold), fun d hd => ?_⟩, ?_⟩
    · obtain ⟨done, hdone, rfl⟩ := List.mem_map.mp hd
      refine hwaits i done.1 ?_
      have hparked := serveWaits_mem.mp (List.mem_append_left (serveWaits (s.opened p h .post).flags[i].waits).kept (List.mem_map_of_mem (f := Prod.fst) hdone))
      have hreached : (s.reached p).flags = s.flags := by cases p <;> rfl
      rw [hreached, ← hflags]
      exact hparked
    · rintro rfl
      exact (ht.2.2.2 x hold).symm
  · rw [State.replied_unsignalled, State.setFlag_unsignalled hclear', State.opened_unsignalled]

/-! ## Wait (R187) -/

theorem waitModeParam_of_gt (hbad : 1 < mode.toNat) : waitModeParam mode = none := by
  have h0 : mode ≠ 0 := by rintro rfl; simp at hbad
  have h1 : mode ≠ 1 := by rintro rfl; simp at hbad
  rw [waitModeParam, if_neg h0, if_neg h1]

theorem waitModeParam_of_eq (hm : (mode = 0 ∧ m = .consume) ∨ (mode = 1 ∧ m = .peek)) : waitModeParam mode = some m := by
  obtain ⟨rfl, rfl⟩ | ⟨rfl, rfl⟩ := hm <;> rfl

/-- The wait that a Wait parks. -/
def waitParked (p : Port) (h : Header) (m : WaitMode) (timeout : BitVec 32) : ParkedWait where
  port := p
  tag := h.tag
  mode := m
  timeout := timeout.toNat
  timeLeft := if timeout.toNat = 0 then none else some timeout.toNat

section
variable (ht : Taken s p h 5)
include ht

theorem exec_wait_badParam (hbad : 7 < h.target.toNat ∨ 1 < mode.toNat ∨ 65535 < timeout.toNat) :
    exec (.wait p h mode timeout) s = .next (s.refused p h .wait .badParam) := by
  refine congrArg Host.Outcome.next (State.request_refuse ht ?_)
  obtain hflag | hmode | htime := hbad
  · rw [flagParam_of_gt hflag]
  · rw [waitModeParam_of_gt hmode]
    cases flagParam h <;> rfl
  · cases flagParam h <;> cases waitModeParam mode <;> simp only [if_pos htime]

variable (hi : h.target.toNat = i.val) (htime : timeout.toNat ≤ 65535) (hm : waitModeParam mode = some m)
include hi htime hm

theorem exec_wait : exec (.wait p h mode timeout) s = .next ((s.opened p h .wait).takeWait i (waitParked p h m timeout)).endAct := by
  refine congrArg Host.Outcome.next ((State.request_taken ht).trans ?_)
  rw [flagParam_of_eq hi, hm]
  dsimp only
  rw [if_neg (Nat.not_lt.mpr htime)]
  rfl

theorem exec_wait_peek (hset : s.flags[i].value = true) (hpeek : m = .peek) :
    exec (.wait p h mode timeout) s = .next (s.answered p h .wait .ok (.waited i .peek true)) := by
  subst hpeek
  have hset' : (s.opened p h .wait).flags[i].value = true := by rw [State.opened_flags]; exact hset
  rw [exec_wait ht hi htime hm, State.takeWait, if_pos hset']
  exact congrArg Host.Outcome.next (State.opened_answer ht.2.2.2)

theorem exec_wait_consume (hset : s.flags[i].value = true) (hconsume : m = .consume) :
    exec (.wait p h mode timeout) s
      = .next ((s.putFlag i { s.flags[i] with value := false }).answered p h .wait .ok (.waited i .consume false)) := by
  subst hconsume
  have hset' : (s.opened p h .wait).flags[i].value = true := by rw [State.opened_flags]; exact hset
  rw [exec_wait ht hi htime hm, State.takeWait, if_pos hset']
  dsimp only [waitParked]
  rw [State.opened_flags, State.opened_putFlag]
  refine congrArg Host.Outcome.next (State.opened_answer ?_)
  have htags := ht.2.2.2
  cases p <;> exact htags

theorem exec_wait_limit (hclear : s.flags[i].value = false) (hfull : 4 ≤ s.flags[i].waits.length) :
    exec (.wait p h mode timeout) s = .next (s.refused p h .wait .limit) := by
  have hclear' : ¬ (s.opened p h .wait).flags[i].value = true := by rw [State.opened_flags, hclear]; decide
  have hfull' : 4 ≤ (s.opened p h .wait).flags[i].waits.length := by rw [State.opened_flags]; exact hfull
  rw [exec_wait ht hi htime hm, State.takeWait, if_neg hclear', if_pos hfull']
  exact congrArg Host.Outcome.next (State.opened_answer ht.2.2.2)

theorem exec_wait_parks (hclear : s.flags[i].value = false) (hroom : s.flags[i].waits.length < 4) :
    exec (.wait p h mode timeout) s
      = .next ((s.putFlag i { s.flags[i] with waits := s.flags[i].waits ++ [waitParked p h m timeout] }).waiting p h .wait .parked) := by
  have hclear' : ¬ (s.opened p h .wait).flags[i].value = true := by rw [State.opened_flags, hclear]; decide
  have hroom' : ¬ 4 ≤ (s.opened p h .wait).flags[i].waits.length := by rw [State.opened_flags]; exact Nat.not_le.mpr hroom
  rw [exec_wait ht hi htime hm, State.takeWait, if_neg hclear', if_neg hroom', State.parkWait, State.opened_flags, State.opened_putFlag]
  refine congrArg Host.Outcome.next (State.opened_setProgress _ _ ?_)
  have htags := ht.2.2.2
  cases p <;> exact htags

end

/-! ## The end of a wait's time (R189) -/

/-- The act of a wait timeout at a flag. -/
def State.endWait (s : State) (i : Fin 8) (p : Port) (tag : Byte) : State :=
  match s.flags[i].waits.find? fun w => decide (w.port = p ∧ w.tag = tag) && w.timeLeft.isSome with
  | none => s
  | some w =>
    (s.putFlag i { s.flags[i] with waits := s.flags[i].waits.filter fun x => x ≠ w }).answer p tag .wait .timedOut
      (.waited i w.mode s.flags[i].value)

theorem exec_waitTimeout (i : Fin 8) (p : Port) (tag : Byte) (s : State) :
    exec (.waitTimeout i p tag) s = .next (s.beginAct.endWait i p tag).endAct :=
  rfl

theorem exec_waitTimeout_notDue {tag : Byte} (hno : ∀ w ∈ s.flags[i].waits, w.port = p → w.tag = tag → w.timeLeft = none) :
    exec (.waitTimeout i p tag) s = .next s.silent := by
  have hnone : (s.beginAct.flags[i].waits.find? fun w => decide (w.port = p ∧ w.tag = tag) && w.timeLeft.isSome) = none := by
    refine List.find?_eq_none.mpr fun w hw => ?_
    simpa using fun hport htag => hno w hw hport htag
  rw [exec_waitTimeout, State.endWait, hnone]
  rfl

theorem exec_waitTimeout_due {tag : Byte} {w : ParkedWait} (hw : w ∈ s.flags[i].waits) (hport : w.port = p) (htag : w.tag = tag)
    (htime : w.timeLeft.isSome = true) (hone : ∀ x ∈ s.flags[i].waits, x.port = p → x.tag = tag → x = w) :
    exec (.waitTimeout i p tag) s
      = .next ((s.putFlag i { s.flags[i] with waits := s.flags[i].waits.filter fun x => x ≠ w }).completed p tag .wait .timedOut
          (.waited i w.mode s.flags[i].value) []) := by
  have hsome : (s.beginAct.flags[i].waits.find? fun w => decide (w.port = p ∧ w.tag = tag) && w.timeLeft.isSome).isSome = true :=
    List.find?_isSome.mpr ⟨w, hw, by simp [hport, htag, htime]⟩
  obtain ⟨x, hx⟩ := Option.isSome_iff_exists.mp hsome
  have hmatch : (x.port = p ∧ x.tag = tag) ∧ x.timeLeft.isSome = true := by simpa using List.find?_some hx
  obtain rfl : x = w := hone x (List.mem_of_find?_eq_some hx) hmatch.1.1 hmatch.1.2
  rw [exec_waitTimeout, State.endWait, hx]
  exact congrArg Host.Outcome.next
    (State.answerWith_endAct (s.putFlag i { s.flags[i] with waits := s.flags[i].waits.filter fun y => y ≠ x }) ..)

end Sys2Proof.Machine

namespace Sys2Proof.Proofs
open Sys2Proof.Machine

/-- Settles O48: the rows of Post, of Wait and of a wait's end. -/
theorem postAndWaitUseTheFlag : Obligations.PostAndWaitUseTheFlag := by
  unfold Obligations.PostAndWaitUseTheFlag
  refine ⟨fun p h s ht => ⟨exec_post_badParam ht, fun i hi => ⟨exec_post_set ht hi, exec_post_clear ht hi⟩⟩,
    fun p h mode timeout s ht => ⟨exec_wait_badParam ht, fun i m hi htime hm => ?_⟩,
    fun i p tag s => ⟨exec_waitTimeout_notDue, fun w hw hport htag htime hone => exec_waitTimeout_due hw hport htag htime hone⟩⟩
  have hmode := waitModeParam_of_eq hm
  exact ⟨exec_wait_peek ht hi htime hmode, exec_wait_consume ht hi htime hmode, exec_wait_limit ht hi htime hmode,
    exec_wait_parks ht hi htime hmode⟩

end Sys2Proof.Proofs

/-!
OpenContext and CloseContext (O37).
-/
namespace Sys2Proof.Machine

variable {s t u : State} {h : Header} {c : Fin 4} {b : Block} {k : ParkedTake} {e : Entry} {first length : BitVec 64}

/-! ## OpenContext (R112) -/

theorem windowParam_eq_some (hfirst : first.toNat ≤ 2 ^ 40 - 1) (hlength : length.toNat ≤ 2 ^ 40 - 1)
    (hend : length.toNat = 0 ∨ first.toNat + length.toNat ≤ 2 ^ 40) :
    windowParam first length = some { first := first.toNat, length := length.toNat } := by
  refine if_pos ⟨hfirst, hlength, ?_⟩
  unfold lastLbn
  omega

theorem windowParam_eq_none (hbad : 2 ^ 40 - 1 < first.toNat ∨ 2 ^ 40 - 1 < length.toNat
    ∨ (0 < length.toNat ∧ 2 ^ 40 < first.toNat + length.toNat)) : windowParam first length = none := by
  refine if_neg ?_
  unfold lastLbn
  omega

section
variable (ht : Taken s .archive h 16)
include ht

theorem exec_openContext_badParam (hbad : 3 < h.target.toNat ∨ 2 ^ 40 - 1 < first.toNat ∨ 2 ^ 40 - 1 < length.toNat
    ∨ (0 < length.toNat ∧ 2 ^ 40 < first.toNat + length.toNat)) :
    exec (.openContext h first length) s = .next (s.refused .archive h .openContext .badParam) := by
  refine congrArg Host.Outcome.next (State.request_refuse ht ?_)
  obtain hctx | hwindow := hbad
  · rw [ctxParam_of_gt hctx]
  · rw [windowParam_eq_none hwindow]
    cases ctxParam h <;> rfl

variable {w : Window} (hc : h.target.toNat = c.val) (hw : windowParam first length = some w)
include hc hw

theorem exec_openContext_wrongState (hopen : s.drain.contexts[c].isSome = true) :
    exec (.openContext h first length) s = .next (s.refused .archive h .openContext .wrongState) := by
  refine congrArg Host.Outcome.next (State.request_refuse ht ?_)
  rw [ctxParam_of_eq hc, hw]
  dsimp only
  rw [State.opened_contextOpen]
  exact if_pos hopen

theorem exec_openContext (hclosed : s.drain.contexts[c] = none) :
    exec (.openContext h first length) s = .next ((s.putContext c (some w)).answered .archive h .openContext .ok .none) := by
  have hclosed' : ¬ s.contextOpen c = true := by
    rw [State.contextOpen, hclosed]
    decide
  refine congrArg Host.Outcome.next (State.request_answer ht ht.2.2.2 ?_)
  rw [ctxParam_of_eq hc, hw]
  dsimp only
  rw [State.opened_contextOpen, if_neg hclosed', State.opened_putContext]

end

/-! ## Claims that are returned one after another (R118, R129, R130) -/

/-- The state of a block that has been offered: Claimed for the take that receives it, else Sealed. -/
def offeredState (taker : Option ParkedTake) : BlockState :=
  (taker.map fun k => BlockState.claimed k.ctx).getD .sealed

/-- The state once a claimed block has been returned: it is Sealed, or Claimed for the parked take that receives it and leaves the order. -/
def State.returned (s : State) (b : Block) : State :=
  { s with
    ring :=
      { s.ring with
        blocks := s.ring.blocks.map fun x => if x.lbn = b.lbn then { x with state := offeredState (s.takerOf b.lbn) } else x }
    drain := { s.drain with parkedTakes := s.drain.parkedTakes.filter fun k => decide (s.takerOf b.lbn ≠ some k) } }

theorem Becomes.returnOne (hb : s.findBlock b.lbn = some b) : Becomes s (s.returnOne b) (s.returned b) [] [] := by
  cases hk : s.takerOf b.lbn with
  | none =>
    rw [State.returnOne_of_no_taker hk]
    refine .of_ports rfl (fun p => by cases p <;> rfl) ?_
    unfold State.returned
    rw [hk]
    simp [State.unsignalled, State.unclaim, State.mapBlock, State.mapRing, offeredState]
  | some k =>
    have hmem : k ∈ s.drain.parkedTakes := List.mem_of_find?_eq_some (s.takerOf_eq b.lbn ▸ hk)
    rw [State.returnOne_of_taker hb hk, State.serveTake]
    refine ⟨Signalled.answerTake (.of_eq rfl fun p => by cases p <;> rfl) hmem, ?_⟩
    have hblock (x : Block) :
        (if (if x.lbn = b.lbn then { x with state := .sealed } else x).lbn = b.lbn then
            { (if x.lbn = b.lbn then { x with state := .sealed } else x) with state := .claimed k.ctx }
          else if x.lbn = b.lbn then { x with state := .sealed } else x)
          = if x.lbn = b.lbn then { x with state := .claimed k.ctx } else x := by
      by_cases hx : x.lbn = b.lbn <;> simp [hx]
    have htakes : s.drain.parkedTakes.filter (fun j => !decide (j = k)) = s.drain.parkedTakes.filter fun j => !decide (k = j) :=
      List.filter_congr fun j _ => by simp [eq_comm]
    rw [State.answer_unsignalled]
    unfold State.returned
    rw [hk]
    simp [State.unsignalled, State.claimBlock, State.unpark, State.unclaim, State.mapBlock, State.mapRing, State.mapDrain, offeredState, hblock,
      htakes]

/-- A block as a run of offers leaves it. -/
def offeredBlock (offers : List (Block × Option ParkedTake)) (x : Block) : Block :=
  match offers.find? fun y => decide (y.1.lbn = x.lbn) with
  | none => x
  | some (_, taker) => { x with state := offeredState taker }

/-- The offers that the parked takes of a state make of a run of blocks. -/
def State.offers (s : State) (bs : List Block) : List (Block × Option ParkedTake) × List ParkedTake :=
  offerInTurn s.drain.contexts s.drain.parkedTakes bs

/-- The state once claimed blocks have been returned one after another. -/
def State.returnedAll (s : State) (bs : List Block) : State :=
  { s with
    ring := { s.ring with blocks := s.ring.blocks.map (offeredBlock (s.offers bs).1) }
    drain := { s.drain with parkedTakes := (s.offers bs).2 } }

theorem State.offers_cons (s : State) (b : Block) (bs : List Block) :
    s.offers (b :: bs) = ((b, s.takerOf b.lbn) :: ((s.returned b).offers bs).1, ((s.returned b).offers bs).2) :=
  rfl

theorem State.offers_congr (hu : t.unsignalled = s.unsignalled) (bs : List Block) : t.offers bs = s.offers bs := by
  unfold offers
  rw [drain_of_unsignalled hu]

theorem State.offers_blocks (s : State) (bs : List Block) : (s.offers bs).1.map Prod.fst = bs := by
  induction bs generalizing s with
  | nil => rfl
  | cons b bs ih => rw [offers_cons, List.map_cons, ih]

theorem State.returned_findBlock_other {x : Block} (hne : x.lbn ≠ b.lbn) (hx : s.findBlock x.lbn = some x) :
    (s.returned b).findBlock x.lbn = some x := by
  have hsame : (fun y : Block => decide (y.lbn = x.lbn)) ∘ (fun y => if y.lbn = b.lbn then { y with state := offeredState (s.takerOf b.lbn) } else y)
      = fun y => decide (y.lbn = x.lbn) := by
    funext y
    by_cases hy : y.lbn = b.lbn <;> simp [hy]
  unfold findBlock at hx ⊢
  rw [returned, List.find?_map, hsame, hx]
  simp [hne]

theorem offeredBlock_of_new {offers : List (Block × Option ParkedTake)} {x : Block} (hnew : ∀ y ∈ offers.map Prod.fst, y.lbn ≠ x.lbn) :
    offeredBlock offers x = x := by
  have hnone : (offers.find? fun y => decide (y.1.lbn = x.lbn)) = none :=
    List.find?_eq_none.mpr fun y hy => by simpa using hnew y.1 (List.mem_map_of_mem hy)
  rw [offeredBlock, hnone]

theorem offeredBlock_cons (b : Block) (taker : Option ParkedTake) (offers : List (Block × Option ParkedTake))
    (hnew : ∀ y ∈ offers.map Prod.fst, y.lbn ≠ b.lbn) (x : Block) :
    offeredBlock ((b, taker) :: offers) x
      = offeredBlock offers (if x.lbn = b.lbn then { x with state := offeredState taker } else x) := by
  by_cases hx : x.lbn = b.lbn
  · have hfound : (((b, taker) :: offers).find? fun y => decide (y.1.lbn = x.lbn)) = some (b, taker) := by
      rw [List.find?_cons_of_pos (by simp [hx])]
    rw [if_pos hx, offeredBlock_of_new (x := { x with state := offeredState taker }) (by simpa [hx] using hnew), offeredBlock, hfound]
  · have hskip : (((b, taker) :: offers).find? fun y => decide (y.1.lbn = x.lbn)) = offers.find? fun y => decide (y.1.lbn = x.lbn) :=
      List.find?_cons_of_neg (by simpa using fun heq => hx heq.symm)
    rw [if_neg hx, offeredBlock, hskip]
    rfl

theorem State.returnedAll_returned {bs : List Block} (hnew : ∀ y ∈ bs, y.lbn ≠ b.lbn) :
    (s.returned b).returnedAll bs = s.returnedAll (b :: bs) := by
  unfold returnedAll
  rw [offers_cons]
  have hblocks : (s.returned b).ring.blocks.map (offeredBlock ((s.returned b).offers bs).1)
      = s.ring.blocks.map (offeredBlock ((b, s.takerOf b.lbn) :: ((s.returned b).offers bs).1)) := by
    rw [returned, List.map_map]
    refine List.map_congr_left fun x _ => (offeredBlock_cons b _ _ ?_ x).symm
    rw [offers_blocks]
    exact hnew
  rw [hblocks]
  rfl

theorem ring_of_unsignalled (hu : t.unsignalled = s.unsignalled) : t.ring = s.ring := by
  obtain ⟨_, _, _, _, rfl⟩ := State.eq_of_unsignalled hu
  rfl

theorem index_of_unsignalled (hu : t.unsignalled = s.unsignalled) : t.index = s.index := by
  obtain ⟨_, _, _, _, rfl⟩ := State.eq_of_unsignalled hu
  rfl

theorem State.archiveFront_of_unsignalled (hu : t.unsignalled = s.unsignalled) : t.archiveFront = s.archiveFront := by
  obtain ⟨_, _, _, _, rfl⟩ := eq_of_unsignalled hu
  rfl

/-- The blocks still to be returned are found once one has been. -/
theorem State.returnOne_findBlock_others {bs : List Block} (hbs : ∀ x ∈ b :: bs, s.findBlock x.lbn = some x)
    (hne : ∀ x ∈ bs, x.lbn ≠ b.lbn) : ∀ x ∈ bs, (s.returnOne b).findBlock x.lbn = some x := by
  intro x hx
  unfold findBlock
  rw [ring_of_unsignalled (Becomes.returnOne (hbs b (List.mem_cons_self ..))).2]
  exact returned_findBlock_other (hne x hx) (hbs x (List.mem_cons_of_mem _ hx))

theorem Becomes.returnAll {bs : List Block} (hbs : ∀ b ∈ bs, s.findBlock b.lbn = some b) (hd : (bs.map Block.lbn).Nodup) :
    Becomes s (bs.foldl State.returnOne s) (s.returnedAll bs) [] [] := by
  induction bs generalizing s with
  | nil =>
    refine (Becomes.refl s).unsignalled_eq ?_
    have hsame : s.ring.blocks.map (offeredBlock []) = s.ring.blocks := (List.map_congr_left fun x _ => rfl).trans (List.map_id' _)
    unfold State.returnedAll
    rw [State.offers]
    simp only [offerInTurn, hsame]
  | cons b bs ih =>
    obtain ⟨hnew, hd⟩ := List.nodup_cons.mp hd
    have hne (y : Block) (hy : y ∈ bs) : y.lbn ≠ b.lbn := fun heq => hnew (heq ▸ List.mem_map_of_mem hy)
    have hone := Becomes.returnOne (hbs b (List.mem_cons_self ..))
    refine hone.append (List.filter_subset_self _) (ih (State.returnOne_findBlock_others hbs hne) hd) ?_
    rw [← State.returnedAll_returned hne]
    obtain ⟨_, _, _, _, heq⟩ := State.eq_of_unsignalled hone.2
    rw [heq]
    rfl

/-- A take that receives a returned block has its Claim record among the responses. -/
theorem ClaimSent.returnOne (hb : s.findBlock b.lbn = some b) (hk : s.takerOf b.lbn = some k) (he : s.findEntry b.segment = some e) :
    ClaimSent (s.returnOne b) k b e := by
  have hentry : (s.unclaim b).findEntry b.segment = some e := he
  rw [State.returnOne_of_taker hb hk, State.serveTake, ClaimSent, State.answer_sent]
  refine ⟨_, List.mem_append_right _ (List.mem_singleton.mpr rfl), rfl, rfl, rfl, rfl, ?_, rfl⟩
  simp [State.claimRecord, hentry, Entry.isOpen]

theorem State.returnOne_sent (hb : s.findBlock b.lbn = some b) : s.sent ⊆ (s.returnOne b).sent := by
  cases hk : s.takerOf b.lbn with
  | none =>
    rw [returnOne_of_no_taker hk]
    exact List.Subset.refl _
  | some k =>
    rw [returnOne_of_taker hb hk]
    exact (TakesEnd.serveTake (kind := fun _ => True) (s.unclaim b) k { b with state := .sealed } trivial).sent

theorem State.returnAll_sent {bs : List Block} (hbs : ∀ b ∈ bs, s.findBlock b.lbn = some b) (hd : (bs.map Block.lbn).Nodup) :
    s.sent ⊆ (bs.foldl returnOne s).sent
      ∧ ∀ (b : Block) (k : ParkedTake) (e : Entry), (b, some k) ∈ (s.offers bs).1 → s.findEntry b.segment = some e →
          ClaimSent (bs.foldl returnOne s) k b e := by
  induction bs generalizing s with
  | nil => exact ⟨List.Subset.refl _, fun b k e hbk => by cases hbk⟩
  | cons b bs ih =>
    obtain ⟨hnew, hd⟩ := List.nodup_cons.mp hd
    have hne (y : Block) (hy : y ∈ bs) : y.lbn ≠ b.lbn := fun heq => hnew (heq ▸ List.mem_map_of_mem hy)
    have hb := hbs b (List.mem_cons_self ..)
    have hdata := (Becomes.returnOne hb).2
    obtain ⟨hsent, hclaims⟩ := ih (returnOne_findBlock_others hbs hne) hd
    refine ⟨List.Subset.trans (returnOne_sent hb) hsent, fun x k e hxk he => ?_⟩
    rw [offers_cons] at hxk
    rcases List.mem_cons.mp hxk with heq | hlater
    · obtain ⟨rfl, htaker⟩ := Prod.mk.inj heq
      exact (ClaimSent.returnOne hb htaker.symm he).mono hsent
    · refine hclaims x k e ?_ ?_
      · rw [offers_congr hdata]
        exact hlater
      · unfold findEntry
        rw [index_of_unsignalled hdata]
        exact he

/-! ## CloseContext (R130) -/

/-- The context's parked take has left the arrival order. -/
def State.takeCancelled (s : State) (c : Fin 4) : State :=
  { s with drain := { s.drain with parkedTakes := s.drain.parkedTakes.filter fun k => decide (k.ctx ≠ c) } }

theorem State.parkedTakes_eq_of_ctx (hd : (s.drain.parkedTakes.map ParkedTake.ctx).Nodup) {j : ParkedTake} (hk : k ∈ s.drain.parkedTakes)
    (hj : j ∈ s.drain.parkedTakes) (heq : j.ctx = k.ctx) : j = k :=
  List.inj_on_of_nodup_map hd hj hk heq

theorem State.parkedTakeOf_eq_some (hd : (s.drain.parkedTakes.map ParkedTake.ctx).Nodup) (hk : k ∈ s.drain.parkedTakes) :
    s.parkedTakeOf k.ctx = some k := by
  have hsome : (s.parkedTakeOf k.ctx).isSome = true := List.find?_isSome.mpr ⟨k, hk, by simp⟩
  obtain ⟨j, hj⟩ := Option.isSome_iff_exists.mp hsome
  rw [hj, parkedTakes_eq_of_ctx hd hk (List.mem_of_find?_eq_some hj) (by simpa using List.find?_some hj)]

theorem Becomes.cancelTake (hd : (s.drain.parkedTakes.map ParkedTake.ctx).Nodup) (c : Fin 4) :
    Becomes s (s.cancelTake c) (s.takeCancelled c) [] [] := by
  cases hk : s.parkedTakeOf c with
  | none =>
    have hsame : s.drain.parkedTakes.filter (fun k => decide (k.ctx ≠ c)) = s.drain.parkedTakes :=
      List.filter_eq_self.mpr fun k hk' => by simpa using List.find?_eq_none.mp hk k hk'
    rw [State.cancelTake, hk]
    refine (Becomes.refl s).unsignalled_eq ?_
    rw [State.takeCancelled, hsame]
  | some k =>
    have hmem : k ∈ s.drain.parkedTakes := List.mem_of_find?_eq_some hk
    obtain rfl : k.ctx = c := by simpa using List.find?_some hk
    have htakes : s.drain.parkedTakes.filter (fun j => decide (j ≠ k)) = s.drain.parkedTakes.filter fun j => decide (j.ctx ≠ k.ctx) :=
      List.filter_congr fun j hj =>
        decide_eq_decide.mpr (not_congr ⟨fun heq => heq ▸ rfl, State.parkedTakes_eq_of_ctx hd hmem hj⟩)
    rw [State.cancelTake, hk]
    refine ⟨Signalled.answerTake (t := s.unpark k) (.of_eq rfl fun p => by cases p <;> rfl) hmem, ?_⟩
    dsimp only
    rw [State.refuse_unsignalled, State.unpark, State.takeCancelled, ← htakes]
    rfl

theorem State.cancelTake_answered (hd : (s.drain.parkedTakes.map ParkedTake.ctx).Nodup) (hk : k ∈ s.drain.parkedTakes) :
    ({ port := .archive, tag := k.tag, kind := RequestKind.code .take, status := .cancelled, top := none, result := .none, data := [] } : Response)
      ∈ (s.cancelTake k.ctx).sent := by
  rw [cancelTake, parkedTakeOf_eq_some hd hk]
  dsimp only
  rw [refuse, answer_sent]
  exact List.mem_append_right _ (List.mem_singleton.mpr rfl)

section
variable (ht : Taken s .archive h 0)
include ht

theorem exec_closeContext_badParam (hbad : 3 < h.target.toNat) : exec (.closeContext h) s = .next (s.refused .archive h .closeContext .badParam) :=
  congrArg Host.Outcome.next (State.request_refuse ht (by rw [ctxParam_of_gt hbad]))

variable (hc : h.target.toNat = c.val)
include hc

theorem exec_closeContext_wrongState (hclosed : s.drain.contexts[c] = none) :
    exec (.closeContext h) s = .next (s.refused .archive h .closeContext .wrongState) := by
  have hclosed' : ¬ s.contextOpen c = true := by
    rw [State.contextOpen, hclosed]
    decide
  refine congrArg Host.Outcome.next (State.request_refuse ht ?_)
  rw [ctxParam_of_eq hc]
  dsimp only
  rw [State.opened_contextOpen]
  exact if_neg hclosed'

theorem exec_closeContext (hopen : s.drain.contexts[c].isSome = true) :
    exec (.closeContext h) s
      = .next (((s.opened .archive h .closeContext).closeOne c).replied .archive h .closeContext .ok (.returnedCount (s.claims c).length)) := by
  have hopen' : s.contextOpen c = true := hopen
  refine congrArg Host.Outcome.next ((State.request_taken ht).trans ?_)
  rw [ctxParam_of_eq hc]
  dsimp only
  rw [State.opened_contextOpen, if_pos hopen', State.opened_claims]
  rfl

end

/-- The state once a context has closed: its parked take is gone, its claims are returned, each offered to the takes that remain. -/
def State.contextClosed (s : State) (c : Fin 4) : State :=
  ((s.takeCancelled c).returnedAll (s.claims c)).putContext c none

theorem Becomes.putContext {es : List Event} {ks : List NoticeKind} (hst : Becomes s t u es ks) (c : Fin 4) (w : Option Window) :
    Becomes s (t.putContext c w) (u.putContext c w) es ks :=
  hst.map (·.putContext c w) rfl (fun p => by cases p <;> rfl) fun _ => rfl

section
variable (hlbns : (s.ring.blocks.map Block.lbn).Nodup)
include hlbns

theorem State.claims_nodup (c : Fin 4) : ((s.claims c).map Block.lbn).Nodup :=
  hlbns.sublist (List.filter_sublist.map _)

/-- The cancelled take leaves the claims where they are. -/
theorem State.cancelTake_claims_found (hd : (s.drain.parkedTakes.map ParkedTake.ctx).Nodup) (c : Fin 4) :
    ∀ b ∈ s.claims c, (s.cancelTake c).findBlock b.lbn = some b := by
  intro b hb
  have hring : (s.cancelTake c).ring = (s.takeCancelled c).ring := ring_of_unsignalled (Becomes.cancelTake hd c).2
  unfold findBlock
  rw [hring]
  exact findBlock_of_mem hlbns (List.mem_of_mem_filter hb)

theorem Becomes.closeOne (hd : (s.drain.parkedTakes.map ParkedTake.ctx).Nodup) (c : Fin 4) :
    Becomes s (s.closeOne c) (s.contextClosed c) [] [] := by
  have hcancelled := Becomes.cancelTake hd c
  have hreturned := Becomes.returnAll (State.cancelTake_claims_found hlbns hd c) (State.claims_nodup hlbns c)
  refine (hcancelled.append (List.filter_subset_self _) hreturned ?_).putContext c none
  obtain ⟨_, _, _, _, heq⟩ := State.eq_of_unsignalled hcancelled.2
  rw [heq]
  rfl

/-- What a close leaves of a held block, told by the offers that were made of it. -/
theorem State.offeredBlock_closed {x : Block} (hx : x ∈ s.ring.blocks) :
    offeredBlock ((s.takeCancelled c).offers (s.claims c)).1 x
      = match ((s.takeCancelled c).offers (s.claims c)).1.find? fun y => decide (y.1 = x) with
        | none => x
        | some (_, none) => { x with state := .sealed }
        | some (_, some k) => { x with state := .claimed k.ctx } := by
  have hclaims := (s.takeCancelled c).offers_blocks (s.claims c)
  have hfind : ((s.takeCancelled c).offers (s.claims c)).1.find? (fun y => decide (y.1.lbn = x.lbn))
      = ((s.takeCancelled c).offers (s.claims c)).1.find? fun y => decide (y.1 = x) := by
    refine List.find?_congr fun y hy => decide_eq_decide.mpr ⟨fun heq => ?_, fun heq => heq ▸ rfl⟩
    have hmem : y.1 ∈ s.claims c := by
      rw [← hclaims]
      exact List.mem_map_of_mem hy
    exact List.inj_on_of_nodup_map hlbns (List.mem_of_mem_filter hmem) hx heq
  rw [offeredBlock, hfind]
  generalize ((s.takeCancelled c).offers (s.claims c)).1.find? (fun y => decide (y.1 = x)) = found
  obtain _ | ⟨_, _ | k⟩ := found <;> rfl

/-- What a close leaves of the data. -/
theorem State.contextClosed_unsignalled :
    (s.contextClosed c).unsignalled
      = State.unsignalled
          { s with
            ring :=
              { s.ring with
                blocks := s.ring.blocks.map fun x =>
                  match ((s.takeCancelled c).offers (s.claims c)).1.find? fun y => decide (y.1 = x) with
                  | none => x
                  | some (_, none) => { x with state := .sealed }
                  | some (_, some k) => { x with state := .claimed k.ctx } }
            drain := { contexts := s.drain.contexts.set c none, parkedTakes := ((s.takeCancelled c).offers (s.claims c)).2 } } := by
  rw [← List.map_congr_left fun x hx => offeredBlock_closed (c := c) hlbns hx]
  rfl

/-- A close leaves every block's archiving as it was (R13, R129). -/
theorem State.contextClosed_archiveFront (c : Fin 4) : (s.contextClosed c).archiveFront = s.archiveFront := by
  refine archiveFront_map (g := offeredBlock ((s.takeCancelled c).offers (s.claims c)).1) rfl (fun x => ?_) fun x hx => ?_
  · unfold offeredBlock
    split <;> rfl
  · unfold offeredBlock
    split
    next => rfl
    next y taker hfound =>
      have hmem : y ∈ s.claims c := by
        rw [← (s.takeCancelled c).offers_blocks (s.claims c)]
        exact List.mem_map_of_mem (f := Prod.fst) (List.mem_of_find?_eq_some hfound)
      obtain ⟨hheld, hclaimed⟩ := List.mem_filter.mp hmem
      obtain rfl : y = x := List.inj_on_of_nodup_map hlbns hheld hx (by simpa using List.find?_some hfound)
      have hstate : y.state = .claimed c := by simpa using hclaimed
      cases taker <;> simp [Block.unarchived, offeredState, hstate]

end

end Sys2Proof.Machine

namespace Sys2Proof.Proofs
open Sys2Proof.Machine

/-- Settles O37: the claims of the context that closes are returned one after another, each to the oldest remaining take that covers it. -/
theorem contextsOpenAndClose : Obligations.ContextsOpenAndClose := by
  unfold Obligations.ContextsOpenAndClose
  refine ⟨fun h first length s ht => ⟨exec_openContext_badParam ht, fun c hc hfirst hlength hend =>
      ⟨exec_openContext_wrongState ht hc (windowParam_eq_some hfirst hlength hend),
        exec_openContext ht hc (windowParam_eq_some hfirst hlength hend)⟩⟩,
    fun h s ht => ⟨exec_closeContext_badParam ht, fun c hc => ⟨exec_closeContext_wrongState ht hc, ?_⟩⟩⟩
  rintro offered hopen hr ⟨-, -, hctx, -⟩ hoffered
  have hlbns : ((s.opened .archive h .closeContext).ring.blocks.map Block.lbn).Nodup := hr.lbns_nodup
  have hctx' : ((s.opened .archive h .closeContext).drain.parkedTakes.map ParkedTake.ctx).Nodup := hctx
  have hoffers : ((s.opened .archive h .closeContext).takeCancelled c).offers ((s.opened .archive h .closeContext).claims c) = offered := hoffered.symm
  obtain ⟨hsignals, hdata⟩ := Becomes.closeOne hlbns hctx' c
  have hcancelled := Becomes.cancelTake hctx' c
  obtain ⟨hmore, hclaims⟩ := State.returnAll_sent (State.cancelTake_claims_found hlbns hctx' c) (State.claims_nodup hlbns c)
  refine ⟨_, exec_closeContext ht hc hopen, ?_, fun k hk hkc => ?_, fun b k e hbk he => ?_, ?_, hsignals.replied ht, ?_⟩
  · rw [List.countP_eq_length_filter]
    exact State.replied_answers _
  · subst hkc
    have hsent := hmore (State.cancelTake_answered hctx' (show k ∈ (s.opened .archive h .closeContext).drain.parkedTakes from hk))
    obtain ⟨top, htop⟩ := State.sent_of_replied (s := (s.opened .archive h .closeContext).closeOne k.ctx) (h := h) (p := .archive)
      (k := .closeContext) (st := .ok) (r := .returnedCount (s.claims k.ctx).length) hsent
    exact ⟨_, htop, rfl, rfl, rfl⟩
  · have hclaim := hclaims b k e (by rw [State.offers_congr hcancelled.2, hoffers]; exact hbk) (by
      unfold State.findEntry
      rw [index_of_unsignalled hcancelled.2]
      exact he)
    refine ClaimSent.endAct (s := ((s.opened .archive h .closeContext).closeOne c).answer .archive h.tag .closeContext .ok
      (.returnedCount (s.claims c).length)) (hclaim.mono ?_)
    rw [State.answer_sent]
    exact List.subset_append_left _ _
  · rw [State.replied_archiveFront, State.archiveFront_of_unsignalled hdata, State.contextClosed_archiveFront hlbns, State.opened_archiveFront]
  · rw [State.replied_unsignalled, hdata, State.contextClosed_unsignalled hlbns, hoffers]
    rfl

end Sys2Proof.Proofs

/-!
The reset of the Viewer Port (O6): its pins are removed one by one, and the band is re-evaluated once.
-/
namespace Sys2Proof.Machine

variable {s t : State} {p q : Port} {h : Header} {i : Fin 8} {e : Event} {es : List Event}

/-! ## All pins are removed (R11, R136, R149) -/

/-- The pin is Live and covers the block. -/
def State.pinCovers (s : State) (lbn : Nat) (i : Fin 8) : Bool :=
  (s.pins[i].map fun r => r.covers lbn).getD false

/-- Some pins have been removed, and the Pin Counts have fallen with them. -/
def State.unpinned (s : State) (l : List (Fin 8)) : State :=
  { s with
    pins := Vector.ofFn fun i => if i ∈ l then none else s.pins[i]
    ring := { s.ring with blocks := s.ring.blocks.map fun b => { b with pinCount := b.pinCount - l.countP (s.pinCovers b.lbn) } } }

theorem State.dropPin_unpinned (s : State) (i : Fin 8) : s.dropPin i = s.unpinned [i] := by
  have hpins : s.pins.set i none = Vector.ofFn fun j => if j ∈ [i] then none else s.pins[j] := by
    ext j hj : 1
    by_cases hij : (i : Nat) = j
    · simp [hij, Fin.ext_iff]
    · simp [hij, Fin.ext_iff, Ne.symm hij]
  cases hlive : s.pins[i] with
  | some r =>
    have hblocks : (s.ring.blocks.map fun b =>
          if r.first ≤ b.lbn ∧ b.lbn < r.rangeEnd then { b with pinCount := b.pinCount - 1 } else b)
        = s.ring.blocks.map fun b => { b with pinCount := b.pinCount - [i].countP (s.pinCovers b.lbn) } := ?_
    · rw [dropPin_eq hlive, pinMoved_eq, hpins, unpinned, hblocks]
    refine List.map_congr_left fun b _ => ?_
    by_cases hcover : r.covers b.lbn = true
    · rw [if_pos (PinRange.covers_iff.mp hcover)]
      simp [pinCovers, hlive, hcover]
    · rw [if_neg (fun hc => hcover (PinRange.covers_iff.mpr hc))]
      simp [pinCovers, hlive, hcover]
  | none =>
    have hsame : s.pins.set i none = s.pins := by
      rw [← hlive]
      exact Vector.set_getElem_self ..
    have hcount (b : Block) : b.pinCount - [i].countP (s.pinCovers b.lbn) = b.pinCount := by
      simp [pinCovers, hlive]
    rw [unpinned, ← hpins, hsame]
    simp only [hcount, List.map_id']
    rw [dropPin, hlive]

theorem State.foldl_dropPin {l : List (Fin 8)} (hl : l.Nodup) (s : State) : l.foldl State.dropPin s = s.unpinned l := by
  induction l generalizing s with
  | nil => simp [unpinned]
  | cons i l ih =>
    obtain ⟨hi, hl⟩ := List.nodup_cons.mp hl
    have hcovers (lbn : Nat) (j : Fin 8) (hj : j ∈ l) : (s.unpinned [i]).pinCovers lbn j = s.pinCovers lbn j := by
      have hij : j ≠ i := fun e => hi (e ▸ hj)
      simp [pinCovers, unpinned, hij]
    have hcount (lbn : Nat) : l.countP ((s.unpinned [i]).pinCovers lbn) = l.countP (s.pinCovers lbn) :=
      List.countP_congr fun j hj => by rw [hcovers lbn j hj]
    have hblock (b : Block) :
        b.pinCount - [i].countP (s.pinCovers b.lbn) - l.countP (s.pinCovers b.lbn)
          = b.pinCount - (i :: l).countP (s.pinCovers b.lbn) := by
      rw [Nat.sub_sub, ← List.countP_append, List.singleton_append]
    rw [List.foldl_cons, dropPin_unpinned, ih hl, unpinned]
    simp only [hcount]
    simp only [unpinned, List.map_map, Function.comp_def, hblock]
    congr 1
    ext j hj : 1
    by_cases hij : (⟨j, hj⟩ : Fin 8) = i <;> simp [hij]

theorem State.pinsOver_eq (s : State) (lbn : Nat) : s.pinsOver lbn = (List.finRange 8).countP (s.pinCovers lbn) := by
  have hlist : s.pins.toList = (List.finRange 8).map fun i => s.pins[i] := by
    refine List.ext_getElem (by simp) fun n hn hm => ?_
    rw [List.getElem_map, List.getElem_finRange]
    rfl
  rw [pinsOver, hlist, List.countP_map]
  rfl

/-- With every Pin Count the number of the Live pins over its block, removing all pins leaves all counts zero. -/
theorem PinForm.unpinned_all (hp : PinForm s) :
    s.unpinned (List.finRange 8)
      = { s with
          pins := Vector.replicate 8 none
          ring := { s.ring with blocks := s.ring.blocks.map fun b => { b with pinCount := 0 } } } := by
  obtain ⟨-, hcounts⟩ := hp
  have hpins : (Vector.ofFn fun i : Fin 8 => if i ∈ List.finRange 8 then none else s.pins[i]) = Vector.replicate 8 none := by
    ext i hi : 1
    simp
  have hblocks : (s.ring.blocks.map fun b => { b with pinCount := b.pinCount - (List.finRange 8).countP (s.pinCovers b.lbn) })
      = s.ring.blocks.map fun b => { b with pinCount := 0 } := ?_
  · rw [State.unpinned, hpins, hblocks]
  refine List.map_congr_left fun b hb => ?_
  rw [hcounts b hb, s.pinsOver_eq, Nat.sub_self]

/-! ## What a run of events leaves at a port (R188, R191, R193, R196) -/

theorem State.completeWaits_slots (s : State) (served : List (Fin 8 × ParkedWait × Bool)) (p : Port) :
    ((s.completeWaits served).port p).slots
      = (s.port p).slots.filter fun x => served.all fun d => !(decide (d.2.1.port = p) && decide (d.2.1.tag = x.tag)) := by
  induction served generalizing s with
  | nil => simp [completeWaits]
  | cons d served ih =>
    have hfirst : ((s.completeWait d.1 d.2).port p).slots
        = (s.port p).slots.filter fun x => !(decide (d.2.1.port = p) && decide (d.2.1.tag = x.tag)) := by
      obtain ⟨i, ⟨⟨q, _⟩, _⟩⟩ := d
      cases p <;> cases q <;> simp [completeWait, answer, answerWith, freeSlot, mapPort, send, port, eq_comm]
    change ((State.completeWaits (s.completeWait d.1 d.2) served).port p).slots = _
    rw [ih, hfirst, List.filter_filter]
    exact List.filter_congr fun x _ => by rw [List.all_cons, Bool.and_comm]

/-- The OK answer of a completed wait, before the end of the act. -/
def waitAnswer (d : Fin 8 × ParkedWait × Bool) : Response :=
  { port := d.2.1.port, tag := d.2.1.tag, kind := RequestKind.code .wait, status := .ok, top := none,
    result := .waited d.1 d.2.1.mode d.2.2, data := [] }

theorem State.completeWaits_sent_eq (s : State) (served : List (Fin 8 × ParkedWait × Bool)) :
    (s.completeWaits served).sent = s.sent ++ served.map waitAnswer := by
  induction served generalizing s with
  | nil => simp [completeWaits]
  | cons d served ih =>
    change (State.completeWaits (s.completeWait d.1 d.2) served).sent = _
    rw [ih, completeWait, answer_sent, List.append_assoc]
    rfl

theorem State.raise_slots (s : State) (e : Event) (p : Port) :
    ((s.raise e).port p).slots
      = (s.port p).slots.filter fun x => (s.waitsServed e).all fun d => !(decide (d.2.1.port = p) && decide (d.2.1.tag = x.tag)) := by
  have taken_slots : ((s.eventTaken e).port p).slots = (s.port p).slots := by cases p <;> rfl
  rw [raise_eq, completeWaits_slots, taken_slots]

theorem State.raise_sent_eq (s : State) (e : Event) : (s.raise e).sent = s.sent ++ (s.waitsServed e).map waitAnswer := by
  rw [raise_eq, completeWaits_sent_eq]
  rfl

theorem State.raise_line (s : State) (e : Event) (p : Port) :
    ((s.raise e).port p).notices.line
      = decide (((s.raise e).port p).notices.pending &&& ((s.raise e).port p).notices.mask ≠ 0) := by
  rw [raise_eq, completeWaits_notices]
  cases p <;> rfl

/-- What a re-evaluation of the band is but for the Pause line: the event of the new band. -/
theorem State.reband_cases (s : State) :
    (s.reband.ring.band = s.ring.band ∧ s.reband = s)
      ∨ (s.reband.ring.band ≠ s.ring.band
          ∧ s.reband = State.updatePause (({ s with ring := { s.ring with band := s.reband.ring.band } }).raise s.reband.ring.band.event)) := by
  rw [reband_ring, reband]
  generalize bandMove s.ring.band s.headroom s.control.active.pressed s.control.active.critical s.control.active.hysteresis = band
  by_cases hband : band = s.ring.band
  · exact .inl ⟨hband, by rw [setBand, if_pos hband]⟩
  · exact .inr ⟨hband, by rw [setBand, if_neg hband]; rfl⟩

/-- The waits that a re-evaluation of the band completes. -/
def State.servedByReband (s : State) : List (Fin 8 × ParkedWait × Bool) :=
  (bandEvents s.ring.band s.reband.ring.band).flatMap s.waitsServed

theorem State.reband_still (hband : s.reband.ring.band = s.ring.band) :
    bandEvents s.ring.band s.reband.ring.band = [] ∧ s.servedByReband = [] := by
  have hnone : bandEvents s.ring.band s.reband.ring.band = [] := if_pos hband
  exact ⟨hnone, by rw [servedByReband, hnone]; rfl⟩

theorem State.reband_moved (hband : s.reband.ring.band ≠ s.ring.band) :
    bandEvents s.ring.band s.reband.ring.band = [s.reband.ring.band.event]
      ∧ s.servedByReband = s.waitsServed s.reband.ring.band.event := by
  have hone : bandEvents s.ring.band s.reband.ring.band = [s.reband.ring.band.event] := if_neg hband
  exact ⟨hone, by rw [servedByReband, hone, List.flatMap_singleton]⟩

/-- The same state with another band. -/
def State.banded (s : State) (b : Band) : State :=
  { s with ring := { s.ring with band := b } }

theorem State.banded_port (s : State) (b : Band) (p : Port) : (s.banded b).port p = s.port p := by
  cases p <;> rfl

theorem State.reband_slots (s : State) (p : Port) :
    (s.reband.port p).slots
      = (s.port p).slots.filter fun x => s.servedByReband.all fun d => !(decide (d.2.1.port = p) && decide (d.2.1.tag = x.tag)) := by
  obtain ⟨hband, hsame⟩ | ⟨hband, hraised⟩ := s.reband_cases
  · rw [(reband_still hband).2, hsame]
    simp
  · rw [(reband_moved hband).2]
    generalize s.reband.ring.band = b at hraised
    rw [hraised, updatePause_port]
    exact (State.raise_slots (s.banded b) b.event p).trans (by rw [banded_port]; rfl)

theorem State.reband_sent_eq (s : State) : s.reband.sent = s.sent ++ s.servedByReband.map waitAnswer := by
  obtain ⟨hband, hsame⟩ | ⟨hband, hraised⟩ := s.reband_cases
  · rw [(reband_still hband).2, hsame]
    simp
  · rw [(reband_moved hband).2]
    generalize s.reband.ring.band = b at hraised
    rw [hraised, updatePause_sent]
    exact State.raise_sent_eq (s.banded b) b.event

theorem State.reband_line (s : State) (p : Port) :
    (s.reband.port p).notices.line
      = if bandEvents s.ring.band s.reband.ring.band = [] then (s.port p).notices.line
        else decide ((s.reband.port p).notices.pending &&& (s.reband.port p).notices.mask ≠ 0) := by
  obtain ⟨hband, hsame⟩ | ⟨hband, hraised⟩ := s.reband_cases
  · rw [if_pos (reband_still hband).1, hsame]
  · rw [if_neg (by rw [(reband_moved hband).1]; exact List.cons_ne_nil _ _)]
    generalize s.reband.ring.band = b at hraised
    rw [hraised, updatePause_port]
    exact State.raise_line (s.banded b) b.event p

/-! ## The reset of the Viewer Port (R149, R199) -/

/-- The Viewer Port's reset before the band is re-evaluated: its slots, waits, queued Reads and pins are gone. -/
def State.viewerCleared (s : State) : State :=
  { s with
    viewerPort := { s.viewerPort with linkUp := true, slots := [] }
    flags := s.flags.map fun f => { f with waits := f.waits.filter fun w => w.port ≠ .viewer }
    pins := Vector.replicate 8 none
    ring := { s.ring with blocks := s.ring.blocks.map fun b => { b with pinCount := 0 } }
    store := { s.store with viewerQueue := [] }
    sent := [] }

/-- The answer of the reset; its Top Notice is none, as it leaves with the port's notices reset (R193, R194). -/
def viewerResetAnswer (h : Header) : Response :=
  { port := .viewer, tag := h.tag, kind := RequestKind.code .resetPort, status := .ok, top := none, result := .none, data := [] }

/-- The reads in flight and the Notice Unit are reset, and the response has left without its Top Notice. -/
def State.viewerResetAnswered (s : State) (h : Header) : State :=
  ((s.discardReads .viewer).mapPort .viewer fun q => { q with notices := resetNotices }).reject .viewer h.tag
    (RequestKind.code .resetPort) .ok

/-- The rest of the reset: the reads in flight, the Notice Unit, and the response. -/
def State.viewerResetEnded (s : State) (h : Header) : State :=
  (s.viewerResetAnswered h).endAct

theorem PinForm.exec_resetPort_viewer (hp : PinForm s) (hf : h.bodyLength.toNat = h.received) (he : h.received = 0) :
    exec (.resetPort .viewer h) s = .next (s.viewerCleared.reband.viewerResetEnded h) := by
  have hstart : PinForm (((((s.arrive .viewer).discardSlots .viewer).dropWaits .viewer).mapStore fun t => { t with viewerQueue := [] })) := hp
  rw [exec_resetPort_eq hf he, State.resetPort, State.resetOwners, State.resetViewer]
  rw [State.foldl_dropPin (List.nodup_finRange 8), hstart.unpinned_all]
  rfl

theorem State.viewerResetEnded_sent (s : State) (h : Header) :
    (s.viewerResetEnded h).sent
      = s.sent.map (fun r => { r with top := ((s.viewerResetEnded h).port r.port).notices.top })
        ++ [viewerResetAnswer h] := by
  have htop (p : Port) : ((s.viewerResetAnswered h).port p).notices.top = ((s.viewerResetEnded h).port p).notices.top := by
    cases p <;> rfl
  have hnotices : ((s.viewerResetEnded h).port .viewer).notices = resetNotices := rfl
  have hnone : resetNotices.top = none := by decide
  have hsent : (s.viewerResetAnswered h).sent = s.sent ++ [viewerResetAnswer h] := rfl
  have hended : (s.viewerResetEnded h).sent
      = (s.viewerResetAnswered h).sent.map fun r => { r with top := ((s.viewerResetAnswered h).port r.port).notices.top } := rfl
  rw [hended, hsent, List.map_append, List.map_singleton]
  simp only [htop, viewerResetAnswer, hnotices, hnone]

theorem State.viewerResetEnded_archive (s : State) (h : Header) : (s.viewerResetEnded h).port .archive = s.port .archive := rfl

theorem State.viewerResetEnded_viewer (s : State) (h : Header) :
    (s.viewerResetEnded h).viewerPort
      = { linkUp := (s.port .viewer).linkUp, slots := (s.port .viewer).slots, notices := resetNotices } := rfl

theorem State.viewerResetEnded_flags (s : State) (h : Header) : (s.viewerResetEnded h).flags = s.flags := rfl

theorem State.viewerResetEnded_ring (s : State) (h : Header) : (s.viewerResetEnded h).ring = s.ring := rfl

theorem State.viewerResetEnded_unsignalled (s : State) (h : Header) :
    (s.viewerResetEnded h).unsignalled = (s.discardReads .viewer).unsignalled := rfl

theorem Rebanded.viewerReset (hst : Rebanded s t) : Rebanded s (t.viewerResetEnded h) := by
  obtain ⟨band, link⟩ := hst
  exact ⟨band, link⟩

theorem State.viewerCleared_reband_sent (s : State) :
    s.viewerCleared.reband.sent = s.viewerCleared.servedByReband.map waitAnswer := by
  rw [reband_sent_eq, viewerCleared, List.nil_append]

/-- The reset has ended the Viewer Port's waits, so every wait the band's event completes is the Archive Port's. -/
theorem State.viewerCleared_served {d : Fin 8 × ParkedWait × Bool} (hd : d ∈ s.viewerCleared.servedByReband) : d.2.1.port = .archive := by
  obtain ⟨e, -, hd⟩ := List.mem_flatMap.mp hd
  obtain ⟨i, hw⟩ := waitsServed_parked hd
  have hkept : d.2.1 ∈ s.flags[i].waits.filter fun w => w.port ≠ .viewer := by
    simpa [viewerCleared] using hw
  have hport : d.2.1.port ≠ .viewer := by simpa using (List.mem_filter.mp hkept).2
  cases hp : d.2.1.port
  · exact absurd hp hport
  · rfl

theorem ReachedByEvents.viewerReset :
    ReachedByEvents .archive s (s.viewerCleared.reband.viewerResetEnded h) (bandEvents s.ring.band s.viewerCleared.reband.ring.band)
      s.viewerCleared.servedByReband := by
  have harrived := s.viewerCleared.reband.viewerResetEnded_archive h
  have hband := Signalled.reband s.viewerCleared
  constructor
  · rw [harrived, hband.pending .archive, List.append_nil, List.foldl_map]
    rfl
  · rw [harrived, hband.mask .archive]
    rfl
  · rw [harrived, s.viewerCleared.reband_line .archive]
    rfl
  · rw [harrived, hband.links .archive]
    rfl
  · rw [harrived, s.viewerCleared.reband_slots .archive]
    rfl
  · have hreset : [viewerResetAnswer h].filter (fun r => decide (r.port = .archive)) = [] := rfl
    have hserved : s.viewerCleared.servedByReband.filter (fun d => decide (d.2.1.port = .archive)) = s.viewerCleared.servedByReband :=
      List.filter_eq_self.mpr fun d hd => decide_eq_true (State.viewerCleared_served hd)
    refine .of_eq ?_
    rw [State.viewerResetEnded_sent, State.viewerCleared_reband_sent, List.filter_append, List.map_map, hreset, List.append_nil, hserved,
      List.filter_eq_self.mpr fun r hr => ?_]
    · refine List.map_congr_left fun d hd => ?_
      simp [waitAnswer, State.viewerCleared_served hd]
    · obtain ⟨d, hd, rfl⟩ := List.mem_map.mp hr
      exact decide_eq_true (State.viewerCleared_served hd)

theorem Rebanded.viewerCleared (s : State) : Rebanded s s.viewerCleared.reband := by
  obtain ⟨band, link⟩ := Rebanded.reband s.viewerCleared
  generalize s.viewerCleared.reband = t at band link
  exact ⟨band, link⟩

theorem InFlight.discardFor_viewer (e : InFlight) : e.discardFor .viewer = match e.requester with
    | .request .viewer _ => { e with requester := .discarded }
    | _ => e := by
  unfold InFlight.discardFor
  obtain _ | ⟨_ | _, _⟩ | _ := e.requester <;> rfl

/-- The parts that no event of the reset reaches. -/
theorem State.viewerReset_unsignalled (s : State) (h : Header) :
    (s.viewerCleared.reband.viewerResetEnded h).unsignalled
      = State.unsignalled
          { s with
            pins := Vector.replicate 8 none
            ring := { s.ring with blocks := s.ring.blocks.map fun b => { b with pinCount := 0 }, band := s.viewerCleared.reband.ring.band }
            link := s.viewerCleared.reband.link
            store := { s.store with viewerQueue := [], inFlight := s.store.inFlight.map fun e => e.discardFor .viewer } } := by
  have hdiscard (t : State) : (t.discardReads .viewer).unsignalled = t.unsignalled.discardReads .viewer := rfl
  rw [viewerResetEnded_unsignalled, hdiscard, reband_unsignalled, reband_ring]
  generalize s.viewerCleared.reband.link = link
  rfl

end Sys2Proof.Machine

namespace Sys2Proof.Proofs
open Sys2Proof.Machine

/-- Settles O6: once the port's waits and pins are gone, the one re-evaluation of the band is the only event, and the reset's answer is the port's only
response. -/
theorem viewerPortReset : Obligations.ViewerPortReset := by
  intro h s hf he _ hp
  refine ⟨_, hp.exec_resetPort_viewer hf he, ?_, ?_, ?_, ?_, ?_, ?_⟩
  · rw [State.viewerResetEnded_viewer, (Signalled.reband s.viewerCleared).links .viewer, s.viewerCleared.reband_slots .viewer]
    rfl
  · rw [State.viewerResetEnded_sent, State.viewerCleared_reband_sent, List.filter_append, List.filter_eq_nil_iff.mpr]
    · rfl
    · intro r hr
      obtain ⟨x, hx, rfl⟩ := List.mem_map.mp hr
      obtain ⟨d, hd, rfl⟩ := List.mem_map.mp hx
      simp [waitAnswer, State.viewerCleared_served hd]
  · rw [State.viewerResetEnded_flags, State.viewerResetEnded_ring]
    exact (Signalled.reband s.viewerCleared).flags
  · rw [State.viewerResetEnded_ring]
    exact .viewerReset
  · exact (Rebanded.viewerCleared s).viewerReset
  · rw [State.viewerReset_unsignalled, State.viewerResetEnded_ring]
    simp only [InFlight.discardFor_viewer]
    rfl

end Sys2Proof.Proofs

/-!
The Segment Index (O54): a frame that waits at R55 step 4 in front of a full index.
-/
namespace Sys2Proof.Machine

variable {s : State} {f : Frame} {n : Nat}

/-! ## A working that closes no segment leaves every entry -/

theorem State.afterPlaced_index (htrigger : f.triggerFlag = false) (hend : f.endFlag = false) (hslice : s.assembler.sliceCounter = none) :
    (s.afterPlaced f).index = s.index := by
  have hspent : (s.spendFrame f).sealFull.sliceDue = false := by
    simp [sliceDue, spendFrame, spendSlice, mapAssembler, hslice]
  have hrecord : s.recordTrigger f = s := if_neg (by simp [htrigger])
  rw [afterPlaced, endFrame, hrecord, hend, hspent]
  simp

theorem State.finishOpening_index_length (before : Nat) (htrigger : f.triggerFlag = false) (hend : f.endFlag = false)
    (hslice : s.assembler.sliceCounter = none) : (s.finishOpening before f).index.length = s.index.length := by
  have hcounter : ((s.countPlaced f).settleRing before).testHeadMark.assembler.sliceCounter = none := by
    simp [countPlaced, hslice]
  rw [finishOpening, afterPlaced_index htrigger hend hcounter]
  simp [countPlaced]

/-! ## A full index -/

/-- A closed segment of one Sealed block, whose number is its LBN. -/
def closedEntry (n : Nat) : Entry where
  number := n
  closeReason := some .endFrame
  firstLbn := n
  blockCount := 1
  presentFrom := n
  byteLength := 64
  bpp := 2
  tickStep := 1
  archiveRequired := true
  firstTick := 0
  trigger := none
  triggerCount := 0
  triggerIgnored := 0
  gaps := []
  gapOverflow := false
  totalLost := 0
  evictedUnarchived := 0
  startLost := false
  noStamp := false
  stampConflict := false
  frontEvicted := false
  archivedWithLoss := false
  damaged := false

/-- The block of such a segment. -/
def closedBlock (n : Nat) : Block where
  lbn := n
  state := .sealed
  fillBytes := 64
  segment := n
  archiveRequired := true
  pinCount := 0
  readsInFlight := 0
  damaged := false

/-- A frame of one unit with no flag set. -/
def plainFrame : Frame where
  sequence := 0
  startFlag := false
  triggerFlag := false
  endFlag := false
  triggerOffset := 0
  triggerKind := 0
  stamp := none
  payload := List.replicate 64 0

/-- Capture runs on a ring of eight groups with `n` closed one-block segments, and the front frame waits at R55 step 4. -/
def crowded (n : Nat) : State :=
  { State.reset with
    ring := { head := n, tail := 0, blocks := (List.range' 0 n).map closedBlock, band := .relaxed }
    link := { State.reset.link with intake := [.frame plainFrame none] }
    assembler := { State.reset.assembler with nextSegment := n, stage := some .openBlock }
    index := (List.range' 0 n).map closedEntry
    control := { State.reset.control with capture := .running }
    store := { State.reset.store with admission := true }
    power := { State.reset.power with groupMap := [0, 1, 2, 3, 4, 5, 6, 7] }
    pending := [.admissionGrant] }

theorem crowded_openEntry (n : Nat) : (crowded n).openEntry = none := by
  rw [State.openEntry, List.find?_eq_none]
  intro e he
  obtain ⟨k, -, rfl⟩ := List.mem_map.mp he
  simp [closedEntry, Entry.isOpen]

theorem crowded_fillingBlock (n : Nat) : (crowded n).fillingBlock = none := by
  rw [State.fillingBlock, List.find?_eq_none]
  intro b hb
  obtain ⟨k, -, rfl⟩ := List.mem_map.mp hb
  simp [closedBlock]

theorem crowded_ringForm (hn : n < 8192) : RingForm (crowded n) := by
  refine ⟨by simp [crowded], by simp [crowded], Nat.zero_le n, ?_, ?_, ?_, fun b hb hfills => ?_, fun b hb => ?_, fun h => ?_⟩
  · change n - 0 ≤ 1024 * 8
    omega
  · change n ≤ lastLbn
    have : (8192 : Nat) ≤ lastLbn := by decide
    omega
  · simp [crowded, closedBlock, Function.comp_def]
  · obtain ⟨k, -, rfl⟩ := List.mem_map.mp hb
    cases hfills
  · obtain ⟨k, -, rfl⟩ := List.mem_map.mp hb
    simp [closedBlock, blockBytes]
  · simp [crowded] at h

theorem crowded_assemblyForm (n : Nat) : AssemblyForm (crowded n) := by
  have hrunning : (crowded n).control.capture = .running := rfl
  refine ⟨?_, ?_, ?_, ?_, ?_, ?_, ?_, ?_, ?_, rfl⟩
  · exact fun h => absurd (Or.inl hrunning) h
  · simp [hrunning]
  · simp [crowded_fillingBlock]
  · simp [crowded, State.reset, resetWith]
  · simp [crowded, State.reset, resetWith]
  · intro x hx
    cases List.mem_singleton.mp hx
    simp [IntakeItem.wellSized, Frame.wellSized, plainFrame]
  · exact fun _ => rfl
  · simp [crowded]
  · exact fun _ => crowded_openEntry n

theorem tiles_closedEntry (lo n : Nat) : tiles lo (lo + n) ((List.range' lo n).map closedEntry) = true := by
  induction n generalizing lo with
  | zero => simp [tiles]
  | succ n ih =>
    rw [List.range'_succ, List.map_cons, tiles]
    have hrest : tiles (lo + 1) (lo + (n + 1)) ((List.range' (lo + 1) n).map closedEntry) = true := by
      rw [show lo + (n + 1) = lo + 1 + n by omega]
      exact ih (lo + 1)
    simp [closedEntry, hrest]

theorem crowded_indexForm (hn : n ≤ indexCapacity) : IndexForm (crowded n) := by
  have hlength : (crowded n).index.length = n := by simp [crowded]
  refine ⟨hlength.trans_le hn, hlength.le, Nat.le_refl n, ?_, fun e he => ?_, ?_, fun b hb => ?_⟩
  · rw [hlength]
    change List.map Entry.number ((List.range' 0 n).map closedEntry) = List.range' (n - n) n
    simp [closedEntry, Function.comp_def]
  · obtain ⟨k, -, rfl⟩ := List.mem_map.mp (List.dropLast_subset _ he)
    rfl
  · simpa [crowded] using tiles_closedEntry 0 n
  · obtain ⟨k, hk, rfl⟩ := List.mem_map.mp hb
    exact ⟨closedEntry k, List.mem_map_of_mem hk, rfl, rfl, Nat.le_refl k, Nat.lt_succ_self k⟩

theorem crowded_gapForm (n : Nat) : GapForm (crowded n) := by
  intro e he
  obtain ⟨k, -, rfl⟩ := List.mem_map.mp he
  exact ⟨rfl, Nat.zero_le 4⟩

/-- The working resumes past the test of the index, and opens a segment in it. -/
theorem step_crowded (hn : n < 8192) : ∃ t, step (crowded n) = .next t ∧ t.index.length = n + 1 := by
  have hexec := exec_admissionGrant (s := { crowded n with pending := [] }) (f := plainFrame) (loss := none) (rest := []) rfl (Nat.zero_lt_succ 2) rfl
  refine ⟨_, hexec, ?_⟩
  generalize hs : State.beginAct (State.granted { crowded n with pending := [] }) = s
  have hhead : s.ring.head = n := by rw [← hs]; rfl
  have hgranted : s.requestBlock = .granted s := by
    have hlast : (8192 : Nat) < lastLbn := by decide
    have hcapacity : s.capacity = 8192 := by rw [← hs]; rfl
    rw [State.requestBlock, hhead, if_neg (by omega), if_pos (by omega)]
  have hopened : (s.worked plainFrame none (some .openBlock)).index.length = s.index.length + 1 := by
    change (s.openWithBlock s.archiveFront plainFrame none).index.length = _
    rw [State.openWithBlock, hgranted]
    dsimp only
    rw [State.finishOpening_index_length _ rfl rfl]
    · simp [State.openSegment]
    · rw [← hs]
      rfl
  have hindex : s.index.length = n := by
    rw [← hs]
    simp [crowded, State.granted]
  have hstage : (crowded n).assembler.stage = some .openBlock := rfl
  simpa [hindex, hstage] using hopened

end Sys2Proof.Machine

namespace Sys2Proof.Proofs
open Sys2Proof.Machine

/-- Refutes O54: a frame that resumes at R55 step 4 is not tested against the index again, and the forms allow such a wait in front of a full index. -/
theorem not_everyStepKeepsTheIndexInForm : ¬ Obligations.EveryStepKeepsTheIndexInForm := by
  intro h
  obtain ⟨t, hstep, hlength⟩ := step_crowded (n := indexCapacity) (by decide)
  obtain ⟨⟨hcapacity, -⟩, -⟩ := h _ t (crowded_ringForm (by decide)) (crowded_assemblyForm _) (crowded_indexForm (Nat.le_refl _)) (crowded_gapForm _) hstep
  omega

end Sys2Proof.Proofs

/-!
The invariants of the ring, the Block Assembler, the pins, the Store Channel, the Drain Engine, the bank groups and the band speak of one core of the state.
Here stands, once for all of them, which acts a command can do to that core.
-/
namespace Sys2Proof.Machine

variable {s t : State}

/-! ## The core of the state -/

/-- The state without the parts that none of these invariants reads: flags, ports and responses, the waiting commands, the marks, the queues of reads,
and of the Sample Link all but the intake order. -/
def State.core (s : State) : State :=
  { s.unsignalled with
    pending := []
    link :=
      { locked := false, expected := none, intake := s.link.intake, pendingLoss := none, pause := false, captureEnable := false,
        haltLine := false, counts := resetCounts }
    control := { s.control with headMark := none, archiveMark := none }
    store := { s.store with archiveQueue := [], viewerQueue := [], turn := .archive, readsDone := 0 } }

theorem State.core_of_unsignalled (h : t.unsignalled = s.unsignalled) : t.core = s.core := by
  have hcore (u : State) : u.core = u.unsignalled.core := rfl
  rw [hcore t, h, ← hcore]

/-! ### Acts that do not reach the core -/

section
variable (s : State)

@[simp] theorem State.beginAct_core : s.beginAct.core = s.core := rfl

@[simp] theorem State.endAct_core : s.endAct.core = s.core := rfl

@[simp] theorem State.mapPort_core (p : Port) (f : PortState → PortState) : (s.mapPort p f).core = s.core := by
  cases p <;> rfl

@[simp] theorem State.arrive_core (p : Port) : (s.arrive p).core = s.core :=
  mapPort_core ..

@[simp] theorem State.reject_core (p : Port) (tag : Byte) (k : BitVec 8) (st : Status) : (s.reject p tag k st).core = s.core := rfl

@[simp] theorem State.occupy_core (p : Port) (tag : Byte) (k : RequestKind) : (s.occupy p tag k).core = s.core :=
  mapPort_core ..

@[simp] theorem State.answerWith_core (p : Port) (tag : Byte) (k : RequestKind) (st : Status) (r : Result) (d : List Byte) :
    (s.answerWith p tag k st r d).core = s.core := by
  cases p <;> rfl

@[simp] theorem State.answer_core (p : Port) (tag : Byte) (k : RequestKind) (st : Status) (r : Result) : (s.answer p tag k st r).core = s.core :=
  answerWith_core ..

@[simp] theorem State.refuse_core (p : Port) (tag : Byte) (k : RequestKind) (st : Status) : (s.refuse p tag k st).core = s.core :=
  answer_core ..

@[simp] theorem State.setProgress_core (p : Port) (tag : Byte) (x : Progress) : (s.setProgress p tag x).core = s.core :=
  mapPort_core ..

@[simp] theorem State.putFlag_core (i : Fin 8) (f : SyncFlag) : (s.putFlag i f).core = s.core := rfl

@[simp] theorem State.raiseNotice_core (k : NoticeKind) : (s.raiseNotice k).core = s.core :=
  (mapPort_core ..).trans (mapPort_core ..)

@[simp] theorem State.raise_core (e : Event) : (s.raise e).core = s.core :=
  core_of_unsignalled (s.raise_unsignalled e)

@[simp] theorem State.setFlag_core (i : Fin 8) : (s.setFlag i).core = s.core := by
  unfold setFlag
  split
  · rfl
  · exact foldl_keeps _ State.core (fun u d => answer_core ..) _ _

@[simp] theorem State.count_core (f : StreamCounts → StreamCounts) : (s.count f).core = s.core := rfl

@[simp] theorem State.updatePause_core : s.updatePause.core = s.core := rfl

@[simp] theorem State.testArchiveMark_core : s.testArchiveMark.core = s.core := by
  unfold testArchiveMark
  (repeat' split)
  · exact raise_core ..
  · rfl
  · rfl

@[simp] theorem State.checkRead_core (h : Header) (i : Fin 8) (r : PinRange) (lbn offset length : Nat) :
    (s.checkRead h i r lbn offset length).core = s.core := by
  unfold checkRead
  dsimp only
  (repeat' split)
  · exact refuse_core ..
  · exact refuse_core ..
  · exact refuse_core ..
  · exact setProgress_core ..

@[simp] theorem State.takeWait_core (i : Fin 8) (w : ParkedWait) : (s.takeWait i w).core = s.core := by
  unfold takeWait parkWait
  (repeat' split) <;> simp

@[simp] theorem State.manageNotices_core (p : Port) (h : Header) (kind : RequestKind) (kinds : BitVec 16)
    (f : NoticeSet → NoticeUnit → NoticeUnit) : (s.manageNotices p h kind kinds f).core = s.core := by
  unfold manageNotices mapNotices
  split <;> simp

end

/-! ## What a command can do to the core -/

/-- The state when an item has joined the intake order. -/
def State.joined (s : State) (x : IntakeItem) : State :=
  s.mapLink fun l => { l with intake := l.intake ++ [x] }

/-- The invariant `P` is kept by each of the acts that commands do to the core; `K` is what may be assumed of the state before. -/
structure CoreKeeps (K P : State → Prop) : Prop where
  before {s t : State} : K s → t.core = s.core → K t
  after {s t : State} : P s → t.core = s.core → P t
  kept {s : State} : K s → P s
  start {s : State} : K s → s.control.capture = .idle ∨ s.control.capture = .stopped → s.mapActive = true → P s.startCapture
  stopAtOnce {s : State} : K s → ∀ close reason, P (s.stopAtOnce close reason)
  stopAtEnd {s : State} : K s → P s.stopAtEnd
  sealFilling {s : State} : K s → P s.sealFilling
  expires {s : State} : K s → K (s.mapAssembler fun a => { a with idleFlush := none })
  stage {s : State} : K s → ∀ q : Profile, q.critical < q.pressed → P (s.stage q)
  headMark {s : State} : K s → P s.testHeadMark
  takePin {s : State} {i : Fin 8} {first count : Nat} : K s → s.pins[i] = none →
    (s.pinRange first count).first < (s.pinRange first count).rangeEnd → P (s.takePin i (s.pinRange first count))
  dropPin {s : State} {i : Fin 8} : K s → P (s.dropPin i).reband
  groupNext {s : State} : K s → ∀ (g : Fin 16) (n : GroupPower), P (s.putGroup g { s.power.groups[g] with next := n })
  applyChanges {s : State} : K s → s.anyChanging = false → s.refusedGroup = none → P s.applyChanges
  putMap {s : State} {span : BitVec 8} {groups : List (BitVec 8)} {map : List (Fin 16)} : K s →
    s.control.capture = .unformed ∨ s.control.capture = .idle → groupMapParam span groups = some map → P (s.putMap map)
  reform {s : State} : K s → ¬ s.capturing → s.reformBlocked = false → P s.reform
  openContext {s : State} {c : Fin 4} : K s → s.drain.contexts[c] = none → ∀ w, P (s.putContext c (some w))
  closeOne {s : State} : K s → ∀ c, P (s.closeOne c)
  claim {s : State} {c : Fin 4} {w : Window} {b : Block} : K s → s.drain.contexts[c] = some w → (s.claims c).length < 8 →
    s.chosenBlock w = some b → P (s.claimBlock b.lbn c)
  park {s : State} {c : Fin 4} {w : Window} (tag : Byte) : K s → s.drain.contexts[c] = some w → (s.claims c).length < 8 →
    s.chosenBlock w = none → w.done s.archiveFront = false → s.control.capture ≠ .stopped → s.parkedTakeOf c = none →
    P (s.mapDrain fun d => { d with parkedTakes := d.parkedTakes ++ [{ ctx := c, tag := tag }] })
  confirm {s : State} {c : Fin 4} {n : Nat} {b : Block} : K s → s.claimedBlock c n = some b → ∀ loss, P (s.confirmBlock b loss)
  returnOne {s : State} {c : Fin 4} {n : Nat} {b : Block} : K s → s.claimedBlock c n = some b → P (s.returnOne b)
  resetPort {s : State} : K s → ∀ p, P (s.resetPort p)
  frameJoins {s : State} {f : Frame} : K s → f.wellSized → s.takingFrames = true → ∀ loss, P (s.joined (.frame f loss)).present
  markerJoins {s : State} : K s → s.takingFrames = true → ∀ loss, P (s.joined (.resyncMarker loss))
  orderlyHalt {s : State} : K s → s.capturing → s.control.orderlyHalt = false → P s.startOrderlyHalt
  reset (levels : ResetLevels) : P (resetWith levels)
  settleGroup {s : State} {g : Fin 16} {a b : GroupPower} {r : Nat} : K s → s.power.groups[g].state = .changing a b (.timing r) →
    P (s.settleGroup g a b)
  works {s : State} {f : Frame} {loss : Option LossRecord} {rest : List IntakeItem} : K s → s.store.inFlight.length < 3 →
    s.link.intake = .frame f loss :: rest → P (s.granted.beginAct.worked f loss s.assembler.stage).present
  withdrawn {s : State} : K s → (s.link.intake.head?.map IntakeItem.isFrame) ≠ some true → P s.granted
  haltMarker {s : State} {loss : Option LossRecord} {rest : List IntakeItem} : K s → s.link.intake = .haltMarker loss :: rest →
    P (((s.takeMarker.recordLoss loss none).closeSegment .halt).enterStopped .halt)
  resyncMarker {s : State} {loss : Option LossRecord} {rest : List IntakeItem} : K s → s.link.intake = .resyncMarker loss :: rest →
    P ((s.takeMarker.recordLoss loss none).closeInCourse .linkReset).present
  grantFetch {s : State} : K s → s.store.inFlight.length < 3 → ∀ r, P (s.grantFetch r)
  grantRead {s : State} : K s → s.store.inFlight.length < 3 → ∀ r, P (s.grantRead r)
  writeCompletes {s : State} {e : InFlight} {rest : List InFlight} {payload : List Byte} : K s → s.store.inFlight = e :: rest →
    e.op = .admissionWrite payload → P ((s.popInFlight.storePayload e.address payload).checkDrain e.group)
  readCompletes {s : State} {e : InFlight} {rest : List InFlight} : K s → s.store.inFlight = e :: rest → e.isRead = true →
    ∀ units kind clamped result, P (s.completeRead e units kind clamped result)

namespace CoreKeeps

variable {K P : State → Prop} (h : CoreKeeps K P) {f : State → State}
include h

/-- An act that leaves the core. -/
theorem same (hs : K s) (hcore : t.core = s.core) : P t :=
  h.after (h.kept hs) hcore

theorem act (hf : ∀ u, K u → P (f u)) (hs : K s) : P (s.act f) :=
  h.after (hf _ (h.before hs s.beginAct_core)) (State.endAct_core _)

theorem request {p : Port} {k : RequestKind} {hd : Header} {n : Nat} (hf : ∀ u, K u → P (f u)) (hs : K s) : P (s.request p k hd n f) := by
  have harrived : K (s.arrive p) := h.before hs (s.arrive_core p)
  unfold State.request
  refine h.after ?_ (State.endAct_core _)
  (repeat' split)
  · exact h.same harrived rfl
  · exact h.same harrived rfl
  · exact h.same harrived rfl
  · exact h.same harrived (by simp)
  · exact hf _ (h.before harrived (State.occupy_core ..))

/-- An act and the answer of its request. -/
theorem answered (hs : P s) {p : Port} {tag : Byte} {k : RequestKind} {st : Status} {r : Result} : P (s.answer p tag k st r) :=
  h.after hs (State.answer_core ..)

end CoreKeeps

end Sys2Proof.Machine

/-!
Every command does to the core one of the acts that `CoreKeeps` lists.
-/
namespace Sys2Proof.Machine

/-- A frame that passes its check has a payload of whole units (R30, R31). -/
theorem Frame.wellSized_of_parse {bytes : List Byte} {f : Frame} (hf : parseFrame bytes = some f) : f.wellSized := by
  unfold parseFrame at hf
  dsimp only at hf
  obtain ⟨⟨hlow, hhigh, hlength, -⟩, hframe⟩ := (Option.ite_none_right_eq_some ..).mp hf
  rw [← Option.some.inj hframe]
  simp only [Frame.wellSized, List.length_take, List.length_drop, hlength]
  split <;> omega

/-- A profile that passes validation has K below P (R102). -/
theorem validateProfile_thresholds {p : ProfileFields} {q : Profile} (hq : validateProfile p = some q) : q.critical < q.pressed := by
  obtain ⟨-, -, -, -, -, hpressed, hcritical, -⟩ := validateProfile_some hq
  have hok : profileNumbersOk p = true := by
    by_contra hbad
    rw [validateProfile_eq_none.mpr (.inl (by simpa using hbad))] at hq
    cases hq
  rw [hpressed, hcritical]
  unfold profileNumbersOk at hok
  simp_all

theorem State.grantChoice_room {s : State} {c : GrantClass} (hdue : s.grantChoice = some c) : s.store.inFlight.length < 3 := by
  by_contra hfull
  simp [grantChoice, hfull] at hdue

theorem State.freePin_free {s : State} {i : Fin 8} (hfree : s.freePin = some i) : s.pins[i] = none := by
  simpa using List.find?_some hfree

namespace CoreKeeps

variable {K P : State → Prop} {s : State} {p : Port} {hd : Header} (h : CoreKeeps K P)
include h

/-! ## Acts that come down to those of the list -/

theorem takeStop (mode : BitVec 8) (hs : K s) : P (s.takeStop hd mode) := by
  unfold State.takeStop
  split
  · exact h.same hs (State.refuse_core ..)
  · dsimp only
    split
    · refine h.answered ?_
      split
      · exact h.stopAtOnce hs _ _
      · exact h.stopAtEnd hs
    · exact h.same hs (State.refuse_core ..)

theorem takeFrom {c : Fin 4} {w : Window} (hw : s.drain.contexts[c] = some w) (wait : Bool) (hs : K s) : P (s.takeFrom hd c w wait) := by
  unfold State.takeFrom
  split
  · exact h.same hs (State.refuse_core ..)
  next hroom =>
    split
    next b hb =>
      split
      · exact h.answered (h.claim hs hw (not_le.mp hroom) hb)
      · exact h.same hs (State.refuse_core ..)
    next hb =>
      split
      · exact h.same hs (State.refuse_core ..)
      next hdone =>
        split
        · exact h.same hs (State.refuse_core ..)
        · split
          · exact h.same hs (State.refuse_core ..)
          next hstopped =>
            split
            · exact h.same hs (State.refuse_core ..)
            next hnone =>
              exact h.after (h.park hd.tag hs hw (not_le.mp hroom) hb (by simpa using hdone) hstopped (by simpa using hnone))
                (State.setProgress_core ..)

/-- A frame joins intake, or the core stays as it is. -/
theorem offerFrame {f : Frame} (hsized : f.wellSized) (gap : Nat) (hs : K s) : P (s.offerFrame f gap) := by
  unfold State.offerFrame
  split
  · exact h.same hs rfl
  next htaking =>
    split
    · have hjoined := h.frameJoins hs hsized (by simpa using htaking) (addGapLoss s.link.pendingLoss gap)
      exact h.after hjoined rfl
    · exact h.same hs rfl

theorem sequenceTest {f : Frame} (hsized : f.wellSized) (hs : K s) : P (s.sequenceTest f) := by
  unfold State.sequenceTest
  split
  · exact h.offerFrame hsized 0 (h.before hs rfl)
  next expected _ =>
    dsimp only
    split
    · exact h.offerFrame hsized 0 (h.before hs rfl)
    · split
      · have hcounted (c : StreamCounts → StreamCounts) : K (((s.count c).raiseNotice .linkFault).expectAfter f) :=
          h.before hs (State.raiseNotice_core (s.count c) .linkFault)
        exact h.offerFrame hsized _ (hcounted _)
      · exact h.same hs (State.raiseNotice_core ..)

theorem receive (bytes : List Byte) (hs : K s) : P (s.receive bytes) := by
  unfold State.receive
  dsimp only
  split
  next f hf => exact h.sequenceTest (Frame.wellSized_of_parse hf) (h.before hs rfl)
  · exact h.same hs (State.raiseNotice_core ..)

theorem resync (hs : K s) : P s.resync := by
  unfold State.resync
  dsimp only
  generalize hu : State.mapLink (State.raiseNotice (s.count _) .linkFault) _ = u
  have hcore : u.core = s.core := by
    rw [← hu]
    exact State.raiseNotice_core (s.count fun c => { c with linkResyncs := c.linkResyncs + 1 }) .linkFault
  have hK := h.before hs hcore
  split
  next htaking =>
    unfold State.placeResync
    split
    · exact h.same hK rfl
    · have hjoined := h.markerJoins hK htaking u.link.pendingLoss
      exact h.after hjoined rfl
  · exact h.kept hK

theorem takeHalt (hs : K s) : P s.takeHalt := by
  unfold State.takeHalt
  split
  next hcapture =>
    split
    · exact h.stopAtOnce hs _ _
    · split
      · exact h.kept hs
      next hno => exact h.orderlyHalt hs hcapture (by simpa using hno)
  · exact h.kept hs

theorem workFront (hdue : s.beginAct.grantChoice = some .admission) (hs : K s) : P s.beginAct.workFront := by
  by_cases hframe : (s.link.intake.head?.map IntakeItem.isFrame) = some true
  · cases hfront : s.link.intake with
    | nil => simp [hfront] at hframe
    | cons x rest =>
      cases x with
      | frame f loss =>
        have hwork : s.beginAct.workFront = (s.granted.beginAct.worked f loss s.assembler.stage).present := State.workFront_eq hfront
        rw [hwork]
        exact h.works hs (State.grantChoice_room (s := s.beginAct) hdue) hfront
      | resyncMarker => simp [hfront, IntakeItem.isFrame] at hframe
      | haltMarker => simp [hfront, IntakeItem.isFrame] at hframe
  · have hwork : s.beginAct.workFront = s.granted.beginAct := by
      unfold State.workFront
      dsimp only
      split
      next f loss rest hfront =>
        have hlink : s.link.intake = .frame f loss :: rest := hfront
        simp [hlink, IntakeItem.isFrame] at hframe
      · rfl
    rw [hwork]
    exact h.after (h.withdrawn hs hframe) rfl

end CoreKeeps

/-- Every command keeps what the acts on the core keep. -/
theorem CoreKeeps.exec {K P : State → Prop} (h : CoreKeeps K P) (c : Instr) {s : State} (hs : K s) : ∃ t, exec c s = .next t ∧ P t := by
  cases c with
  | start hd =>
    refine ⟨_, rfl, h.request (fun u hu => ?_) hs⟩
    split
    · exact h.same hu (State.refuse_core ..)
    next hstate =>
      split
      · exact h.same hu (State.refuse_core ..)
      next hactive =>
        refine h.answered (h.start hu ?_ (by simpa using hactive))
        cases hc : u.control.capture <;> simp_all
  | stopAtSegmentEnd hd mode | stopNow hd mode => exact ⟨_, rfl, h.request (fun u hu => h.takeStop mode hu) hs⟩
  | flush hd => exact ⟨_, rfl, h.request (fun u hu => h.answered (h.sealFilling hu)) hs⟩
  | stageProfile hd q =>
    refine ⟨_, rfl, h.request (fun u hu => ?_) hs⟩
    split
    · exact h.same hu (State.refuse_core ..)
    next profile hvalid =>
      have hstaged : P (u.stage profile) := h.stage hu profile (validateProfile_thresholds hvalid)
      dsimp only
      split <;> exact h.answered hstaged
  | readProfile hd which | clearHeadMark hd | setArchiveMark hd lbn | clearArchiveMark hd | setFlagSource p hd source | post p hd
  | wait p hd mode timeout | clearFlag p hd | readIndex p hd first count | readStatus p hd | readCounts p hd
  | setNoticeMask p hd kinds | clearNotice p hd kinds | forceNotice p hd kinds | read hd lbn offset length | fetch hd lbn offset length =>
    refine ⟨_, rfl, h.request (fun u hu => h.same hu ?_) hs⟩
    (repeat' split) <;> simp <;> rfl
  | setHeadMark hd lbn action =>
    refine ⟨_, rfl, h.request (fun u hu => ?_) hs⟩
    split
    next n a _ _ =>
      have harmed : K (u.mapControl fun c => { c with headMark := some { lbn := n, action := a } }) := h.before hu rfl
      exact h.answered (h.headMark harmed)
    · exact h.same hu (State.refuse_core ..)
  | pin hd first count =>
    refine ⟨_, rfl, h.request (fun u hu => ?_) hs⟩
    split
    · exact h.same hu (State.refuse_core ..)
    · dsimp only
      split
      · exact h.same hu (State.refuse_core ..)
      · split
        · exact h.same hu (State.refuse_core ..)
        next i hfree =>
          split
          · exact h.same hu (State.refuse_core ..)
          · split
            · exact h.same hu (State.refuse_core ..)
            next hholds => exact h.answered (h.takePin hu (State.freePin_free hfree) (not_le.mp hholds))
  | unpin hd =>
    refine ⟨_, rfl, h.request (fun u hu => ?_) hs⟩
    split
    · exact h.same hu (State.refuse_core ..)
    · split
      · exact h.same hu (State.refuse_core ..)
      · exact h.answered (h.dropPin hu)
  | setGroupNext hd next =>
    refine ⟨_, rfl, h.request (fun u hu => ?_) hs⟩
    split
    · exact h.answered (h.groupNext hu _ _)
    · exact h.same hu (State.refuse_core ..)
  | applyGroups hd =>
    refine ⟨_, rfl, h.request (fun u hu => ?_) hs⟩
    split
    · exact h.same hu (State.answer_core ..)
    next hchanging =>
      split
      · exact h.same hu (State.answer_core ..)
      next hlegal => exact h.answered (h.applyChanges hu (by simpa using hchanging) hlegal)
  | setGroupMap hd span groups =>
    refine ⟨_, rfl, h.request (fun u hu => ?_) hs⟩
    split
    · exact h.same hu (State.refuse_core ..)
    next map hmap =>
      split
      next hcapture => exact h.answered (h.putMap hu hcapture hmap)
      · exact h.same hu (State.refuse_core ..)
  | reform hd =>
    refine ⟨_, rfl, h.request (fun u hu => ?_) hs⟩
    split
    · exact h.same hu (State.refuse_core ..)
    next hstate =>
      split
      · exact h.same hu (State.refuse_core ..)
      · refine h.answered (h.reform hu ?_ ?_)
        · rintro (hc | hc)
          · exact hstate (.inl hc)
          · exact hstate (.inr (.inl hc))
        · simpa using fun hblocked => hstate (.inr (.inr hblocked))
  | openContext hd first length =>
    refine ⟨_, rfl, h.request (fun u hu => ?_) hs⟩
    split
    · split
      · exact h.same hu (State.refuse_core ..)
      next hclosed => exact h.answered (h.openContext hu (by simpa [State.contextOpen] using hclosed) _)
    · exact h.same hu (State.refuse_core ..)
  | closeContext hd =>
    refine ⟨_, rfl, h.request (fun u hu => ?_) hs⟩
    split
    · exact h.same hu (State.refuse_core ..)
    · split
      · exact h.answered (h.closeOne hu _)
      · exact h.same hu (State.refuse_core ..)
  | take hd wait =>
    refine ⟨_, rfl, h.request (fun u hu => ?_) hs⟩
    split
    · split
      · exact h.same hu (State.refuse_core ..)
      next hw => exact h.takeFrom hw _ hu
    · exact h.same hu (State.refuse_core ..)
  | confirm hd lbn withLoss =>
    refine ⟨_, rfl, h.request (fun u hu => ?_) hs⟩
    split
    · split
      · exact h.same hu (State.refuse_core ..)
      next hclaimed => exact h.answered (h.confirm hu hclaimed _)
    · exact h.same hu (State.refuse_core ..)
  | returnBlock hd lbn =>
    refine ⟨_, rfl, h.request (fun u hu => ?_) hs⟩
    split
    · split
      · exact h.same hu (State.refuse_core ..)
      next hclaimed => exact h.answered (h.returnOne hu hclaimed)
    · exact h.same hu (State.refuse_core ..)
  | resetPort p hd =>
    refine ⟨_, rfl, h.after ?_ (State.endAct_core _)⟩
    have harrived : K (s.arrive p) := h.before hs (s.arrive_core p)
    (repeat' split)
    · exact h.same harrived rfl
    · exact h.same harrived rfl
    · exact h.after (h.resetPort harrived p) (State.reject_core ..)
  | unsupportedKind p kind hd =>
    refine ⟨_, rfl, h.same hs ?_⟩
    (repeat' split) <;> simp
  | portLinkDown p cameUp =>
    refine ⟨_, rfl, h.act (fun u hu => ?_) hs⟩
    split
    · exact h.after (h.resetPort hu p) (State.mapPort_core ..)
    · exact h.kept hu
  | frameArrival bytes => exact ⟨_, rfl, h.act (fun u hu => h.receive bytes hu) hs⟩
  | resyncMarker => exact ⟨_, rfl, h.act (fun u hu => h.resync (h.before hu rfl)) hs⟩
  | linkLockLoss relocked =>
    refine ⟨_, rfl, h.act (fun u hu => ?_) hs⟩
    split
    · exact h.resync (h.before hu rfl)
    · exact h.kept hu
  | haltAssertion =>
    refine ⟨_, rfl, h.act (fun u hu => ?_) hs⟩
    split
    · exact h.kept hu
    · exact h.takeHalt (h.before hu rfl)
  | haltRelease => exact ⟨_, rfl, h.act (fun u hu => h.same hu rfl) hs⟩
  | deviceReset levels => exact ⟨_, rfl, h.after (h.reset levels) rfl⟩
  | idleFlushExpiry =>
    refine ⟨_, rfl, h.act (fun u hu => ?_) hs⟩
    split
    · exact h.sealFilling (h.expires hu)
    · exact h.kept hu
  | waitTimeout i p tag =>
    refine ⟨_, rfl, h.act (fun u hu => h.same hu ?_) hs⟩
    (repeat' split) <;> simp
  | groupSettle g =>
    refine ⟨_, rfl, h.act (fun u hu => ?_) hs⟩
    split
    next hg => exact h.settleGroup hu hg
    · exact h.kept hu
    · exact h.kept hu
  | admissionGrant =>
    refine ⟨_, rfl, h.after ?_ (State.endAct_core _)⟩
    change P (if s.beginAct.grantChoice = some .admission then s.beginAct.workFront else s.beginAct)
    split
    next hdue => exact h.workFront hdue hs
    · exact h.same hs rfl
  | fetchGrant =>
    refine ⟨_, rfl, h.act (fun u hu => ?_) hs⟩
    split
    next r rest hdue _ =>
      exact h.grantFetch (s := u.mapStore fun t => { t with archiveQueue := rest, turn := .viewer }) (h.before hu rfl)
        (State.grantChoice_room (s := u) hdue) r
    · exact h.kept hu
  | readGrant =>
    refine ⟨_, rfl, h.act (fun u hu => ?_) hs⟩
    split
    next r rest hdue _ =>
      exact h.grantRead (s := u.mapStore fun t => { t with viewerQueue := rest, turn := .archive }) (h.before hu rfl)
        (State.grantChoice_room (s := u) hdue) r
    · exact h.kept hu
  | haltMarkerWorked =>
    refine ⟨_, rfl, h.act (fun u hu => ?_) hs⟩
    split
    next hfront => exact h.haltMarker hu hfront
    · exact h.kept hu
  | resyncMarkerWorked =>
    refine ⟨_, rfl, h.act (fun u hu => ?_) hs⟩
    split
    next hfront => exact h.resyncMarker hu hfront
    · exact h.kept hu
  | admissionWriteCompletion =>
    refine ⟨_, rfl, h.act (fun u hu => ?_) hs⟩
    split
    next hfirst =>
      split
      next hop => exact h.writeCompletes hu hfirst hop
      · exact h.kept hu
      · exact h.kept hu
    · exact h.kept hu
  | fetchCompletion units | readCompletion units =>
    refine ⟨_, rfl, h.act (fun u hu => ?_) hs⟩
    split
    next hfirst =>
      split
      next hop => exact h.readCompletes hu hfirst (by simp [InFlight.isRead, hop]) ..
      · exact h.kept hu
      · exact h.kept hu
    · exact h.kept hu

end Sys2Proof.Machine

/-!
The ring and the Block Assembler in form (O53), but for the two clauses of `AssemblyForm` that Capture Control's own steps keep: what the
shared acts keep of them.
-/
namespace Sys2Proof.Machine

variable {s t u : State} {f : Frame}

/-! ## The forms, and what decides them -/

/-- `AssemblyForm` without its clauses on Stopping and on the halt marker (R39, R48, R54, R55, R59). -/
structure Assembling (s : State) : Prop where
  idle : ¬ s.capturing → s.link.intake = [] ∧ s.openEntry = none
  filling : s.fillingBlock.isSome = true → s.openEntry.isSome = true
  timer : s.assembler.idleFlush.isSome = true → s.openEntry.isSome = true
  continuation : s.assembler.continuation.isSome = true → s.openEntry = none
  sized : ∀ x ∈ s.link.intake, x.wellSized
  front : s.assembler.stage.isSome = true → (s.link.intake.head?.map IntakeItem.isFrame) = some true
  next : s.assembler.stage = some .nextBlock → s.openEntry.isSome = true ∧ s.fillingBlock = none
  opening : s.assembler.stage = some .makeRoom ∨ s.assembler.stage = some .openBlock → s.openEntry = none

/-- The ring and the Block Assembler in form. -/
structure Formed (s : State) : Prop where
  ring : RingForm s
  assembling : Assembling s

theorem AssemblyForm.assembling (h : AssemblyForm s) : Assembling s := by
  obtain ⟨idle, -, filling, timer, continuation, sized, front, next, opening, -⟩ := h
  exact ⟨idle, filling, timer, continuation, sized, front, next, opening⟩

theorem Option.eq_none_congr {α β : Type} {x : Option α} {y : Option β} (h : x.isSome = y.isSome) : x = none ↔ y = none := by
  cases x <;> cases y <;> simp_all

/-- The Block Assembler's form is decided by these parts. -/
theorem Assembling.congr (h : Assembling s) (hcapture : t.control.capture = s.control.capture) (hintake : t.link.intake = s.link.intake)
    (hopen : t.openEntry.isSome = s.openEntry.isSome) (hfilling : t.fillingBlock.isSome = true → s.fillingBlock.isSome = true)
    (htimer : t.assembler.idleFlush.isSome = s.assembler.idleFlush.isSome)
    (hcontinuation : t.assembler.continuation.isSome = s.assembler.continuation.isSome) (hstage : t.assembler.stage = s.assembler.stage) :
    Assembling t := by
  obtain ⟨idle, filling, timer, continuation, sized, front, next, opening⟩ := h
  have hnone := Option.eq_none_congr hopen
  have hcapturing : t.capturing ↔ s.capturing := by simp only [State.capturing, hcapture]
  refine ⟨?_, ?_, ?_, ?_, ?_, ?_, ?_, ?_⟩
  · rwa [hcapturing, hintake, hnone]
  · rw [hopen]
    exact filling ∘ hfilling
  · rwa [htimer, hopen]
  · rwa [hcontinuation, hnone]
  · rwa [hintake]
  · rwa [hstage, hintake]
  · rw [hstage, hopen]
    refine fun hnext => ⟨(next hnext).1, ?_⟩
    by_contra hsome
    simp [(next hnext).2, Option.isSome_iff_ne_none.mpr hsome] at hfilling
  · rwa [hstage, hnone]

/-- The ring keeps its form where blocks keep LBN and fill, and none begins to fill. -/
theorem RingForm.map (h : RingForm s) {g : Block → Block} (hblocks : t.ring.blocks = s.ring.blocks.map g)
    (hlbn : ∀ b, (g b).lbn = b.lbn) (hfill : ∀ b, (g b).fillBytes = b.fillBytes)
    (hstate : ∀ b ∈ s.ring.blocks, (g b).state = .filling → b.state = .filling) (hhead : t.ring.head = s.ring.head)
    (htail : t.ring.tail = s.ring.tail) (hmap : t.power.groupMap = s.power.groupMap)
    (hcapture : t.control.capture = s.control.capture ∨ t.control.capture ≠ .unformed ∧ t.control.capture ≠ .idle) : RingForm t := by
  obtain ⟨hspan, hnodup, hle, hfits, hlast, hlbns, hfilling, hsized, hempty⟩ := h
  have hcapacity : t.capacity = s.capacity := by simp only [State.capacity, hmap]
  refine ⟨hmap ▸ hspan, hmap ▸ hnodup, ?_, ?_, ?_, ?_, fun b hb hf => ?_, fun b hb => ?_, fun hc => ?_⟩
  · rwa [hhead, htail]
  · rwa [hhead, htail, hcapacity]
  · rwa [hhead]
  · rw [hblocks, List.map_map, hhead, htail, ← hlbns]
    exact List.map_congr_left fun b _ => hlbn b
  · rw [hblocks] at hb
    obtain ⟨x, hx, rfl⟩ := List.mem_map.mp hb
    rw [hlbn, hhead]
    exact hfilling x hx (hstate x hx hf)
  · rw [hblocks] at hb
    obtain ⟨x, hx, rfl⟩ := List.mem_map.mp hb
    rw [hfill]
    exact hsized x hx
  · rw [hhead, htail]
    obtain hsame | ⟨hno, hno'⟩ := hcapture
    · exact hempty (hsame ▸ hc)
    · exact absurd hc (by simp [hno, hno'])

theorem RingForm.congr (h : RingForm s) (hblocks : t.ring.blocks = s.ring.blocks) (hhead : t.ring.head = s.ring.head)
    (htail : t.ring.tail = s.ring.tail) (hmap : t.power.groupMap = s.power.groupMap)
    (hcapture : t.control.capture = s.control.capture ∨ t.control.capture ≠ .unformed ∧ t.control.capture ≠ .idle) : RingForm t :=
  h.map (g := id) (by simpa using hblocks) (fun _ => rfl) (fun _ => rfl) (fun _ _ => id) hhead htail hmap hcapture

theorem State.fillingBlock_map {g : Block → Block} (hblocks : t.ring.blocks = s.ring.blocks.map g)
    (hstate : ∀ b ∈ s.ring.blocks, (g b).state = .filling → b.state = .filling) (hsome : t.fillingBlock.isSome = true) :
    s.fillingBlock.isSome = true := by
  rw [fillingBlock, List.find?_isSome, hblocks] at hsome
  obtain ⟨b, hb, hf⟩ := hsome
  obtain ⟨x, hx, rfl⟩ := List.mem_map.mp hb
  rw [fillingBlock, List.find?_isSome]
  exact ⟨x, hx, by simpa using hstate x hx (by simpa using hf)⟩

theorem Formed.map (h : Formed s) {g : Block → Block} (hblocks : t.ring.blocks = s.ring.blocks.map g)
    (hlbn : ∀ b, (g b).lbn = b.lbn) (hfill : ∀ b, (g b).fillBytes = b.fillBytes)
    (hstate : ∀ b ∈ s.ring.blocks, (g b).state = .filling → b.state = .filling) (hhead : t.ring.head = s.ring.head)
    (htail : t.ring.tail = s.ring.tail) (hmap : t.power.groupMap = s.power.groupMap) (hcapture : t.control.capture = s.control.capture)
    (hintake : t.link.intake = s.link.intake) (hopen : t.openEntry.isSome = s.openEntry.isSome)
    (htimer : t.assembler.idleFlush.isSome = s.assembler.idleFlush.isSome)
    (hcontinuation : t.assembler.continuation.isSome = s.assembler.continuation.isSome) (hstage : t.assembler.stage = s.assembler.stage) :
    Formed t where
  ring := h.ring.map hblocks hlbn hfill hstate hhead htail hmap (.inl hcapture)
  assembling := h.assembling.congr hcapture hintake hopen (State.fillingBlock_map hblocks hstate) htimer hcontinuation hstage

theorem Formed.congr (h : Formed s) (hblocks : t.ring.blocks = s.ring.blocks) (hhead : t.ring.head = s.ring.head)
    (htail : t.ring.tail = s.ring.tail) (hmap : t.power.groupMap = s.power.groupMap) (hcapture : t.control.capture = s.control.capture)
    (hintake : t.link.intake = s.link.intake) (hopen : t.openEntry.isSome = s.openEntry.isSome)
    (htimer : t.assembler.idleFlush.isSome = s.assembler.idleFlush.isSome)
    (hcontinuation : t.assembler.continuation.isSome = s.assembler.continuation.isSome) (hstage : t.assembler.stage = s.assembler.stage) :
    Formed t :=
  h.map (g := id) (by simpa using hblocks) (fun _ => rfl) (fun _ => rfl) (fun _ _ => id) hhead htail hmap hcapture hintake hopen htimer
    hcontinuation hstage

theorem Assembling.core_iff (s : State) : Assembling s.core ↔ Assembling s := by
  constructor <;> exact fun ⟨idle, filling, timer, continuation, sized, front, next, opening⟩ =>
    ⟨idle, filling, timer, continuation, sized, front, next, opening⟩

theorem Formed.of_core (h : Formed s) (hcore : t.core = s.core) : Formed t := by
  have hring : RingForm s.core := h.ring
  have hassembling := (Assembling.core_iff s).mpr h.assembling
  rw [← hcore] at hring hassembling
  exact ⟨hring, (Assembling.core_iff t).mp hassembling⟩

/-- A test of the Head Mark leaves the core, or its mark stops capture (R108). -/
theorem State.testHeadMark_cases (s : State) :
    s.testHeadMark.core = s.core
      ∨ (∃ u : State, u.core = s.core ∧ u.openEntry.isSome = true ∧ u.control.capture = .running
          ∧ s.testHeadMark = u.mapControl fun c => { c with capture := .stopping, stoppingReason := some .headMark })
      ∨ ∃ u : State, u.core = s.core ∧ u.openEntry = none ∧ u.control.capture = .running ∧ s.testHeadMark = u.enterStopped .headMark := by
  unfold testHeadMark
  split
  · exact .inl rfl
  next m _ =>
    split
    · have hcore : ((s.mapControl fun c => { c with headMark := none }).raise .headMark).core = s.core :=
        raise_core (s.mapControl fun c => { c with headMark := none }) .headMark
      dsimp only
      generalize (s.mapControl fun c => { c with headMark := none }).raise .headMark = u at hcore
      split
      next hstop =>
        split
        next hopen => exact .inr (.inl ⟨u, hcore, hopen, hstop.2, rfl⟩)
        next hopen => exact .inr (.inr ⟨u, hcore, by simpa using hopen, hstop.2, rfl⟩)
      · exact .inl hcore
    · exact .inl rfl

/-! ## The shared acts -/

namespace Formed

theorem fillingBlock_none (h : Formed s) (hopen : s.openEntry = none) : s.fillingBlock = none := by
  by_contra hsome
  have := h.assembling.filling (Option.isSome_iff_ne_none.mpr hsome)
  simp [hopen] at this

theorem capturing_of_open (h : Formed s) (hopen : s.openEntry.isSome = true) : s.capturing := by
  by_contra hno
  simp [(h.assembling.idle hno).2] at hopen

theorem recordGap (h : Formed s) (lost : Nat) (cause : GapCause) (mixed : Bool) : Formed (s.recordGap lost cause mixed) :=
  h.congr (by simp) (by simp) (by simp) (by simp) (by simp) (by simp) (s.openEntry_recordGap ..) (by simp) (by simp) (by simp)

theorem recordLoss (h : Formed s) (loss : Option LossRecord) (stamp : Option Tick) : Formed (s.recordLoss loss stamp) :=
  h.congr (by simp) (by simp) (by simp) (by simp) (by simp) (by simp) (s.openEntry_recordLoss ..) (by simp) (by simp) (by simp)

theorem tableForm (h : Formed s) : TableForm s :=
  .of_ringForm h.ring

theorem sealFilling (h : Formed s) : Formed s.sealFilling := by
  have hring := ring_of_unsignalled (Becomes.sealFilling s).2
  rw [State.afterSeal_ring] at hring
  cases hb : s.fillingBlock with
  | none =>
    rw [State.sealFilling, hb]
    exact h
  | some b =>
    rw [State.sealedBlocks, hb] at hring
    refine h.map (congrArg Ring.blocks hring) (fun x => ?_) (fun x => ?_) (fun x _ hf => ?_) (by simp) (by simp) (by simp) (by simp) (by simp)
      (by simp [State.openEntry]) (by simp) (by simp) (by simp)
    · split <;> rfl
    · split <;> rfl
    · by_cases hlbn : x.lbn = b.lbn
      · rw [if_pos hlbn] at hf
        exact absurd hf (sealState_ne_filling _ _)
      · simpa [hlbn] using hf

/-- A close leaves the ring, the Drain Engine and the rest of the block as the seal of the Filling block does. -/
theorem closeSegment_ring (h : Formed s) (reason : CloseReason) : (s.closeSegment reason).ring = s.sealFilling.ring := by
  cases he : s.openEntry with
  | none =>
    rw [State.closeSegment_of_none he, State.sealFilling, h.fillingBlock_none he]
  | some e =>
    rw [State.closeSegment, he]
    simp

theorem closeSegment_drain (h : Formed s) (reason : CloseReason) : (s.closeSegment reason).drain = s.sealFilling.drain := by
  cases he : s.openEntry with
  | none =>
    rw [State.closeSegment_of_none he, State.sealFilling, h.fillingBlock_none he]
  | some e =>
    rw [State.closeSegment, he]
    simp

theorem closeSegment_idleFlush (h : Formed s) (reason : CloseReason) : (s.closeSegment reason).assembler.idleFlush = none := by
  cases he : s.openEntry with
  | none =>
    rw [State.closeSegment_of_none he]
    by_contra hsome
    have := h.assembling.timer (Option.isSome_iff_ne_none.mpr hsome)
    simp [he] at this
  | some e =>
    rw [State.closeSegment, he]
    simp [State.clearTimers]

theorem closeSegment (h : Formed s) (hstage : s.assembler.stage = none) (reason : CloseReason) : Formed (s.closeSegment reason) := by
  have hnone := s.closeSegment_openEntry reason
  have hring := h.closeSegment_ring reason
  have hfilling : (s.closeSegment reason).fillingBlock = none := by
    rw [State.fillingBlock, hring]
    exact State.sealFilling_fillingBlock h.tableForm
  have hcapturing : (s.closeSegment reason).capturing ↔ s.capturing := by simp [State.capturing]
  refine ⟨h.sealFilling.ring.congr (by rw [hring]) (by simp) (by simp) (by simp) (.inl (by simp)), ?_⟩
  refine ⟨fun hno => ?_, by simp [hfilling], by simp [h.closeSegment_idleFlush], fun _ => hnone, ?_, by simp [hstage], by simp [hstage],
    by simp [hstage]⟩
  · rw [State.closeSegment_link_intake]
    exact ⟨(h.assembling.idle (hcapturing.not.mp hno)).1, hnone⟩
  · rw [State.closeSegment_link_intake]
    exact h.assembling.sized

/-- Capture enters Stopped with no segment open. -/
theorem enterStopped (h : Formed s) (hopen : s.openEntry = none) (reason : StopReason) : Formed (s.enterStopped reason) := by
  have hentered := s.enterStopped_enteredStopped reason
  have hcapture : (s.enterStopped reason).control.capture = .stopped := by rw [hentered.control]
  have hintake : (s.enterStopped reason).link.intake = [] := by rw [hentered.link]
  have hnone : (s.enterStopped reason).openEntry = none := by simpa [State.openEntry] using hopen
  have hfilling : (s.enterStopped reason).fillingBlock = none := by
    have := h.fillingBlock_none hopen
    simpa [State.fillingBlock] using this
  have htimer : (s.enterStopped reason).assembler.idleFlush.isSome = true → s.openEntry.isSome = true := by
    rw [State.enterStopped_assembler_idleFlush]
    exact h.assembling.timer
  refine ⟨h.ring.congr (by simp) (by simp) (by simp) (by simp) (.inr (by simp [hcapture])), ?_⟩
  refine ⟨fun _ => ⟨hintake, hnone⟩, by simp [hfilling], fun hsome => ?_, fun _ => hnone, by simp [hintake], by simp [hentered.stage],
    by simp [hentered.stage], fun _ => hnone⟩
  have := htimer hsome
  simp [hopen] at this

theorem activate (h : Formed s) : Formed s.activate :=
  h.congr (by simp) (by simp) (by simp) (by simp) (by simp) (by simp) (by simp [State.openEntry]) (by simp) (by simp) (by simp)

theorem settleRing (h : Formed s) (before : Nat) : Formed (s.settleRing before) :=
  h.congr (by simp) (by simp) (by simp) (by simp) (by simp) (by simp) (by rw [s.settleRing_openEntry]) (by simp) (by simp) (by simp)

/-- In Stopping a segment is open. -/
theorem stopping (h : Formed s) (hopen : s.openEntry.isSome = true) (r : StoppingReason) :
    Formed (s.mapControl fun c => { c with capture := .stopping, stoppingReason := some r }) := by
  have hcapturing := h.capturing_of_open hopen
  obtain ⟨-, filling, timer, continuation, sized, front, next, opening⟩ := h.assembling
  exact ⟨h.ring.congr rfl rfl rfl rfl (.inr (by simp [State.mapControl])),
    fun hno => absurd (.inr rfl) hno, filling, timer, continuation, sized, front, next, opening⟩

theorem testHeadMark (h : Formed s) : Formed s.testHeadMark := by
  obtain hsame | ⟨u, hcore, hopen, -, hstop⟩ | ⟨u, hcore, hopen, -, hstop⟩ := s.testHeadMark_cases
  · exact h.of_core hsame
  · exact hstop ▸ (h.of_core hcore).stopping hopen _
  · exact hstop ▸ (h.of_core hcore).enterStopped hopen _

end Formed

end Sys2Proof.Machine

/-!
The ring and the Block Assembler in form through the working of a frame (O53).
-/
namespace Sys2Proof.Machine

variable {s t u : State} {f : Frame} {before : Nat} {b b' : Bool} {x x' : Fate}

/-- The form while a frame is worked: nothing waits before the frame does, and a frame not yet disposed of stands at the front while capture runs. -/
structure WorkForm (f : Frame) (x : Fate) (s : State) : Prop extends Formed s where
  unstaged : x ≠ .waiting → s.assembler.stage = none
  pending : x = .pending → s.capturing ∧ ∃ loss rest, s.link.intake = .frame f loss :: rest

namespace WorkForm

theorem wellSized (h : WorkForm f .pending s) : f.wellSized := by
  obtain ⟨-, loss, rest, hfront⟩ := h.pending rfl
  exact h.assembling.sized (.frame f loss) (by rw [hfront]; exact List.mem_cons_self ..)

/-- An act that reaches neither the working nor capture. -/
theorem step (h : WorkForm f x s) (hformed : Formed t) (hgoes : x' = .pending → x = .pending) (hwaits : x' ≠ .waiting → x ≠ .waiting)
    (hcapture : x = .pending → t.control.capture = s.control.capture) (hintake : x = .pending → t.link.intake = s.link.intake)
    (hstage : t.assembler.stage = s.assembler.stage) : WorkForm f x' t where
  toFormed := hformed
  unstaged hx := hstage.trans (h.unstaged (hwaits hx))
  pending hx := by
    have hcapturing := (h.pending (hgoes hx)).1
    rw [hintake (hgoes hx)]
    refine ⟨?_, (h.pending (hgoes hx)).2⟩
    simpa only [State.capturing, hcapture (hgoes hx)] using hcapturing

end WorkForm

/-! ## Blocks that leave and open -/

/-- The front frame leaves intake. -/
theorem Assembling.tail (h : Assembling s) (hcapture : t.control.capture = s.control.capture)
    (hintake : t.link.intake = s.link.intake.tail) (hopen : t.openEntry.isSome = s.openEntry.isSome)
    (hfilling : t.fillingBlock.isSome = true → t.openEntry.isSome = true)
    (htimer : t.assembler.idleFlush.isSome = s.assembler.idleFlush.isSome)
    (hcontinuation : t.assembler.continuation.isSome = true → t.openEntry = none) (hstage : t.assembler.stage = none) : Assembling t := by
  have hnone := Option.eq_none_congr hopen
  have hcapturing : t.capturing ↔ s.capturing := by simp only [State.capturing, hcapture]
  refine ⟨fun hno => ?_, hfilling, ?_, hcontinuation, ?_, by simp [hstage], by simp [hstage], by simp [hstage]⟩
  · obtain ⟨hempty, hclosed⟩ := h.idle (hcapturing.not.mp hno)
    rw [hintake, hempty]
    exact ⟨rfl, hnone.mpr hclosed⟩
  · rw [htimer, hopen]
    exact h.timer
  · rw [hintake]
    exact fun y hy => h.sized y (List.mem_of_mem_tail hy)

theorem Leaves.formed (h : Formed s) (hleaves : Leaves s t) (hfilling : s.fillingBlock = none) (hcapturing : s.capturing) : Formed t := by
  have hside : t.power = s.power ∧ t.control = s.control ∧ t.link.intake = s.link.intake ∧ t.assembler = s.assembler := by
    cases hleaves <;> simp
  obtain ⟨hpower, hcontrol, hintake, hassembler⟩ := hside
  have hopen : t.openEntry.isSome = s.openEntry.isSome := by
    obtain ⟨g, hg, -⟩ := hleaves.openEntry
    rw [hg, Option.isSome_map]
  have hnone : t.fillingBlock = none := hleaves.fillingBlock hfilling
  obtain ⟨-, hle, hfits, hlbns, hfills⟩ := hleaves.tableForm h.tableForm
  refine ⟨?_, h.assembling.congr (by rw [hcontrol]) hintake hopen (by simp [hnone]) (by rw [hassembler]) (by rw [hassembler]) (by rw [hassembler])⟩
  obtain ⟨hspan, hnodup, -, -, hlast, -, -, hsized, -⟩ := h.ring
  obtain ⟨-, -, -, hring, -⟩ := hleaves.ring_index
  refine ⟨hpower ▸ hspan, hpower ▸ hnodup, hle, hfits, hleaves.head.trans_le hlast, hlbns, hfills, fun y hy => ?_, fun hidle => ?_⟩
  · rw [hring] at hy
    exact hsized y (List.mem_of_mem_tail hy)
  · rw [hcontrol] at hidle
    obtain hc | hc := hcapturing <;> simp [hc] at hidle

/-- The record of the block that opens on LBN Head (R8). -/
def State.openedBlock (s : State) (segment : Nat) (required : Bool) (f : Frame) : Block where
  lbn := s.ring.head
  state := .filling
  fillBytes := f.payload.length
  segment := segment
  archiveRequired := required
  pinCount := 0
  readsInFlight := 0
  damaged := false

/-- A block opens on LBN Head with the payload of a frame (R8). -/
theorem RingForm.blockOpened (h : RingForm s) (hsized : f.wellSized) (hfilling : s.fillingBlock = none) (hlast : s.ring.head < lastLbn)
    (hroom : s.ring.head - s.ring.tail < s.capacity) (hcapturing : s.capturing) (segment : Nat) (required : Bool) :
    RingForm (s.blockOpened segment required f) := by
  obtain ⟨hspan, hnodup, hle, hfits, -, hlbns, hfills, hsizes, -⟩ := h
  have hblocks : (s.blockOpened segment required f).ring.blocks
      = s.ring.blocks ++ [s.openedBlock segment required f] := rfl
  have hcapacity : (s.blockOpened segment required f).capacity = s.capacity := rfl
  have hheld : s.ring.head + 1 - s.ring.tail = s.ring.head - s.ring.tail + 1 := by omega
  refine ⟨hspan, hnodup, Nat.le_succ_of_le hle, ?_, hlast, ?_, fun y hy hf => ?_, fun y hy => ?_, fun hidle => ?_⟩
  · change s.ring.head + 1 - s.ring.tail ≤ _
    omega
  · change _ = List.range' s.ring.tail (s.ring.head + 1 - s.ring.tail)
    rw [hblocks, List.map_append, hlbns, hheld, List.range'_concat]
    simp [State.openedBlock]
    omega
  · rw [hblocks] at hy
    obtain hold | hnew := List.mem_append.mp hy
    · exact absurd hf (by simpa using List.find?_eq_none.mp hfilling y hold)
    · cases List.mem_singleton.mp hnew
      rfl
  · rw [hblocks] at hy
    obtain hold | hnew := List.mem_append.mp hy
    · exact hsizes y hold
    · cases List.mem_singleton.mp hnew
      have : (8192 : Nat) ≤ blockBytes := by decide
      obtain ⟨hlow, hhigh, hunits⟩ := hsized
      exact ⟨hlow, hhigh.trans this, hunits⟩
  · change s.control.capture = _ ∨ s.control.capture = _ at hidle
    obtain hc | hc := hcapturing <;> simp [hc] at hidle

/-- What counting a placed frame leaves (R49). -/
theorem State.framePlaced_parts (s : State) (f : Frame) :
    (s.framePlaced f).ring = s.ring ∧ (s.framePlaced f).power = s.power ∧ (s.framePlaced f).control = s.control
      ∧ (s.framePlaced f).assembler = s.assembler ∧ (s.framePlaced f).link.intake = s.link.intake.tail :=
  ⟨rfl, rfl, rfl, rfl, rfl⟩

theorem WorkForm.segmentOpened (h : WorkForm f .pending s) (loss : Option LossRecord) (hfilling : s.fillingBlock = none)
    (hlast : s.ring.head < lastLbn) (hroom : s.ring.head - s.ring.tail < s.capacity) : WorkForm f .placed (s.segmentOpened f loss) := by
  have hcapturing := (h.pending rfl).1
  have hring : RingForm (s.segmentOpened f loss) :=
    (h.ring.blockOpened h.wellSized hfilling hlast hroom hcapturing s.assembler.nextSegment s.control.active.archiveRequired).congr rfl rfl rfl rfl
      (.inl rfl)
  have hopens := s.segmentOpened_openEntry f loss
  have hstage : (s.segmentOpened f loss).assembler.stage = none := h.unstaged (by simp)
  refine ⟨⟨hring, fun hno => absurd hcapturing hno, fun _ => hopens, fun _ => hopens, fun hc => (nomatch hc), ?_, by simp [hstage], by simp [hstage],
    by simp [hstage]⟩, fun _ => hstage, nofun⟩
  exact fun y hy => h.assembling.sized y (List.mem_of_mem_tail hy)

theorem WorkForm.nextBlockOpened (h : WorkForm f .pending s) (hopen : s.openEntry.isSome = true) (hfilling : s.fillingBlock = none)
    (hlast : s.ring.head < lastLbn) (hroom : s.ring.head - s.ring.tail < s.capacity) : WorkForm f .placed (s.nextBlockOpened f) := by
  have hopens := State.nextBlockOpened_openEntry hopen f
  obtain ⟨e, he⟩ := Option.isSome_iff_exists.mp hopen
  have hcapturing := (h.pending rfl).1
  have hring : RingForm (s.nextBlockOpened f) := by
    rw [State.nextBlockOpened, he]
    exact (h.ring.blockOpened h.wellSized hfilling hlast hroom hcapturing e.number e.archiveRequired).congr rfl rfl rfl rfl (.inl rfl)
  have hparts : (s.nextBlockOpened f).assembler = s.assembler ∧ (s.nextBlockOpened f).control = s.control
      ∧ (s.nextBlockOpened f).link.intake = s.link.intake.tail := by
    rw [State.nextBlockOpened, he]
    exact ⟨rfl, rfl, rfl⟩
  obtain ⟨hassembler, hcontrol, hintake⟩ := hparts
  have hstage : (s.nextBlockOpened f).assembler.stage = none := by
    rw [hassembler]
    exact h.unstaged (by simp)
  refine ⟨⟨hring, h.assembling.tail (by rw [hcontrol]) hintake (by rw [hopens, hopen]) (fun _ => hopens) (by rw [hassembler]) ?_ hstage⟩,
    fun _ => hstage, nofun⟩
  rw [hassembler]
  intro hc
  simp [h.assembling.continuation hc] at hopen

theorem WorkForm.payloadAppended (h : WorkForm f .pending s) {b : Block} (hopen : s.openEntry.isSome = true) (hfilling : s.fillingBlock = some b)
    (hfits : b.fillBytes + f.payload.length ≤ blockBytes) : WorkForm f .placed (s.payloadAppended b f) := by
  have hopens := (s.payloadAppended_openEntry b f).trans hopen
  have hstage : (s.payloadAppended b f).assembler.stage = none := h.unstaged (by simp)
  obtain ⟨-, -, -, -, hfills⟩ := h.tableForm.payloadAppended b f
  obtain ⟨hspan, hnodup, hle, hfits', hlast, hlbns, -, hsizes, hempty⟩ := h.ring
  have hblocks : (s.payloadAppended b f).ring.blocks
      = s.ring.blocks.map fun y => if y.lbn = b.lbn then { y with fillBytes := y.fillBytes + f.payload.length } else y := rfl
  have hdistinct := h.tableForm.distinct
  refine ⟨⟨⟨hspan, hnodup, hle, hfits', hlast, (h.tableForm.payloadAppended b f).lbns, hfills, fun y hy => ?_, hempty⟩, ?_⟩, fun _ => hstage, nofun⟩
  · rw [hblocks] at hy
    obtain ⟨z, hz, rfl⟩ := List.mem_map.mp hy
    split
    next hlbn =>
      have hsame : z = b := List.inj_on_of_nodup_map hdistinct hz (State.mem_of_fillingBlock hfilling).1 hlbn
      obtain ⟨hlow, -, hunits⟩ := hsizes z hz
      obtain ⟨-, -, hpayload⟩ := h.wellSized
      subst hsame
      dsimp only
      omega
    · exact hsizes z hz
  · refine h.assembling.tail rfl rfl (by rw [hopens, hopen]) (fun _ => hopens) rfl (fun hc => ?_) hstage
    have := h.assembling.continuation hc
    simp [this] at hopen

/-! ## The moves of a working -/

theorem Formed.dropFront (h : Formed s) (hstage : s.assembler.stage = none) : Formed s.dropFront := by
  refine ⟨h.ring.congr rfl rfl rfl rfl (.inl rfl), h.assembling.tail rfl rfl rfl h.assembling.filling rfl h.assembling.continuation hstage⟩

theorem Formed.dropContinuation (h : Formed s) : Formed s.dropContinuation := by
  obtain ⟨hring, idle, filling, timer, continuation, sized, front, next, opening⟩ := h
  exact ⟨hring.congr rfl rfl rfl rfl (.inl rfl), idle, filling, timer, fun hc => (nomatch hc), sized, front, next, opening⟩

theorem Formed.discardCarried (h : Formed s) : Formed s.discardCarried :=
  h.congr rfl rfl rfl rfl rfl rfl rfl rfl (by simp [State.discardCarried, State.mapAssembler]) rfl

theorem Formed.frameActedOn (h : Formed s) (hopen : s.openEntry.isSome = true) : Formed (s.frameActedOn f) := by
  have hopens := (s.frameActedOn_openEntry f).trans hopen
  obtain ⟨hring, idle, -, -, continuation, sized, front, next, opening⟩ := h
  refine ⟨hring.congr rfl rfl rfl rfl (.inl rfl), fun hno => ?_, fun _ => hopens, fun _ => hopens, fun hc => ?_, sized, front, fun hnext => ?_, fun hst => ?_⟩
  · have := (idle hno).2
    simp [this] at hopen
  · have := continuation hc
    simp [this] at hopen
  · exact ⟨hopens, (next hnext).2⟩
  · have := opening hst
    simp [this] at hopen

theorem State.testHeadMark_stage (hstage : s.assembler.stage = none) : s.testHeadMark.assembler.stage = none := by
  obtain hsame | ⟨u, hcore, -, -, hstop⟩ | ⟨u, -, -, -, hstop⟩ := s.testHeadMark_cases
  · exact (congrArg (fun u : State => u.assembler.stage) hsame).trans hstage
  · rw [hstop]
    exact (congrArg (fun u : State => u.assembler.stage) hcore).trans hstage
  · rw [hstop]
    exact (u.enterStopped_enteredStopped _).stage

theorem WorkMove.form (h : WorkForm f x s) (hm : WorkMove before f b x s b' x' t) : WorkForm f x' t := by
  cases hm with
  | recordLoss loss => exact h.step (h.toFormed.recordLoss ..) id id (by simp) (by simp) (by simp)
  | sealed => exact h.step h.toFormed.sealFilling id id (by simp) (by simp) (by simp)
  | close hx reason =>
    have hstage := h.unstaged (by rintro rfl; simp [Fate.goesOn] at hx)
    exact h.step (h.toFormed.closeSegment hstage reason) id id (by simp) (by simp) (by simp)
  | stop hx reason _ hopen =>
    exact ⟨h.toFormed.enterStopped hopen reason, fun _ => (s.enterStopped_enteredStopped reason).stage, fun hp => by cases ‹Fate› <;> simp [Fate.stopped] at hp⟩
  | swap => exact h.step h.toFormed.activate id id (by simp) (by simp) (by simp)
  | discardCarried => exact h.step h.toFormed.discardCarried id id (fun _ => rfl) (fun _ => rfl) rfl
  | stale => exact h
  | leaves hleaves hfilling =>
    refine h.step (hleaves.formed h.toFormed hfilling (h.pending rfl).1) id id ?_ ?_ ?_ <;> cases hleaves <;> simp
  | settle => exact h.step (h.toFormed.settleRing before) id id (by simp) (by simp) (by simp)
  | openSegment loss _ hfilling hlast hroom => exact h.segmentOpened loss hfilling hlast hroom
  | openNext hopen hfilling hlast hroom => exact h.nextBlockOpened hopen hfilling hlast hroom
  | append b hopen hfilling _ hfits => exact h.payloadAppended hopen hfilling hfits
  | headMark => exact ⟨h.toFormed.testHeadMark, fun _ => State.testHeadMark_stage (h.unstaged (by simp)), nofun⟩
  | actOn hopen => exact ⟨h.toFormed.frameActedOn hopen, h.unstaged, nofun⟩
  | drop => exact ⟨h.toFormed.dropFront (h.unstaged (by simp)), fun _ => h.unstaged (by simp), nofun⟩
  | notice k => exact h.step (h.toFormed.of_core (s.raiseNotice_core k)) id id (by simp) (by simp) (by simp)
  | gap lost cause => exact h.step (h.toFormed.recordGap ..) id id (by simp) (by simp) (by simp)
  | dropContinuation => exact h.step h.toFormed.dropContinuation id id (fun _ => rfl) (fun _ => rfl) rfl
  | wait stage htail hnext hopening =>
    obtain ⟨hcapturing, loss, rest, hfront⟩ := h.pending rfl
    obtain ⟨⟨hring, idle, filling, timer, continuation, sized, -, -, -⟩, -, -⟩ := h
    refine ⟨⟨hring.congr rfl rfl rfl rfl (.inl rfl), idle, filling, timer, continuation, sized, fun _ => ?_, fun hst => hnext ?_, fun hst => hopening ?_⟩,
      nofun, nofun⟩
    · change s.link.intake.head?.map _ = _
      rw [hfront]
      rfl
    · exact Option.some.inj hst
    · obtain hst | hst := hst <;> cases Option.some.inj hst <;> simp

theorem Working.form (hw : Working before f b x s b' x' t) (h : WorkForm f x s) : WorkForm f x' t :=
  hw.keeps (K := fun _ x u => WorkForm f x u) (fun hs hm => hm.form hs) h

/-- A grant begins with its frame at the front and no wait. -/
theorem WorkForm.granted {loss : Option LossRecord} {rest : List IntakeItem} (hr : RingForm s) (ha : AssemblyForm s)
    (hfront : s.link.intake = .frame f loss :: rest) : WorkForm f .pending s.granted.beginAct := by
  have hcapturing : s.capturing := by
    by_contra hno
    simp [(ha.assembling.idle hno).1] at hfront
  obtain ⟨idle, filling, timer, continuation, sized, -, -, -⟩ := ha.assembling
  exact ⟨⟨hr.congr rfl rfl rfl rfl (.inl rfl), idle, filling, timer, continuation, sized, fun h => (nomatch h), fun h => (nomatch h),
    fun h => by obtain h | h := h <;> cases h⟩, fun _ => rfl, fun _ => ⟨hcapturing, loss, rest, hfront⟩⟩

theorem Formed.present (h : Formed s) : Formed s.present :=
  h.congr rfl rfl rfl rfl rfl rfl rfl rfl rfl rfl

end Sys2Proof.Machine

/-!
The acts of the Store Channel and of the Group Power Controller, by the little they reach of the rest of the block: counts of reads, marks of damage, the
store and the groups' states.
-/
namespace Sys2Proof.Machine

variable {s t u : State}

/-- A block but for its count of reads and its mark of damage. -/
def Block.steady (b : Block) : Block :=
  { b with readsInFlight := 0, damaged := false }

/-- The state with other blocks, entries, groups and another store. -/
def State.touch (s : State) (g : Block → Block) (e : Entry → Entry) (groups : Vector Group 16) (store : Store) : State :=
  { s with ring := { s.ring with blocks := s.ring.blocks.map g }, index := s.index.map e, power := { s.power with groups := groups }, store := store }

/-- From `s` to `t` the core has changed in the blocks' counts of reads and marks of damage, in entries that stay Open or Closed, in the groups' records
and in the store alone. -/
def Touched (s t : State) : Prop :=
  ∃ g e groups store, (∀ b : Block, (g b).steady = b.steady) ∧ (∀ x : Entry, (e x).isOpen = x.isOpen) ∧ t.core = (s.touch g e groups store).core

namespace Touched

theorem of_core (h : t.core = s.core) : Touched s t := by
  refine ⟨id, id, s.power.groups, s.store, fun _ => rfl, fun _ => rfl, h.trans ?_⟩
  simp [State.touch]

theorem refl (s : State) : Touched s s :=
  of_core rfl

theorem trans (h : Touched s t) (h' : Touched t u) : Touched s u := by
  obtain ⟨g, e, groups, store, hg, he, hcore⟩ := h
  obtain ⟨g', e', groups', store', hg', he', hcore'⟩ := h'
  refine ⟨g' ∘ g, e' ∘ e, groups', store', fun b => (hg' _).trans (hg b), fun x => (he' _).trans (he x), hcore'.trans ?_⟩
  have htouch (v : State) : (v.touch g' e' groups' store').core = (v.core.touch g' e' groups' store').core := rfl
  rw [htouch, hcore, ← htouch]
  simp [State.touch]

theorem then_core (h : Touched s t) (hcore : u.core = t.core) : Touched s u :=
  h.trans (of_core hcore)

theorem mapStore (s : State) (f : Store → Store) : Touched s (s.mapStore f) := by
  refine ⟨id, id, s.power.groups, f s.store, fun _ => rfl, fun _ => rfl, ?_⟩
  simp [State.touch, State.mapStore]

theorem putGroup (s : State) (g : Fin 16) (r : Group) : Touched s (s.putGroup g r) := by
  refine ⟨id, id, s.power.groups.set g r, s.store, fun _ => rfl, fun _ => rfl, ?_⟩
  simp [State.touch, State.putGroup]

theorem mapBlock (s : State) (n : Nat) {g : Block → Block} (hg : ∀ b, (g b).steady = b.steady) : Touched s (s.mapBlock n g) := by
  refine ⟨fun b => if b.lbn = n then g b else b, id, s.power.groups, s.store, fun b => ?_, fun _ => rfl, ?_⟩
  · dsimp only
    split
    · exact hg b
    · rfl
  · simp [State.touch, State.mapBlock, State.mapRing]

theorem mapEntry (s : State) (n : Nat) {e : Entry → Entry} (he : ∀ x, (e x).isOpen = x.isOpen) : Touched s (s.mapEntry n e) := by
  refine ⟨id, fun x => if x.number = n then e x else x, s.power.groups, s.store, fun _ => rfl, fun x => ?_, ?_⟩
  · dsimp only
    split
    · exact he x
    · rfl
  · simp [State.touch, State.mapEntry]

/-! ## The bank groups (R168 to R172) -/

theorem settleGroup (s : State) (g : Fin 16) (a b : GroupPower) : Touched s (s.settleGroup g a b) := by
  unfold State.settleGroup
  dsimp only
  have hput := putGroup s g { s.power.groups[g] with state := .settled b }
  generalize s.putGroup g _ = u at hput
  have hlost : Touched s (if a = .off ∨ b = .off then u.loseContents g else u) := by
    split
    · exact hput.trans (mapStore u _)
    · exact hput
  generalize (if a = .off ∨ b = .off then u.loseContents g else u) = v at hlost
  split
  · exact hlost
  · exact hlost.then_core (State.raise_core ..)

theorem endDraining (s : State) (g : Fin 16) : Touched s (s.endDraining g) := by
  unfold State.endDraining
  split
  · split
    · exact settleGroup ..
    · exact putGroup ..
    · exact putGroup ..
  · exact refl s
  · exact refl s

theorem checkDrain (s : State) (g : Fin 16) : Touched s (s.checkDrain g) := by
  unfold State.checkDrain
  split
  · exact endDraining s g
  · exact refl s

theorem foldl {f : State → Fin 16 → State} (hf : ∀ s g, Touched s (f s g)) (l : List (Fin 16)) (s : State) : Touched s (l.foldl f s) := by
  induction l generalizing s with
  | nil => exact refl s
  | cons g l ih => exact (hf s g).trans (ih _)

theorem applyChanges (s : State) : Touched s s.applyChanges := by
  refine (foldl (fun u g => ?_) s.wanting s).trans (foldl (fun u g => ?_) _ _)
  · unfold State.beginChange
    split
    · exact putGroup ..
    · exact refl u
  · unfold State.endFirstPhase
    split
    · exact endDraining u g
    · exact checkDrain u g

/-! ## Grants and completions (R123, R143, R159 to R163) -/

theorem issueRead (s : State) (p : Port) (tag : Byte) (op : Operation) (lbn offset length : Nat) :
    Touched s (s.issueRead p tag op lbn offset length) := by
  unfold State.issueRead
  dsimp only
  refine Touched.then_core ?_ (State.setProgress_core ..)
  exact (mapStore s _).trans (mapBlock _ lbn fun _ => rfl)

theorem grantFetch (s : State) (r : FetchRequest) : Touched s (s.grantFetch r) := by
  unfold State.grantFetch
  split
  · exact of_core (State.refuse_core ..)
  · split
    · exact issueRead ..
    · exact of_core (State.refuse_core ..)

theorem grantRead (s : State) (r : ReadRequest) : Touched s (s.grantRead r) := by
  unfold State.grantRead
  split
  · exact of_core (State.refuse_core ..)
  · split
    · exact issueRead ..
    · exact of_core (State.refuse_core ..)

theorem writeCompletes (s : State) (e : InFlight) (payload : List Byte) :
    Touched s ((s.popInFlight.storePayload e.address payload).checkDrain e.group) :=
  ((mapStore s _).trans (mapStore _ _)).trans (checkDrain _ _)

theorem markDamaged (s : State) (lbn : Nat) : Touched s (s.markDamaged lbn) := by
  unfold State.markDamaged
  dsimp only
  refine Touched.then_core ?_ ((State.raise_core ..).trans (State.count_core ..))
  split
  · exact (mapBlock s lbn (g := fun b => { b with damaged := true }) fun _ => rfl).trans (mapEntry _ _ fun _ => rfl)
  · exact refl s

theorem endRead (s : State) (lbn : Nat) (g : Fin 16) : Touched s (s.endRead lbn g) := by
  unfold State.endRead State.wakeAssembler
  refine Touched.trans ?_ (checkDrain _ g)
  have hended : Touched s (s.mapBlock lbn fun b => { b with readsInFlight := b.readsInFlight - 1 }) := mapBlock s lbn fun _ => rfl
  split
  · exact hended.trans (mapStore _ _)
  · exact hended

theorem answerRead (s : State) (e : InFlight) (kind : RequestKind) (clamped failed : Bool) (result : Result) (data : List Byte) :
    (s.answerRead e kind clamped failed result data).core = s.core := by
  unfold State.answerRead
  split
  · split
    · exact State.answer_core ..
    · exact State.answerWith_core ..
  · rfl
  · rfl

theorem completeRead (s : State) (e : InFlight) (units : List UnitResult) (kind : RequestKind) (clamped : Bool) (result : Result) :
    Touched s (s.completeRead e units kind clamped result) := by
  unfold State.completeRead
  dsimp only
  refine Touched.trans ?_ (endRead _ _ _)
  have hanswered : Touched s
      (((s.popInFlight.mapStore fun t => { t with readsDone := t.readsDone + 1 }).countCorrected (unitsOf units e.length)).answerRead e kind clamped
        (uncorrectable (unitsOf units e.length)) result (Memory.deliver s.store.memory s.store.readsDone e.address e.length)) :=
    ((mapStore s _).trans (mapStore _ _)).then_core (answerRead ..)
  split
  · exact hanswered.trans (markDamaged _ _)
  · exact hanswered

end Touched

end Sys2Proof.Machine

/-!
Every command keeps the ring and the Block Assembler in form (O53).
-/
namespace Sys2Proof.Machine

variable {s t u : State}

/-- A map that SetGroupMap takes has a legal span and names no group twice (R176). -/
theorem groupMapParam_legal {span : BitVec 8} {groups : List (BitVec 8)} {map : List (Fin 16)} (hmap : groupMapParam span groups = some map) :
    map.length ∈ [1, 2, 4, 8, 16] ∧ map.Nodup := by
  unfold groupMapParam at hmap
  obtain ⟨⟨hspan, hlength, hall, hnodup⟩, hmap⟩ := (Option.ite_none_right_eq_some ..).mp hmap
  rw [← Option.some.inj hmap]
  refine ⟨?_, hnodup⟩
  rw [hall, hlength]
  rcases hspan with rfl | rfl | rfl | rfl | rfl <;> decide

namespace Formed

/-! ## Blocks change, the Block Assembler does not -/

/-- One block of the Block Table changes, and does not begin to fill. -/
theorem mapBlock (h : Formed s) {n : Nat} {g : Block → Block} (hlbn : ∀ b, (g b).lbn = b.lbn) (hfill : ∀ b, (g b).fillBytes = b.fillBytes)
    (hstate : ∀ b ∈ s.ring.blocks, b.lbn = n → (g b).state = .filling → b.state = .filling) : Formed (s.mapBlock n g) := by
  refine h.map (g := fun b => if b.lbn = n then g b else b) rfl (fun b => ?_) (fun b => ?_) (fun b hb hf => ?_) rfl rfl rfl rfl rfl rfl rfl rfl rfl
  · split
    · exact hlbn b
    · rfl
  · split
    · exact hfill b
    · rfl
  · split at hf
    next hn => exact hstate b hb hn hf
    · exact hf

theorem claimBlock (h : Formed s) (n : Nat) (c : Fin 4) : Formed (s.claimBlock n c) :=
  h.mapBlock (fun _ => rfl) (fun _ => rfl) (fun _ _ _ hf => nomatch hf)

theorem offer (h : Formed s) (n : Nat) : Formed (s.offer n) := by
  unfold State.offer
  split
  next k b _ _ =>
    have hunparked : Formed (s.unpark k) := h.congr rfl rfl rfl rfl rfl rfl rfl rfl rfl rfl
    exact (hunparked.claimBlock n k.ctx).of_core (State.answer_core ..)
  · exact h

theorem returnOne (h : Formed s) (b : Block) : Formed (s.returnOne b) :=
  (h.mapBlock (n := b.lbn) (g := fun b => { b with state := .sealed }) (fun _ => rfl) (fun _ => rfl) (fun _ _ _ hf => nomatch hf)).offer b.lbn

theorem closeOne (h : Formed s) (c : Fin 4) : Formed (s.closeOne c) := by
  have hcancelled : Formed (s.cancelTake c) := by
    unfold State.cancelTake
    split
    · exact (h.congr (t := s.unpark _) rfl rfl rfl rfl rfl rfl rfl rfl rfl rfl).of_core (State.refuse_core ..)
    · exact h
  have hreturned : ∀ (l : List Block) (u : State), Formed u → Formed (l.foldl State.returnOne u) := fun l => by
    induction l with
    | nil => exact fun u hu => hu
    | cons b l ih => exact fun u hu => ih _ (hu.returnOne b)
  exact (hreturned _ _ hcancelled).congr rfl rfl rfl rfl rfl rfl rfl rfl rfl rfl

theorem confirmBlock (h : Formed s) (b : Block) (loss : Bool) : Formed (s.confirmBlock b loss) := by
  have hconfirmed : Formed (s.mapBlock b.lbn fun b => { b with state := .archived }) :=
    h.mapBlock (fun _ => rfl) (fun _ => rfl) (fun _ _ _ hf => nomatch hf)
  refine Formed.settleRing ?_ _
  unfold State.markLoss
  split
  · refine hconfirmed.congr rfl rfl rfl rfl rfl rfl ?_ rfl rfl rfl
    rw [State.openEntry_isSome, State.openEntry_isSome]
    exact State.any_isOpen_map (fun e => by split <;> rfl) _
  · exact hconfirmed

theorem reband (h : Formed s) : Formed s.reband :=
  h.congr (by simp) (by simp) (by simp) (by simp) (by simp) (by simp) (by simp [State.openEntry]) (by simp) (by simp) (by simp)

theorem pinMoved (h : Formed s) (i : Fin 8) (pin : Option PinRange) (r : PinRange) (f : Nat → Nat) : Formed (s.pinMoved i pin r f) := by
  rw [State.pinMoved_eq]
  refine h.map (g := fun b => if r.first ≤ b.lbn ∧ b.lbn < r.rangeEnd then { b with pinCount := f b.pinCount } else b) rfl (fun b => ?_) (fun b => ?_)
    (fun b _ hf => ?_) rfl rfl rfl rfl rfl rfl rfl rfl rfl
  · split <;> rfl
  · split <;> rfl
  · split at hf <;> exact hf

theorem dropPin (h : Formed s) (i : Fin 8) : Formed (s.dropPin i) := by
  cases hlive : s.pins[i] with
  | none =>
    rw [State.dropPin, hlive]
    exact h
  | some r =>
    rw [State.dropPin_eq hlive]
    exact h.pinMoved ..

theorem dropPins (h : Formed s) (l : List (Fin 8)) : Formed (l.foldl State.dropPin s) := by
  induction l generalizing s with
  | nil => exact h
  | cons i l ih => exact ih (h.dropPin i)

theorem resetViewer (h : Formed s) : Formed s.resetViewer := by
  unfold State.resetViewer
  have hqueued : Formed (s.mapStore fun t => { t with viewerQueue := [] }) := h.of_core rfl
  exact (hqueued.dropPins _).reband

theorem resetDrain (h : Formed s) : Formed s.resetDrain := by
  refine h.map (g := Block.unclaim) rfl (fun b => ?_) (fun b => ?_) (fun b _ hf => ?_) rfl rfl rfl rfl rfl rfl rfl rfl rfl
  · unfold Block.unclaim
    split <;> rfl
  · unfold Block.unclaim
    split <;> rfl
  · unfold Block.unclaim at hf
    split at hf
    · cases hf
    · exact hf
    · exact hf
    · exact hf

theorem resetPort (h : Formed s) (p : Port) : Formed (s.resetPort p) := by
  have hbegun : Formed ((s.discardSlots p).dropWaits p) := h.of_core (by cases p <;> rfl)
  have howners : Formed (((s.discardSlots p).dropWaits p).resetOwners p) := by
    cases p
    · exact hbegun.resetViewer
    · exact hbegun.resetDrain
  unfold State.resetPort
  generalize ((s.discardSlots p).dropWaits p).resetOwners p = u at howners
  have hdiscarded : Formed (u.discardReads p) := howners.congr rfl rfl rfl rfl rfl rfl rfl rfl rfl rfl
  exact hdiscarded.of_core (State.mapPort_core ..)

/-! ## The Store Channel and the bank groups -/

theorem touched (h : Formed s) (ht : Touched s t) : Formed t := by
  obtain ⟨g, e, groups, store, hg, he, hcore⟩ := ht
  refine Formed.of_core (s := s.touch g e groups store) ?_ hcore
  refine h.map (g := g) rfl (fun b => ?_) (fun b => ?_) (fun b _ hf => ?_) rfl rfl rfl rfl rfl ?_ rfl rfl rfl
  · exact (congrArg Block.lbn (hg b) : (g b).steady.lbn = b.steady.lbn)
  · exact (congrArg Block.fillBytes (hg b) : (g b).steady.fillBytes = b.steady.fillBytes)
  · exact (congrArg Block.state (hg b) : (g b).steady.state = b.steady.state).symm.trans hf
  · rw [State.openEntry_isSome, State.openEntry_isSome]
    exact State.any_isOpen_map he _

/-! ## Stops (R39, R92 to R95) -/

theorem discardIntake (h : Formed s) : Formed s.discardIntake := by
  obtain ⟨hring, idle, filling, timer, continuation, -, -, -, -⟩ := h
  exact ⟨hring.congr rfl rfl rfl rfl (.inl rfl), fun hno => ⟨rfl, (idle hno).2⟩, filling, timer, continuation, nofun, fun hc => (nomatch hc),
    fun hc => (nomatch hc), fun hc => by obtain hc | hc := hc <;> cases hc⟩

theorem closeAndStop (h : Formed s) (hstage : s.assembler.stage = none) (close : CloseReason) (reason : StopReason) :
    Formed ((s.closeSegment close).enterStopped reason) :=
  (h.closeSegment hstage close).enterStopped (s.closeSegment_openEntry close) reason

theorem stopAtOnce (h : Formed s) (close : CloseReason) (reason : StopReason) : Formed (s.stopAtOnce close reason) :=
  h.discardIntake.closeAndStop (by simp [State.discardIntake]) close reason

theorem stopAtEnd (h : Formed s) : Formed s.stopAtEnd := by
  unfold State.stopAtEnd
  split
  · split
    next hopen => exact h.stopping hopen .stop
    next hopen => exact h.enterStopped (by simpa using hopen) _
  · exact h

theorem stage (h : Formed s) (q : Profile) : Formed (s.stage q) := by
  have hstaged : Formed (s.mapControl fun c => { c with staged := q }) := h.congr rfl rfl rfl rfl rfl rfl rfl rfl rfl rfl
  unfold State.stage
  dsimp only
  split
  · exact hstaged.congr rfl rfl rfl rfl rfl rfl rfl rfl rfl rfl
  · exact hstaged.activate

/-! ## Ring formation (R175 to R179) -/

/-- The parts that a new Group Map and a Reform leave. -/
theorem fresh (h : Formed s) (hcapture : ¬ s.capturing) (hspan : t.power.groupMap.length ∈ [1, 2, 4, 8, 16]) (hnodup : t.power.groupMap.Nodup)
    (hhead : t.ring.head = s.ring.head) (htail : t.ring.tail = s.ring.head) (hblocks : t.ring.blocks = [])
    (hintake : t.link.intake = s.link.intake) (hopen : t.openEntry = none) (htimer : t.assembler.idleFlush = s.assembler.idleFlush)
    (hstage : t.assembler.stage = s.assembler.stage) : Formed t := by
  obtain ⟨hempty, hclosed⟩ := h.assembling.idle hcapture
  have hnone : t.link.intake = [] := hintake.trans hempty
  have hfilling : t.fillingBlock = none := by rw [State.fillingBlock, hblocks]; rfl
  have hunstaged : t.assembler.stage = none := by
    by_contra hsome
    rw [hstage] at hsome
    have := h.assembling.front (Option.isSome_iff_ne_none.mpr hsome)
    simp [hempty] at this
  obtain ⟨-, -, -, -, hlast, -⟩ := h.ring
  refine ⟨⟨hspan, hnodup, by rw [htail, hhead], by simp [hhead, htail], by rwa [hhead], by simp [hblocks, hhead, htail], by simp [hblocks], by simp [hblocks],
      fun _ => by rw [htail, hhead]⟩,
    fun _ => ⟨hnone, hopen⟩, by simp [hfilling], fun hsome => ?_, fun _ => hopen, by simp [hnone], by simp [hunstaged], by simp [hunstaged],
    by simp [hunstaged]⟩
  rw [htimer] at hsome
  have := h.assembling.timer hsome
  simp [hclosed] at this

theorem putMap {span : BitVec 8} {groups : List (BitVec 8)} {map : List (Fin 16)} (h : Formed s)
    (hcapture : s.control.capture = .unformed ∨ s.control.capture = .idle) (hmap : groupMapParam span groups = some map) :
    Formed (s.putMap map) := by
  have hlegal := groupMapParam_legal hmap
  have hno : ¬ s.capturing := by
    rintro (hc | hc) <;> simp [hc] at hcapture
  have hempty : s.ring.tail = s.ring.head := by
    obtain ⟨-, -, -, -, -, -, -, -, hempty⟩ := h.ring
    exact hempty hcapture
  refine h.fresh hno ?_ ?_ ?_ ?_ ?_ ?_ ?_ ?_ ?_
  · simpa [State.putMap] using hlegal.1
  · simpa [State.putMap] using hlegal.2
  · simp [State.putMap]
  · simpa [State.putMap] using hempty
  · simp [State.putMap]
  · simp [State.putMap]
  · have := (h.assembling.idle hno).2
    simpa [State.putMap, State.openEntry] using this
  · simp [State.putMap]
  · simp [State.putMap]

theorem reform (h : Formed s) (hcapture : ¬ s.capturing) : Formed s.reform := by
  obtain ⟨hspan, hnodup, -⟩ := h.ring
  refine h.fresh hcapture ?_ ?_ ?_ ?_ ?_ ?_ ?_ ?_ ?_
  · simpa [State.reform] using hspan
  · simpa [State.reform] using hnodup
  · simp [State.reform]
  · simp [State.reform]
  · simp [State.reform]
  · simp [State.reform]
  · simp [State.reform, State.openEntry]
  · simp [State.reform]
  · simp [State.reform]

/-! ## Intake -/

theorem capturing_of_taking (htaking : s.takingFrames = true) : s.capturing := by
  unfold State.takingFrames at htaking
  simp at htaking
  exact htaking.1

/-- An item joins the tail of intake while capture runs. -/
theorem joined (h : Formed s) (hcapture : s.capturing) {x : IntakeItem} (hsized : x.wellSized) : Formed (s.joined x) := by
  obtain ⟨hring, idle, filling, timer, continuation, sized, front, next, opening⟩ := h
  refine ⟨hring.congr rfl rfl rfl rfl (.inl rfl), fun hno => absurd hcapture hno, filling, timer, continuation, fun y hy => ?_, fun hst => ?_, next, opening⟩
  · obtain hold | hnew := List.mem_append.mp hy
    · exact sized y hold
    · cases List.mem_singleton.mp hnew
      exact hsized
  · have hfront := front hst
    change (s.link.intake ++ [x]).head?.map _ = _
    cases hi : s.link.intake with
    | nil => simp [hi] at hfront
    | cons y rest => simpa [hi] using hfront

theorem startOrderlyHalt (h : Formed s) (hcapture : s.capturing) : Formed s.startOrderlyHalt := by
  have hjoined := h.joined hcapture (x := .haltMarker s.link.pendingLoss) trivial
  exact hjoined.congr rfl rfl rfl rfl rfl rfl rfl rfl rfl rfl

/-- Capture starts (R91). -/
theorem startCapture (h : Formed s) : Formed s.startCapture := by
  obtain ⟨hring, -, filling, timer, continuation, sized, front, next, opening⟩ := h
  exact ⟨hring.congr rfl rfl rfl rfl (.inr ⟨nofun, nofun⟩), fun hno => absurd (.inl rfl) hno, filling, timer, continuation, sized, front, next, opening⟩

/-- No frame waits behind a marker. -/
theorem unstaged (h : Formed s) (hfront : (s.link.intake.head?.map IntakeItem.isFrame) ≠ some true) : s.assembler.stage = none := by
  by_contra hsome
  exact hfront (h.assembling.front (Option.isSome_iff_ne_none.mpr hsome))

theorem takeMarker (h : Formed s) (hfront : (s.link.intake.head?.map IntakeItem.isFrame) ≠ some true) : Formed s.takeMarker :=
  ⟨h.ring.congr rfl rfl rfl rfl (.inl rfl),
    h.assembling.tail rfl rfl rfl h.assembling.filling rfl h.assembling.continuation (h.unstaged hfront)⟩

theorem withdrawn (h : Formed s) (hfront : (s.link.intake.head?.map IntakeItem.isFrame) ≠ some true) : Formed s.granted :=
  h.congr rfl rfl rfl rfl rfl rfl rfl rfl rfl (h.unstaged hfront).symm

theorem takeMarker_stage (h : Formed s) (hfront : (s.link.intake.head?.map IntakeItem.isFrame) ≠ some true) (loss : Option LossRecord) :
    (s.takeMarker.recordLoss loss none).assembler.stage = none := by
  simpa [State.takeMarker] using h.unstaged hfront

theorem haltWorked (h : Formed s) (loss : Option LossRecord) (hfront : (s.link.intake.head?.map IntakeItem.isFrame) ≠ some true) :
    Formed (((s.takeMarker.recordLoss loss none).closeSegment .halt).enterStopped .halt) :=
  ((h.takeMarker hfront).recordLoss loss none).closeAndStop (h.takeMarker_stage hfront loss) _ _

/-- The open segment closes, and ends Stopping. -/
theorem closeInCourse (h : Formed s) (hstage : s.assembler.stage = none) (reason : CloseReason) : Formed (s.closeInCourse reason) := by
  have hclosed := h.closeSegment hstage reason
  have hopen := s.closeSegment_openEntry reason
  unfold State.closeInCourse
  split
  · exact h
  · dsimp only
    split
    · exact hclosed.enterStopped hopen _
    · exact hclosed

theorem resyncWorked (h : Formed s) (loss : Option LossRecord) (hfront : (s.link.intake.head?.map IntakeItem.isFrame) ≠ some true) :
    Formed ((s.takeMarker.recordLoss loss none).closeInCourse .linkReset).present :=
  (((h.takeMarker hfront).recordLoss loss none).closeInCourse (h.takeMarker_stage hfront loss) _).present

end Formed

theorem coreKeeps_formed : CoreKeeps (fun s => RingForm s ∧ AssemblyForm s) Formed where
  before := by
    rintro s t ⟨hr, ha⟩ hcore
    have hring : RingForm s.core := hr
    have hassembly : AssemblyForm s.core := ha
    rw [← hcore] at hring hassembly
    exact ⟨hring, hassembly⟩
  after h hcore := h.of_core hcore
  kept h := ⟨h.1, h.2.assembling⟩
  start h _ _ := (Formed.mk h.1 h.2.assembling).startCapture
  stopAtOnce h := (Formed.mk h.1 h.2.assembling).stopAtOnce
  stopAtEnd h := (Formed.mk h.1 h.2.assembling).stopAtEnd
  sealFilling h := (Formed.mk h.1 h.2.assembling).sealFilling
  expires := by
    rintro s ⟨hr, idle, stopping, filling, -, rest⟩
    exact ⟨hr, idle, stopping, filling, fun h => (nomatch h), rest⟩
  stage h q _ := (Formed.mk h.1 h.2.assembling).stage q
  headMark h := (Formed.mk h.1 h.2.assembling).testHeadMark
  takePin h _ _ := ((Formed.mk h.1 h.2.assembling).pinMoved ..).reband
  dropPin h := ((Formed.mk h.1 h.2.assembling).dropPin _).reband
  groupNext h g n := (Formed.mk h.1 h.2.assembling).touched (.putGroup ..)
  applyChanges h _ _ := (Formed.mk h.1 h.2.assembling).touched (.applyChanges _)
  putMap h hcapture hmap := (Formed.mk h.1 h.2.assembling).putMap hcapture hmap
  reform h hcapture _ := (Formed.mk h.1 h.2.assembling).reform hcapture
  openContext h _ w := (Formed.mk h.1 h.2.assembling).congr rfl rfl rfl rfl rfl rfl rfl rfl rfl rfl
  closeOne h c := (Formed.mk h.1 h.2.assembling).closeOne c
  claim h _ _ _ := (Formed.mk h.1 h.2.assembling).claimBlock ..
  park tag h _ _ _ _ _ _ := (Formed.mk h.1 h.2.assembling).congr rfl rfl rfl rfl rfl rfl rfl rfl rfl rfl
  confirm h _ loss := (Formed.mk h.1 h.2.assembling).confirmBlock _ loss
  returnOne h _ := (Formed.mk h.1 h.2.assembling).returnOne _
  resetPort h p := (Formed.mk h.1 h.2.assembling).resetPort p
  frameJoins h hsized htaking loss := ((Formed.mk h.1 h.2.assembling).joined (Formed.capturing_of_taking htaking) (x := .frame _ loss) hsized).present
  markerJoins h htaking loss := (Formed.mk h.1 h.2.assembling).joined (Formed.capturing_of_taking htaking) trivial
  orderlyHalt h hcapture _ := (Formed.mk h.1 h.2.assembling).startOrderlyHalt hcapture
  reset levels := by
    obtain ⟨-, -, hring, hassembly, -⟩ := Proofs.resetHasEveryForm
    exact (Formed.mk hring hassembly.assembling).of_core rfl
  settleGroup h _ := (Formed.mk h.1 h.2.assembling).touched (.settleGroup ..)
  works h _ hfront := by
    obtain ⟨x, -, hx⟩ := State.granted_worked h.1 h.2 _ _
    exact (hx.form (.granted h.1 h.2 hfront)).toFormed.present
  withdrawn h hfront := (Formed.mk h.1 h.2.assembling).withdrawn hfront
  haltMarker h hfront := (Formed.mk h.1 h.2.assembling).haltWorked _ (by simp [hfront, IntakeItem.isFrame])
  resyncMarker h hfront := (Formed.mk h.1 h.2.assembling).resyncWorked _ (by simp [hfront, IntakeItem.isFrame])
  grantFetch h _ r := (Formed.mk h.1 h.2.assembling).touched (.grantFetch _ r)
  grantRead h _ r := (Formed.mk h.1 h.2.assembling).touched (.grantRead _ r)
  writeCompletes h _ _ := (Formed.mk h.1 h.2.assembling).touched (.writeCompletes ..)
  readCompletes h _ _ units kind clamped result := (Formed.mk h.1 h.2.assembling).touched (.completeRead ..)

/-- Capture Control's own steps keep the rest of `AssemblyForm`. -/
theorem Formed.assemblyForm (h : Formed s) (hawaits : s.captureView.Awaiting) : AssemblyForm s := by
  obtain ⟨idle, filling, timer, continuation, sized, front, next, opening⟩ := h.assembling
  obtain ⟨hopen, hhalt⟩ := hawaits
  refine ⟨idle, fun hc => ?_, filling, timer, continuation, sized, front, next, opening, hhalt⟩
  rw [State.openEntry_isSome]
  exact hopen hc

theorem AssemblyForm.awaiting (h : AssemblyForm s) : s.captureView.Awaiting := by
  obtain ⟨-, hopen, -, -, -, -, -, -, -, hhalt⟩ := h
  refine ⟨fun hc => ?_, hhalt⟩
  have := hopen hc
  rwa [State.openEntry_isSome] at this

theorem exec_ringAndAssemblyForm (c : Instr) (h : RingForm s ∧ AssemblyForm s) : ∃ t, exec c s = .next t ∧ RingForm t ∧ AssemblyForm t := by
  obtain ⟨t, ht, hformed⟩ := coreKeeps_formed.exec c h
  obtain ⟨u, hu, hstep⟩ := exec_captureStep c s
  cases ht.symm.trans hu
  exact ⟨t, ht, hformed.ring, hformed.assemblyForm (hstep.awaiting h.2.awaiting)⟩

end Sys2Proof.Machine

namespace Sys2Proof.Proofs
open Sys2Proof.Machine

/-- Settles O53: the acts of `CoreKeeps` keep the ring and all of the Block Assembler but what Capture Control's own steps keep. -/
theorem everyStepKeepsTheRingInForm : Obligations.EveryStepKeepsTheRingInForm :=
  fun _ _ hr ha hst => keeps_of_exec (P := fun s => RingForm s ∧ AssemblyForm s) (fun _ _ h => h) (fun c _ h => exec_ringAndAssemblyForm c h) ⟨hr, ha⟩ hst

end Sys2Proof.Proofs


/-!
Every command keeps the Pin Counts and the blocks of the Live pins (O55). Most acts change a block's state alone.
-/
namespace Sys2Proof.Machine

variable {s t u : State} {f : Frame}

/-! ## The Block Table but for the blocks' states -/

/-- A block but for its state. -/
def Block.stateless (b : Block) : Block :=
  { b with state := .sealed }

/-- The Block Table but for the blocks' states. -/
def State.heldBlocks (s : State) : List Block :=
  s.ring.blocks.map Block.stateless

/-- The core but for the blocks' states and the drain contexts. -/
def State.undrained (s : State) : State :=
  { s.core with ring := { s.ring with blocks := s.heldBlocks }, drain := { contexts := Vector.replicate 4 none, parkedTakes := [] } }

namespace State

theorem undrained_of_core (h : t.core = s.core) : t.undrained = s.undrained :=
  (congrArg State.undrained h : t.core.undrained = s.core.undrained)

theorem heldBlocks_of_undrained (h : t.undrained = s.undrained) : t.heldBlocks = s.heldBlocks :=
  (congrArg (fun u : State => u.ring.blocks) h :)

theorem heldBlocks_of_blocks (h : t.ring.blocks = s.ring.blocks) : t.heldBlocks = s.heldBlocks := by
  rw [heldBlocks, h, heldBlocks]

theorem heldBlocks_of_core (h : t.core = s.core) : t.heldBlocks = s.heldBlocks :=
  (congrArg State.heldBlocks h : t.core.heldBlocks = s.core.heldBlocks)

theorem mapBlock_undrained (s : State) (n : Nat) {g : Block → Block} (hg : ∀ b, (g b).stateless = b.stateless) :
    (s.mapBlock n g).undrained = s.undrained := by
  have hheld : (s.mapBlock n g).heldBlocks = s.heldBlocks := by
    simp only [heldBlocks, mapBlock, mapRing, List.map_map]
    refine List.map_congr_left fun b _ => ?_
    dsimp only [Function.comp]
    split
    · exact hg b
    · rfl
  rw [undrained, hheld]
  rfl

theorem claimBlock_undrained (s : State) (n : Nat) (c : Fin 4) : (s.claimBlock n c).undrained = s.undrained :=
  s.mapBlock_undrained n fun _ => rfl

theorem offer_undrained (s : State) (n : Nat) : (s.offer n).undrained = s.undrained := by
  unfold offer
  split
  next k b _ _ => exact (undrained_of_core (answer_core ..)).trans ((s.unpark k).claimBlock_undrained n k.ctx)
  · rfl

theorem sealFilling_undrained (s : State) : s.sealFilling.undrained = s.undrained := by
  unfold sealFilling
  split
  · rfl
  next b _ =>
    have hsealed : (s.mapBlock b.lbn fun b => { b with state := .sealed }).undrained = s.undrained := s.mapBlock_undrained _ fun _ => rfl
    dsimp only
    generalize (s.mapBlock b.lbn fun b => { b with state := .sealed }) = u at hsealed
    have hcounted : (u.count fun c => { c with blocksSealed := c.blocksSealed + 1 }).undrained = s.undrained := hsealed
    generalize (u.count fun c => { c with blocksSealed := c.blocksSealed + 1 }) = v at hcounted
    have hraised := (undrained_of_core (v.raise_core .blockSealed)).trans hcounted
    split
    · exact (offer_undrained ..).trans hraised
    · exact hraised

theorem returnOne_undrained (s : State) (b : Block) : (s.returnOne b).undrained = s.undrained := by
  rw [returnOne, offer_undrained]
  exact s.mapBlock_undrained b.lbn fun _ => rfl

theorem closeOne_undrained (s : State) (c : Fin 4) : (s.closeOne c).undrained = s.undrained := by
  have hcancelled : (s.cancelTake c).undrained = s.undrained := by
    unfold cancelTake
    split
    · exact undrained_of_core (s := s.unpark _) (refuse_core ..)
    · rfl
  exact (foldl_keeps _ State.undrained (fun u b => u.returnOne_undrained b) _ _).trans hcancelled

@[simp] theorem sealFilling_heldBlocks (s : State) : s.sealFilling.heldBlocks = s.heldBlocks :=
  heldBlocks_of_undrained s.sealFilling_undrained

@[simp] theorem closeSegment_heldBlocks (s : State) (reason : CloseReason) : (s.closeSegment reason).heldBlocks = s.heldBlocks := by
  cases he : s.openEntry with
  | none => rw [closeSegment_of_none he]
  | some e =>
    refine (heldBlocks_of_blocks (t := s.closeSegment reason) (s := s.sealFilling) ?_).trans s.sealFilling_heldBlocks
    rw [closeSegment, he]
    simp

@[simp] theorem enterStopped_heldBlocks (s : State) (reason : StopReason) : (s.enterStopped reason).heldBlocks = s.heldBlocks :=
  heldBlocks_of_blocks (by simp)

@[simp] theorem stopAtOnce_heldBlocks (s : State) (close : CloseReason) (reason : StopReason) : (s.stopAtOnce close reason).heldBlocks = s.heldBlocks := by
  rw [stopAtOnce, enterStopped_heldBlocks, closeSegment_heldBlocks]
  rfl

/-- A confirmed block is Archived, and its segment may be marked; the band, the marks and the parked takes follow. -/
theorem confirmBlock_parts (s : State) (b : Block) (loss : Bool) :
    (s.confirmBlock b loss).heldBlocks = s.heldBlocks ∧ (s.confirmBlock b loss).ring.head = s.ring.head
      ∧ (s.confirmBlock b loss).ring.tail = s.ring.tail ∧ (s.confirmBlock b loss).pins = s.pins := by
  have hconfirmed : (s.mapBlock b.lbn fun b => { b with state := .archived }).heldBlocks = s.heldBlocks :=
    heldBlocks_of_undrained (s.mapBlock_undrained _ fun _ => rfl)
  have hmarked (u : State) : (u.markLoss b loss).ring = u.ring ∧ (u.markLoss b loss).pins = u.pins := by
    unfold markLoss
    split <;> exact ⟨rfl, rfl⟩
  obtain ⟨hring, hpins⟩ := hmarked (s.mapBlock b.lbn fun b => { b with state := .archived })
  unfold confirmBlock
  generalize (s.mapBlock b.lbn fun b => { b with state := .archived }).markLoss b loss = u at hring hpins
  refine ⟨(heldBlocks_of_blocks ((settleRing_ring_blocks ..).trans (congrArg Ring.blocks hring))).trans hconfirmed, ?_, ?_, ?_⟩
  · rw [settleRing_ring_head, hring]
    rfl
  · rw [settleRing_ring_tail, hring]
    rfl
  · rw [settleRing_pins, hpins]
    rfl

@[simp] theorem closeInCourse_heldBlocks (s : State) (reason : CloseReason) : (s.closeInCourse reason).heldBlocks = s.heldBlocks := by
  unfold closeInCourse
  split
  · rfl
  · dsimp only
    split
    · exact (enterStopped_heldBlocks ..).trans (closeSegment_heldBlocks ..)
    · exact closeSegment_heldBlocks ..

theorem resetDrain_undrained (s : State) : s.resetDrain.undrained = s.undrained := by
  have hheld : s.resetDrain.heldBlocks = s.heldBlocks := by
    simp only [heldBlocks, resetDrain, mapDrain, mapRing, mapStore, List.map_map]
    refine List.map_congr_left fun b _ => ?_
    dsimp only [Function.comp]
    unfold Block.unclaim
    split <;> rfl
  rw [undrained, hheld]
  rfl

end State

/-! ## What decides the pins' form -/

/-- What `PinForm` reads of the ring: the LBNs and the Pin Counts. -/
def State.pinCounts (s : State) : List (Nat × Nat) :=
  s.ring.blocks.map fun b => (b.lbn, b.pinCount)

theorem State.pinCounts_of_heldBlocks (h : t.heldBlocks = s.heldBlocks) : t.pinCounts = s.pinCounts := by
  have := congrArg (List.map fun b : Block => (b.lbn, b.pinCount)) h
  simpa [heldBlocks, pinCounts, Block.stateless, Function.comp_def] using this

theorem PinForm.congr (h : PinForm s) (hcounts : t.pinCounts = s.pinCounts) (hhead : t.ring.head = s.ring.head)
    (htail : t.ring.tail = s.ring.tail) (hpins : t.pins = s.pins) : PinForm t := by
  obtain ⟨hranges, hpinned⟩ := h
  refine ⟨by rwa [hpins, hhead, htail], fun b hb => ?_⟩
  have hmem : (b.lbn, b.pinCount) ∈ s.pinCounts := hcounts ▸ List.mem_map_of_mem hb
  obtain ⟨a, ha, hab⟩ := List.mem_map.mp hmem
  obtain ⟨hlbn, hcount⟩ := Prod.mk.inj hab
  rw [← hcount, hpinned a ha, hlbn, State.pinsOver, State.pinsOver, hpins]

theorem PinForm.of_core (h : PinForm s) (hcore : t.core = s.core) : PinForm t :=
  h.congr (State.pinCounts_of_heldBlocks (State.heldBlocks_of_core hcore)) (congrArg (fun u : State => u.ring.head) hcore :)
    (congrArg (fun u : State => u.ring.tail) hcore :) (congrArg State.pins hcore :)

theorem PinForm.held (h : PinForm s) (hheld : t.heldBlocks = s.heldBlocks) (hhead : t.ring.head = s.ring.head)
    (htail : t.ring.tail = s.ring.tail) (hpins : t.pins = s.pins) : PinForm t :=
  h.congr (State.pinCounts_of_heldBlocks hheld) hhead htail hpins

theorem PinForm.undrained (h : PinForm s) (hkept : t.undrained = s.undrained) : PinForm t :=
  h.held (State.heldBlocks_of_undrained hkept) (congrArg (fun u : State => u.ring.head) hkept :) (congrArg (fun u : State => u.ring.tail) hkept :)
    (congrArg State.pins hkept :)

theorem PinForm.touched (h : PinForm s) (ht : Touched s t) : PinForm t := by
  obtain ⟨g, e, groups, store, hg, -, hcore⟩ := ht
  refine PinForm.of_core (s := s.touch g e groups store) (h.congr ?_ rfl rfl rfl) hcore
  simp only [State.pinCounts, State.touch, List.map_map]
  refine List.map_congr_left fun b _ => ?_
  have hlbn : (g b).lbn = b.lbn := (congrArg Block.lbn (hg b) : (g b).steady.lbn = b.steady.lbn)
  have hcount : (g b).pinCount = b.pinCount := (congrArg Block.pinCount (hg b) : (g b).steady.pinCount = b.steady.pinCount)
  simp [hlbn, hcount]

/-! ## A pin comes and goes (R137, R138, R141) -/

theorem State.mem_pins_set {i : Fin 8} {pin : Option PinRange} {r : PinRange} (h : r ∈ (s.pins.set i pin).toList.filterMap id) :
    r ∈ s.pins.toList.filterMap id ∨ pin = some r := by
  obtain ⟨x, hx, hr⟩ := List.mem_filterMap.mp h
  rw [Vector.toList_set] at hx
  obtain hold | hnew := List.mem_or_eq_of_mem_set hx
  · exact .inl (List.mem_filterMap.mpr ⟨x, hold, hr⟩)
  · exact .inr (hnew ▸ hr)

theorem State.pinsOver_set (s : State) (i : Fin 8) (pin : Option PinRange) (lbn : Nat) :
    ((s.pins.set i pin).toList.countP fun r => (r.map fun r => r.covers lbn).getD false)
      = (s.pinsOver lbn - if (s.pins[i].map fun r => r.covers lbn).getD false = true then 1 else 0)
        + if (pin.map fun r => r.covers lbn).getD false = true then 1 else 0 := by
  rw [Vector.toList_set, List.countP_set (by simp)]
  rfl

/-- A pin moves, and the Pin Counts of the blocks of its range with it. -/
theorem PinForm.pinMoved (h : PinForm s) {i : Fin 8} {pin : Option PinRange} {r : PinRange} {f : Nat → Nat}
    (hrange : ∀ r ∈ pin, s.ring.tail ≤ r.first ∧ r.first < r.rangeEnd ∧ r.rangeEnd ≤ s.ring.head)
    (hcount : ∀ lbn n, n = s.pinsOver lbn → (if r.covers lbn then f n else n)
      = (n - if (s.pins[i].map fun r => r.covers lbn).getD false = true then 1 else 0)
        + if (pin.map fun r => r.covers lbn).getD false = true then 1 else 0) : PinForm (s.pinMoved i pin r f) := by
  obtain ⟨hranges, hpinned⟩ := h
  refine ⟨fun x hx => ?_, fun b hb => ?_⟩
  · obtain hold | hnew := State.mem_pins_set hx
    · exact hranges x hold
    · exact hrange x hnew
  · obtain ⟨a, ha, rfl⟩ := List.mem_map.mp hb
    have hmoved : (if r.covers a.lbn then { a with pinCount := f a.pinCount } else a).pinCount
        = if r.covers a.lbn then f a.pinCount else a.pinCount := by
      split <;> rfl
    have hlbn : (if r.covers a.lbn then { a with pinCount := f a.pinCount } else a).lbn = a.lbn := by
      split <;> rfl
    rw [hmoved, hlbn, hcount _ _ (hpinned a ha), hpinned a ha]
    exact (s.pinsOver_set i pin a.lbn).symm

theorem PinForm.takePin (h : PinForm s) {i : Fin 8} {r : PinRange} (hfree : s.pins[i] = none) (htail : s.ring.tail ≤ r.first)
    (hne : r.first < r.rangeEnd) (hhead : r.rangeEnd ≤ s.ring.head) : PinForm (s.pinMoved i (some r) r fun n => n + 1) := by
  refine h.pinMoved (fun x hx => ?_) fun lbn n _ => ?_
  · cases hx
    exact ⟨htail, hne, hhead⟩
  · rw [hfree]
    by_cases hcovers : r.covers lbn = true <;> simp [hcovers]

theorem PinForm.dropPin (h : PinForm s) (i : Fin 8) : PinForm (s.dropPin i) := by
  cases hlive : s.pins[i] with
  | none =>
    rw [State.dropPin, hlive]
    exact h
  | some r =>
    rw [State.dropPin_eq hlive]
    refine h.pinMoved nofun fun lbn n _ => ?_
    rw [hlive]
    by_cases hcovers : r.covers lbn = true <;> simp [hcovers]

theorem PinForm.dropPins (h : PinForm s) (l : List (Fin 8)) : PinForm (l.foldl State.dropPin s) := by
  induction l generalizing s with
  | nil => exact h
  | cons i l ih => exact ih (h.dropPin i)

theorem PinForm.reband (h : PinForm s) : PinForm s.reband :=
  h.held (State.heldBlocks_of_blocks (by simp)) (by simp) (by simp) (by simp)

/-! ## No pin is Live -/

theorem State.pin_mem {i : Fin 8} {r : PinRange} (h : s.pins[i] = some r) : r ∈ s.pins.toList.filterMap id :=
  List.mem_filterMap.mpr ⟨some r, by rw [← h]; exact Vector.mem_toList_iff.mpr (Vector.getElem_mem _), rfl⟩

/-- An empty ring has no block to pin. -/
theorem PinForm.of_empty (hpins : s.pins.toList.filterMap id = []) (hblocks : s.ring.blocks = []) : PinForm s :=
  ⟨by rw [hpins]; exact nofun, by rw [hblocks]; exact nofun⟩

theorem PinForm.of_no_block (h : PinForm s) (hpins : t.pins = s.pins) (hhead : t.ring.head = s.ring.head) (htail : t.ring.tail = s.ring.tail)
    (hblocks : t.ring.blocks = []) : PinForm t := by
  refine ⟨?_, by rw [hblocks]; exact nofun⟩
  rw [hpins, hhead, htail]
  exact h.1

/-- A Reform is refused while a pin is Live (R178). -/
theorem State.no_pin_of_reform (h : s.reformBlocked = false) : s.pins.toList.filterMap id = [] := by
  simp only [reformBlocked, Bool.or_eq_false_iff] at h
  obtain ⟨⟨-, hpins⟩, -⟩ := h
  refine List.filterMap_eq_nil_iff.mpr fun x hx => ?_
  simpa using List.any_eq_false.mp hpins x hx

/-! ## The Tail block leaves and a block opens (R8, R12, R16) -/

theorem Block.unpinned_of_class {b : Block} {policy : OverrunPolicy} (h : b.classify policy = .recyclable ∨ b.classify policy = .evictable) :
    b.pinCount = 0 := by
  by_contra hpinned
  simp [classify, hpinned] at h

theorem State.not_covers_of_unpinned (h : s.pinsOver n = 0) {r : PinRange} (hr : r ∈ s.pins.toList.filterMap id) : r.covers n = false := by
  obtain ⟨x, hx, rfl⟩ := List.mem_filterMap.mp hr
  simpa using List.countP_eq_zero.mp h _ hx

theorem TableForm.lbn_of_head (h : TableForm s) {b : Block} (hb : s.ring.blocks.head? = some b) : b.lbn = s.ring.tail := by
  have hlbns := congrArg List.head? h.lbns
  rw [List.head?_map, hb, List.head?_range'] at hlbns
  have hgiven := h.given (List.mem_of_mem_head? hb)
  rw [if_neg (by omega)] at hlbns
  exact Option.some.inj hlbns

theorem PinForm.leaves (h : PinForm s) (ht : TableForm s) (hleaves : Leaves s t) : PinForm t := by
  have hpins : t.pins = s.pins := by cases hleaves <;> simp
  have hunpinned : ∃ b, s.ring.blocks.head? = some b ∧ b.pinCount = 0 := by
    cases hleaves with
    | recycled hb hclass => exact ⟨_, hb, Block.unpinned_of_class (.inl hclass)⟩
    | evicted hb hclass => exact ⟨_, hb, Block.unpinned_of_class (.inr hclass)⟩
  obtain ⟨b, hb, hzero⟩ := hunpinned
  obtain ⟨_, _, _, hring, -⟩ := hleaves.ring_index
  obtain ⟨hranges, hpinned⟩ := h
  have hmem := List.mem_of_mem_head? hb
  have htail : b.lbn = s.ring.tail := ht.lbn_of_head hb
  have hfree : s.pinsOver s.ring.tail = 0 := by rw [← htail, ← hpinned b hmem, hzero]
  refine ⟨fun r hr => ?_, fun y hy => ?_⟩
  · rw [hring]
    rw [hpins] at hr
    obtain ⟨hlow, hne, hhigh⟩ := hranges r hr
    have hnot := State.not_covers_of_unpinned hfree hr
    have : ¬ r.first ≤ s.ring.tail := fun hle => by
      have hcovers : r.covers s.ring.tail = true := PinRange.covers_iff.mpr ⟨hle, by omega⟩
      simp [hcovers] at hnot
    exact ⟨by show s.ring.tail + 1 ≤ _; omega, hne, hhigh⟩
  · rw [hring] at hy
    rw [hpinned y (List.mem_of_mem_tail hy), State.pinsOver, State.pinsOver, hpins]

/-- A block opens on LBN Head, where no pin reaches. -/
theorem PinForm.blockOpened (h : PinForm s) (segment : Nat) (required : Bool) (f : Frame) : PinForm (s.blockOpened segment required f) := by
  obtain ⟨hranges, hpinned⟩ := h
  refine ⟨fun r hr => ?_, fun y hy => ?_⟩
  · obtain ⟨hlow, hne, hhigh⟩ := hranges r hr
    exact ⟨hlow, hne, Nat.le_succ_of_le hhigh⟩
  · obtain hold | hnew := List.mem_append.mp (show y ∈ s.ring.blocks ++ [s.openedBlock segment required f] from hy)
    · exact hpinned y hold
    · cases List.mem_singleton.mp hnew
      refine (List.countP_eq_zero.mpr fun x hx => ?_).symm
      cases x with
      | none => simp
      | some r =>
        obtain ⟨-, -, hhigh⟩ := hranges r (List.mem_filterMap.mpr ⟨_, hx, rfl⟩)
        have : ¬ r.covers s.ring.head = true := fun hcovers => by
          have := (PinRange.covers_iff.mp hcovers).2
          omega
        simpa [State.openedBlock] using this

theorem PinForm.nextBlockOpened (h : PinForm s) (hopen : s.openEntry.isSome = true) (f : Frame) : PinForm (s.nextBlockOpened f) := by
  obtain ⟨e, he⟩ := Option.isSome_iff_exists.mp hopen
  rw [State.nextBlockOpened, he]
  exact (h.blockOpened e.number e.archiveRequired f).congr rfl rfl rfl rfl

theorem PinForm.payloadAppended (h : PinForm s) (b : Block) (f : Frame) : PinForm (s.payloadAppended b f) := by
  refine h.congr ?_ rfl rfl rfl
  change List.map _ (s.ring.blocks.map _) = _
  rw [List.map_map]
  refine List.map_congr_left fun y _ => ?_
  dsimp only [Function.comp]
  split <;> rfl

/-! ## The acts of the segment and of capture -/

theorem PinForm.closeSegment (h : PinForm s) (reason : CloseReason) : PinForm (s.closeSegment reason) :=
  h.held (s.closeSegment_heldBlocks reason) (by simp) (by simp) (by simp)

theorem PinForm.enterStopped (h : PinForm s) (reason : StopReason) : PinForm (s.enterStopped reason) :=
  h.held (s.enterStopped_heldBlocks reason) (by simp) (by simp) (by simp)

theorem PinForm.closeAndStop (h : PinForm s) (close : CloseReason) (reason : StopReason) : PinForm ((s.closeSegment close).enterStopped reason) :=
  (h.closeSegment close).enterStopped reason

theorem PinForm.closeInCourse (h : PinForm s) (reason : CloseReason) : PinForm (s.closeInCourse reason) := by
  have hclosed := h.closeSegment reason
  unfold State.closeInCourse
  split
  · exact h
  · dsimp only
    split
    · exact hclosed.enterStopped _
    · exact hclosed

theorem PinForm.stopAtEnd (h : PinForm s) : PinForm s.stopAtEnd := by
  unfold State.stopAtEnd
  split
  · split
    · exact h.held rfl rfl rfl rfl
    · exact h.enterStopped _
  · exact h

theorem PinForm.markerTaken (h : PinForm s) (loss : Option LossRecord) : PinForm (s.takeMarker.recordLoss loss none) := by
  have htaken : PinForm s.takeMarker := h.held rfl rfl rfl rfl
  exact htaken.held (State.heldBlocks_of_blocks (by simp)) (by simp) (by simp) (by simp)

theorem PinForm.resetViewer (h : PinForm s) : PinForm s.resetViewer := by
  unfold State.resetViewer
  have hqueued : PinForm (s.mapStore fun t => { t with viewerQueue := [] }) := h.of_core rfl
  exact (hqueued.dropPins _).reband

theorem PinForm.activate (h : PinForm s) : PinForm s.activate :=
  h.held (State.heldBlocks_of_blocks (by simp)) (by simp) (by simp) (by simp)

theorem PinForm.stage (h : PinForm s) (q : Profile) : PinForm (s.stage q) := by
  have hstaged : PinForm (s.mapControl fun c => { c with staged := q }) := h.held rfl rfl rfl rfl
  unfold State.stage
  dsimp only
  split
  · exact hstaged.held rfl rfl rfl rfl
  · exact hstaged.activate

theorem PinForm.resetPort (h : PinForm s) (p : Port) : PinForm (s.resetPort p) := by
  have hbegun : PinForm ((s.discardSlots p).dropWaits p) := h.of_core (by cases p <;> rfl)
  have howners : PinForm (((s.discardSlots p).dropWaits p).resetOwners p) := by
    cases p
    · exact hbegun.resetViewer
    · exact hbegun.undrained (State.resetDrain_undrained _)
  unfold State.resetPort
  generalize ((s.discardSlots p).dropWaits p).resetOwners p = u at howners
  have hdiscarded : PinForm (u.discardReads p) := howners.held rfl rfl rfl rfl
  exact hdiscarded.of_core (State.mapPort_core ..)

/-! ## Every command -/

theorem WorkMove.pinForm {before : Nat} {b b' : Bool} {x x' : Fate} (hm : WorkMove before f b x s b' x' t) (hw : WorkForm f x s) (h : PinForm s) :
    PinForm t := by
  cases hm with
  | recordLoss loss => exact h.held (State.heldBlocks_of_blocks (by simp)) (by simp) (by simp) (by simp)
  | sealed => exact h.held s.sealFilling_heldBlocks (by simp) (by simp) (by simp)
  | close hx reason => exact h.held (s.closeSegment_heldBlocks reason) (by simp) (by simp) (by simp)
  | stop hx reason => exact h.held (s.enterStopped_heldBlocks reason) (by simp) (by simp) (by simp)
  | swap => exact h.activate
  | discardCarried => exact h.held rfl rfl rfl rfl
  | stale => exact h
  | leaves hleaves => exact h.leaves hw.tableForm hleaves
  | settle => exact h.held (State.heldBlocks_of_blocks (by simp)) (by simp) (by simp) (by simp)
  | openSegment loss => exact (h.blockOpened s.assembler.nextSegment s.control.active.archiveRequired f).congr rfl rfl rfl rfl
  | openNext hopen => exact h.nextBlockOpened hopen f
  | append b => exact h.payloadAppended b f
  | headMark => exact h.held (State.heldBlocks_of_blocks (by simp)) (by simp) (by simp) (by simp)
  | actOn => exact h.held rfl rfl rfl rfl
  | drop => exact h.held rfl rfl rfl rfl
  | notice k => exact h.of_core (s.raiseNotice_core k)
  | gap lost cause => exact h.held (State.heldBlocks_of_blocks (by simp)) (by simp) (by simp) (by simp)
  | dropContinuation => exact h.held rfl rfl rfl rfl
  | wait stage => exact h.held rfl rfl rfl rfl

theorem coreKeeps_pinForm : CoreKeeps (fun s => RingForm s ∧ AssemblyForm s ∧ PinForm s) PinForm where
  before := by
    rintro s t ⟨hr, ha, hp⟩ hcore
    obtain ⟨hring, hassembly⟩ := coreKeeps_formed.before ⟨hr, ha⟩ hcore
    exact ⟨hring, hassembly, hp.of_core hcore⟩
  after h hcore := h.of_core hcore
  kept h := h.2.2
  start h _ _ := h.2.2.held rfl rfl rfl rfl
  stopAtOnce h close reason := h.2.2.held (by simp) (by simp) (by simp) (by simp)
  stopAtEnd h := h.2.2.stopAtEnd
  sealFilling h := h.2.2.undrained (State.sealFilling_undrained _)
  expires := by
    rintro s ⟨hr, ha, hp⟩
    obtain ⟨hring, hassembly⟩ := coreKeeps_formed.expires ⟨hr, ha⟩
    exact ⟨hring, hassembly, hp⟩
  stage h q _ := h.2.2.stage q
  headMark h := h.2.2.held (State.heldBlocks_of_blocks (by simp)) (by simp) (by simp) (by simp)
  takePin h hfree hne := (h.2.2.takePin hfree (Nat.le_max_right ..) hne (Nat.min_le_right ..)).reband
  dropPin h := (h.2.2.dropPin _).reband
  groupNext h g n := h.2.2.touched (.putGroup ..)
  applyChanges h _ _ := h.2.2.touched (.applyChanges _)
  putMap h _ _ := h.2.2.of_no_block (by simp [State.putMap]) (by simp [State.putMap]) (by simp [State.putMap]) (by simp [State.putMap])
  reform h _ hblocked := .of_empty (by simpa [State.reform] using State.no_pin_of_reform hblocked) (by simp [State.reform])
  openContext h _ w := h.2.2.held rfl rfl rfl rfl
  closeOne h c := h.2.2.undrained (State.closeOne_undrained ..)
  claim h _ _ _ := h.2.2.undrained (State.claimBlock_undrained ..)
  park tag h _ _ _ _ _ _ := h.2.2.held rfl rfl rfl rfl
  confirm {s} _ _ b h _ loss := by
    obtain ⟨hheld, hhead, htail, hpins⟩ := s.confirmBlock_parts b loss
    exact h.2.2.held hheld hhead htail hpins
  returnOne h _ := h.2.2.undrained (State.returnOne_undrained ..)
  resetPort h p := h.2.2.resetPort p
  frameJoins h _ _ _ := h.2.2.held rfl rfl rfl rfl
  markerJoins h _ _ := h.2.2.held rfl rfl rfl rfl
  orderlyHalt h _ _ := h.2.2.held rfl rfl rfl rfl
  reset levels := by
    obtain ⟨-, -, -, -, -, -, hpins, -⟩ := Proofs.resetHasEveryForm
    exact hpins.of_core rfl
  settleGroup h _ := h.2.2.touched (.settleGroup ..)
  works h _ hfront := by
    obtain ⟨hr, ha, hp⟩ := h
    obtain ⟨x, -, hx⟩ := State.granted_worked hr ha _ _
    have hkept := hx.keeps (K := fun _ x u => WorkForm _ x u ∧ PinForm u) (fun hs hm => ⟨hm.form hs.1, hm.pinForm hs.1 hs.2⟩)
      ⟨.granted hr ha hfront, hp⟩
    exact hkept.2.held rfl rfl rfl rfl
  withdrawn h hfront := h.2.2.held rfl rfl rfl rfl
  haltMarker h _ := (h.2.2.markerTaken _).closeAndStop _ _
  resyncMarker h _ := ((h.2.2.markerTaken _).closeInCourse _).held rfl rfl rfl rfl
  grantFetch h _ r := h.2.2.touched (.grantFetch _ r)
  grantRead h _ r := h.2.2.touched (.grantRead _ r)
  writeCompletes h _ _ := h.2.2.touched (.writeCompletes ..)
  readCompletes h _ _ units kind clamped result := h.2.2.touched (.completeRead ..)

/-- What every command keeps of the core in a state whose ring and assembly are in form, every step keeps. -/
theorem CoreKeeps.step {P : State → Prop} (h : CoreKeeps (fun s => RingForm s ∧ AssemblyForm s ∧ P s) P)
    (hr : RingForm s) (ha : AssemblyForm s) (hs : P s) (hst : step s = .next t) : P t := by
  have hpending (u : State) (rest : List Instr) (hu : RingForm u ∧ AssemblyForm u ∧ P u) :
      RingForm { u with pending := rest } ∧ AssemblyForm { u with pending := rest } ∧ P { u with pending := rest } := h.before hu rfl
  refine (keeps_of_exec (P := fun s => RingForm s ∧ AssemblyForm s ∧ P s) hpending (fun c u hu => ?_) ⟨hr, ha, hs⟩ hst).2.2
  obtain ⟨v, hv, hP⟩ := h.exec c hu
  obtain ⟨w, hw, hforms⟩ := exec_ringAndAssemblyForm c ⟨hu.1, hu.2.1⟩
  cases hv.symm.trans hw
  exact ⟨v, hv, hforms.1, hforms.2, hP⟩

end Sys2Proof.Machine

namespace Sys2Proof.Proofs
open Sys2Proof.Machine

/-- Settles O55: blocks leave the ring unpinned alone, and pins and counts move together. -/
theorem everyStepKeepsPinnedBlocksHeld : Obligations.EveryStepKeepsPinnedBlocksHeld :=
  fun _ _ hr ha hp hst => coreKeeps_pinForm.step hr ha hp hst

end Sys2Proof.Proofs

/-!
The Store Channel in form (O56), in its parts: the operations in flight against the blocks' counts of reads, and the admission request against the front
of intake.
-/
namespace Sys2Proof.Machine

variable {s t u : State} {f : Frame}

/-! ## The two parts of the form -/

/-- The LBNs of the Block Table with their counts of reads. -/
def State.blockReads (s : State) : List (Nat × Nat) :=
  s.ring.blocks.map fun b => (b.lbn, b.readsInFlight)

/-- The operations in flight: whether each is a read, and of which LBN. -/
def State.flightReads (s : State) : List (Bool × Nat) :=
  s.store.inFlight.map fun e => (e.isRead, e.lbn)

/-- The operations in flight and the store's contents (R6, R11, R152). -/
structure Stored (s : State) : Prop where
  room : s.store.inFlight.length ≤ 3
  counted : ∀ b ∈ s.blockReads, b.2 = s.flightReads.countP fun k => k.1 && decide (k.2 = b.1)
  held : ∀ k ∈ s.flightReads, k.1 = true → ∃ b ∈ s.blockReads, b.1 = k.2
  memory : Memory.wf s.store.memory = true

/-- A frame stands at the front of intake. -/
def State.frameWaits (s : State) : Prop :=
  (s.link.intake.head?.map IntakeItem.isFrame) = some true

/-- A read of the Tail block is in flight. -/
def State.tailRead (s : State) : Prop :=
  ∃ b ∈ s.blockReads, b.1 = s.ring.tail ∧ 0 < b.2

/-- The admission request stands for the frame at the front, which else waits on a read at the Tail (R18, R153, R160). -/
structure Requesting (s : State) : Prop where
  front : s.store.admission = true → s.frameWaits
  waits : s.frameWaits → s.store.admission = false → s.assembler.stage.isSome = true ∧ s.tailRead

theorem State.tailRead_iff : s.tailRead ↔ ∃ b ∈ s.ring.blocks, b.lbn = s.ring.tail ∧ 0 < b.readsInFlight := by
  simp [tailRead, blockReads]

theorem storeForm_iff : StoreForm s ↔ Stored s ∧ Requesting s := by
  have hcount (n : Nat) : s.store.inFlight.countP (fun e => e.isRead && decide (e.lbn = n)) = s.flightReads.countP fun k => k.1 && decide (k.2 = n) := by
    rw [State.flightReads, List.countP_map]
    rfl
  constructor
  · rintro ⟨hroom, hcounted, hheld, hmemory, hfront, hwaits⟩
    refine ⟨⟨hroom, fun b hb => ?_, fun k hk hread => ?_, hmemory⟩, hfront, fun hf hno => ?_⟩
    · obtain ⟨a, ha, rfl⟩ := List.mem_map.mp hb
      exact (hcounted a ha).trans (hcount a.lbn)
    · obtain ⟨e, he, rfl⟩ := List.mem_map.mp hk
      obtain ⟨b, hb, hlbn⟩ := hheld e he hread
      exact ⟨_, List.mem_map_of_mem hb, hlbn⟩
    · exact ⟨(hwaits hf hno).1, State.tailRead_iff.mpr (hwaits hf hno).2⟩
  · rintro ⟨⟨hroom, hcounted, hheld, hmemory⟩, hfront, hwaits⟩
    refine ⟨hroom, fun b hb => ?_, fun e he hread => ?_, hmemory, hfront, fun hf hno => ?_⟩
    · exact (hcounted _ (List.mem_map_of_mem hb)).trans (hcount b.lbn).symm
    · obtain ⟨x, hx, hlbn⟩ := hheld _ (List.mem_map_of_mem he) hread
      obtain ⟨b, hb, rfl⟩ := List.mem_map.mp hx
      exact ⟨b, hb, hlbn⟩
    · exact ⟨(hwaits hf hno).1, State.tailRead_iff.mp (hwaits hf hno).2⟩

/-! ## What decides them -/

theorem State.blockReads_of_heldBlocks (h : t.heldBlocks = s.heldBlocks) : t.blockReads = s.blockReads := by
  have := congrArg (List.map fun b : Block => (b.lbn, b.readsInFlight)) h
  simpa [heldBlocks, blockReads, Block.stateless, Function.comp_def] using this

theorem Stored.congr (h : Stored s) (hblocks : t.blockReads = s.blockReads) (hflight : t.flightReads = s.flightReads)
    (hmemory : Memory.wf t.store.memory = true) : Stored t := by
  refine ⟨?_, by rw [hblocks, hflight]; exact h.counted, by rw [hblocks, hflight]; exact h.held, hmemory⟩
  have hlength := congrArg List.length hflight
  simp only [State.flightReads, List.length_map] at hlength
  exact hlength.trans_le h.room

theorem Requesting.congr (h : Requesting s) (hblocks : t.blockReads = s.blockReads) (htail : t.ring.tail = s.ring.tail)
    (hadmission : t.store.admission = s.store.admission) (hintake : t.link.intake = s.link.intake)
    (hstage : t.assembler.stage = s.assembler.stage) : Requesting t := by
  have hfront : t.frameWaits ↔ s.frameWaits := by rw [State.frameWaits, hintake, State.frameWaits]
  have hread : t.tailRead ↔ s.tailRead := by rw [State.tailRead, hblocks, htail, State.tailRead]
  exact ⟨by rw [hadmission, hfront]; exact h.front, by rw [hadmission, hfront, hstage, hread]; exact h.waits⟩

/-- No frame stands at the front, and no request. -/
theorem Requesting.idle (hfront : ¬ t.frameWaits) (hadmission : t.store.admission = false) : Requesting t :=
  ⟨by simp [hadmission], fun hf => absurd hf hfront⟩

theorem Requesting.admission (h : Requesting s) (hfront : ¬ s.frameWaits) : s.store.admission = false := by
  by_contra hyes
  exact hfront (h.front (by simpa using hyes))

theorem StoreForm.held (h : StoreForm s) (hheld : t.heldBlocks = s.heldBlocks) (htail : t.ring.tail = s.ring.tail) (hstore : t.store = s.store)
    (hintake : t.link.intake = s.link.intake) (hstage : t.assembler.stage = s.assembler.stage) : StoreForm t := by
  obtain ⟨hstored, hrequesting⟩ := storeForm_iff.mp h
  have hblocks := State.blockReads_of_heldBlocks hheld
  refine storeForm_iff.mpr ⟨hstored.congr hblocks ?_ ?_, hrequesting.congr hblocks htail ?_ hintake hstage⟩
  · rw [State.flightReads, hstore, State.flightReads]
  · rw [hstore]
    exact hstored.memory
  · rw [hstore]

theorem StoreForm.of_core (h : StoreForm s) (hcore : t.core = s.core) : StoreForm t := by
  have hform : StoreForm s.core := h
  rw [← hcore] at hform
  exact hform

theorem Stored.of_core (h : Stored s) (hcore : t.core = s.core) : Stored t :=
  h.congr (congrArg State.blockReads hcore :) (congrArg State.flightReads hcore :)
    ((congrArg (fun u : State => Memory.wf u.store.memory) hcore :).trans h.memory)

theorem Stored.kept (h : Stored s) (hheld : t.heldBlocks = s.heldBlocks) (hstore : t.store = s.store) : Stored t := by
  refine h.congr (State.blockReads_of_heldBlocks hheld) ?_ ?_
  · rw [State.flightReads, hstore, State.flightReads]
  · rw [hstore]
    exact h.memory

theorem StoreForm.undrained (h : StoreForm s) (hkept : t.undrained = s.undrained) : StoreForm t := by
  obtain ⟨hstored, hrequesting⟩ := storeForm_iff.mp h
  have hblocks := State.blockReads_of_heldBlocks (State.heldBlocks_of_undrained hkept)
  refine storeForm_iff.mpr ⟨hstored.congr hblocks (congrArg State.flightReads hkept :) ?_, hrequesting.congr hblocks ?_ ?_ ?_ ?_⟩
  · exact (congrArg (fun u : State => Memory.wf u.store.memory) hkept :).trans hstored.memory
  · exact (congrArg (fun u : State => u.ring.tail) hkept :)
  · exact (congrArg (fun u : State => u.store.admission) hkept :)
  · exact (congrArg (fun u : State => u.link.intake) hkept :)
  · exact (congrArg (fun u : State => u.assembler.stage) hkept :)

/-! ## Intake and the admission request (R39, R48, R153) -/

/-- The request of a frame that does not wait stands once more. -/
theorem Requesting.present (hwaits : s.frameWaits → s.assembler.stage.isSome = true → s.store.admission = false → s.tailRead) : Requesting s.present := by
  have hadmission : s.present.store.admission
      = ((s.link.intake.head?.map IntakeItem.isFrame).getD false && (s.assembler.stage.isNone || s.store.admission)) := rfl
  refine ⟨fun hyes => ?_, fun hf hno => ?_⟩
  · rw [hadmission, Bool.and_eq_true] at hyes
    show s.link.intake.head?.map IntakeItem.isFrame = some true
    cases hfront : s.link.intake.head?.map IntakeItem.isFrame with
    | none => simp [hfront] at hyes
    | some b => simpa [hfront] using hyes.1
  · have hfront : s.link.intake.head?.map IntakeItem.isFrame = some true := hf
    rw [hadmission, hfront, Option.getD_some, Bool.true_and, Bool.or_eq_false_iff] at hno
    have hstage : s.assembler.stage.isSome = true := by
      cases hst : s.assembler.stage <;> simp [hst] at hno ⊢
    exact ⟨hstage, hwaits hf hstage hno.2⟩

theorem Stored.present (h : Stored s) : Stored s.present :=
  h.congr rfl rfl h.memory

/-! ## Blocks leave and open (R6, R8, R12, R16) -/

theorem Block.unread_of_class {b : Block} {policy : OverrunPolicy} (h : b.classify policy = .recyclable ∨ b.classify policy = .evictable) :
    b.readsInFlight = 0 := by
  by_contra hread
  unfold classify at h
  (repeat' split at h) <;> simp_all

theorem Stored.leaves (h : Stored s) (hleaves : Leaves s t) : Stored t := by
  have hstore : t.store = s.store := by cases hleaves <;> simp
  have hunread : ∃ b, s.ring.blocks.head? = some b ∧ b.readsInFlight = 0 := by
    cases hleaves with
    | recycled hb hclass => exact ⟨_, hb, Block.unread_of_class (.inl hclass)⟩
    | evicted hb hclass => exact ⟨_, hb, Block.unread_of_class (.inr hclass)⟩
  obtain ⟨b, hb, hzero⟩ := hunread
  obtain ⟨_, _, _, hring, -⟩ := hleaves.ring_index
  obtain ⟨hroom, hcounted, hheld, hmemory⟩ := h
  have hflight : t.flightReads = s.flightReads := by rw [State.flightReads, hstore, State.flightReads]
  have hblocks : t.blockReads = s.blockReads.tail := by
    rw [State.blockReads, hring, State.blockReads, ← List.map_tail]
    rfl
  have hfirst : s.blockReads.head? = some (b.lbn, b.readsInFlight) := by rw [State.blockReads, List.head?_map, hb]; rfl
  have hcons : s.blockReads = (b.lbn, b.readsInFlight) :: s.blockReads.tail := (List.cons_head?_tail hfirst).symm
  refine ⟨by rwa [hstore], fun y hy => ?_, fun k hk hread => ?_, by rwa [hstore]⟩
  · rw [hblocks] at hy
    rw [hflight]
    exact hcounted y (List.mem_of_mem_tail hy)
  · rw [hflight] at hk
    obtain ⟨y, hy, hlbn⟩ := hheld k hk hread
    rw [hblocks]
    rw [hcons] at hy
    obtain rfl | hy := List.mem_cons.mp hy
    · have hno := hcounted _ (List.mem_of_mem_head? hfirst)
      rw [hzero] at hno
      have := List.countP_eq_zero.mp hno.symm k hk
      simp [hread, ← hlbn] at this
    · exact ⟨y, hy, hlbn⟩

/-- A write is issued to a block, and a block may open for it. -/
theorem Stored.written (h : Stored s) (hroom : s.store.inFlight.length < 3) {e : InFlight} (hwrite : e.isRead = false)
    (hblocks : t.blockReads = s.blockReads ∨ t.blockReads = s.blockReads ++ [(s.ring.head, 0)] ∧ ∀ b ∈ s.blockReads, b.1 < s.ring.head)
    (hflight : t.store.inFlight = s.store.inFlight ++ [e]) (hmemory : t.store.memory = s.store.memory) : Stored t := by
  have hflights : t.flightReads = s.flightReads ++ [(false, e.lbn)] := by
    rw [State.flightReads, hflight, List.map_append, List.map_singleton, hwrite, State.flightReads]
  have hcount (n : Nat) : t.flightReads.countP (fun k => k.1 && decide (k.2 = n)) = s.flightReads.countP fun k => k.1 && decide (k.2 = n) := by
    simp [hflights]
  have hkinds {k : Bool × Nat} (hk : k ∈ t.flightReads) (hread : k.1 = true) : k ∈ s.flightReads := by
    rw [hflights] at hk
    obtain hold | hnew := List.mem_append.mp hk
    · exact hold
    · cases List.mem_singleton.mp hnew
      cases hread
  refine ⟨by simp [hflight]; omega, fun b hb => ?_, fun k hk hread => ?_, hmemory ▸ h.memory⟩
  · rw [hcount]
    obtain hsame | ⟨hopened, hbelow⟩ := hblocks
    · exact h.counted b (hsame ▸ hb)
    · rw [hopened] at hb
      obtain hold | hnew := List.mem_append.mp hb
      · exact h.counted b hold
      · cases List.mem_singleton.mp hnew
        refine (List.countP_eq_zero.mpr fun k hk => ?_).symm
        by_cases hread : k.1 = true
        · obtain ⟨y, hy, hlbn⟩ := h.held k hk hread
          have := hbelow y hy
          simp [hread]
          omega
        · simp [hread]
  · obtain ⟨b, hb, hlbn⟩ := h.held k (hkinds hk hread) hread
    obtain hsame | ⟨hopened, -⟩ := hblocks
    · exact ⟨b, hsame ▸ hb, hlbn⟩
    · exact ⟨b, hopened ▸ List.mem_append_left _ hb, hlbn⟩

theorem State.blockReads_below (h : TableForm s) : ∀ b ∈ s.blockReads, b.1 < s.ring.head := by
  intro b hb
  obtain ⟨a, ha, rfl⟩ := List.mem_map.mp hb
  exact (h.given ha).2

end Sys2Proof.Machine

/-!
Every command keeps the Store Channel in form (O56).
-/
namespace Sys2Proof.Machine

variable {s t u : State} {f : Frame}

/-! ## Settled groups (R170 to R172) -/

namespace State

section
variable {P : State → Prop} (hcore : ∀ {s t : State}, P s → t.core = s.core → P t) (hput : ∀ {s : State}, P s → ∀ g r, P (s.putGroup g r))
  (hlose : ∀ {s : State}, P s → ∀ g, P (s.loseContents g))
include hcore hput hlose

/-- What group records, lost contents and the rest of the state do not reach, the settling of a group keeps. -/
theorem settleGroup_keeps (g : Fin 16) (a b : GroupPower) (hs : P s) : P (s.settleGroup g a b) := by
  unfold settleGroup
  dsimp only
  have hset := hput hs g { s.power.groups[g] with state := .settled b }
  generalize s.putGroup g _ = u at hset
  have hlost : P (if a = .off ∨ b = .off then u.loseContents g else u) := by
    split
    · exact hlose hset g
    · exact hset
  generalize (if a = .off ∨ b = .off then u.loseContents g else u) = v at hlost
  split
  · exact hlost
  · exact hcore hlost (raise_core ..)

theorem endDraining_keeps (g : Fin 16) (hs : P s) : P (s.endDraining g) := by
  unfold endDraining
  split
  · split
    · exact settleGroup_keeps hcore hput hlose g _ _ hs
    · exact hput hs ..
    · exact hput hs ..
  · exact hs
  · exact hs

theorem checkDrain_keeps (g : Fin 16) (hs : P s) : P (s.checkDrain g) := by
  unfold checkDrain
  split
  · exact endDraining_keeps hcore hput hlose g hs
  · exact hs

theorem applyChanges_keeps (hs : P s) : P s.applyChanges := by
  have hfold {f : State → Fin 16 → State} (hf : ∀ {u}, P u → ∀ g, P (f u g)) (l : List (Fin 16)) {u : State} (hu : P u) : P (l.foldl f u) := by
    induction l generalizing u with
    | nil => exact hu
    | cons g l ih => exact ih (hf hu g)
  refine hfold (fun {u} hu g => ?_) _ (hfold (fun {u} hu g => ?_) _ hs)
  · unfold endFirstPhase
    split
    · exact endDraining_keeps hcore hput hlose g hu
    · exact checkDrain_keeps hcore hput hlose g hu
  · unfold beginChange
    split
    · exact hput hu ..
    · exact hu

end

end State

/-- From `s` to `u` a read of a block has left the list of operations in flight, and not yet the block's count. -/
structure ReadPopped (s u : State) (lbn : Nat) : Prop where
  reads : s.flightReads = (true, lbn) :: u.flightReads
  blocks : u.blockReads = s.blockReads
  tail : u.ring.tail = s.ring.tail
  memory : u.store.memory = s.store.memory
  admission : u.store.admission = s.store.admission
  intake : u.link.intake = s.link.intake
  stage : u.assembler.stage = s.assembler.stage
  lbns : u.ring.blocks.map Block.lbn = s.ring.blocks.map Block.lbn

theorem ReadPopped.of_core {n : Nat} (h : ReadPopped s u n) (hcore : t.core = u.core) : ReadPopped s t n := by
  obtain ⟨reads, blocks, tail, memory, admission, intake, stage, lbns⟩ := h
  have hpopped : ReadPopped s u.core n := ⟨reads, blocks, tail, memory, admission, intake, stage, lbns⟩
  rw [← hcore] at hpopped
  obtain ⟨reads, blocks, tail, memory, admission, intake, stage, lbns⟩ := hpopped
  exact ⟨reads, blocks, tail, memory, admission, intake, stage, lbns⟩

theorem ReadPopped.markDamaged {n : Nat} (h : ReadPopped s u n) : ReadPopped s (u.markDamaged n) n := by
  have hmarked : ReadPopped s (u.damageMarked n) n := by
    unfold State.damageMarked
    split
    next b _ =>
      obtain ⟨reads, blocks, tail, memory, admission, intake, stage, lbns⟩ := h
      refine ⟨reads, Eq.trans ?_ blocks, tail, memory, admission, intake, stage, Eq.trans ?_ lbns⟩
      · change List.map _ (u.ring.blocks.map _) = _
        rw [List.map_map]
        refine List.map_congr_left fun y _ => ?_
        dsimp only [Function.comp]
        split <;> rfl
      · change List.map _ (u.ring.blocks.map _) = _
        rw [List.map_map]
        refine List.map_congr_left fun y _ => ?_
        dsimp only [Function.comp]
        split <;> rfl
    · exact h.of_core (State.count_core ..)
  exact hmarked.of_core (State.raise_core ..)

namespace StoreForm

theorem putGroup (h : StoreForm s) (g : Fin 16) (r : Group) : StoreForm (s.putGroup g r) :=
  h.held rfl rfl rfl rfl rfl

theorem loseContents (h : StoreForm s) (g : Fin 16) : StoreForm (s.loseContents g) := by
  obtain ⟨hstored, hrequesting⟩ := storeForm_iff.mp h
  exact storeForm_iff.mpr ⟨hstored.congr rfl rfl (Memory.wf_forget _ _ hstored.memory), hrequesting.congr rfl rfl rfl rfl rfl⟩

theorem settleGroup (h : StoreForm s) (g : Fin 16) (a b : GroupPower) : StoreForm (s.settleGroup g a b) :=
  State.settleGroup_keeps of_core putGroup loseContents g a b h

theorem checkDrain (h : StoreForm s) (g : Fin 16) : StoreForm (s.checkDrain g) :=
  State.checkDrain_keeps of_core putGroup loseContents g h

theorem applyChanges (h : StoreForm s) : StoreForm s.applyChanges :=
  State.applyChanges_keeps of_core putGroup loseContents h

/-! ## Grants and completions (R123, R143, R159 to R163) -/

theorem issueRead (h : StoreForm s) (hroom : s.store.inFlight.length < 3) {b : Block} {lbn : Nat} (hb : s.findBlock lbn = some b) (p : Port) (tag : Byte)
    {op : Operation} (hop : ∀ d, op ≠ .admissionWrite d) (offset length : Nat) : StoreForm (s.issueRead p tag op lbn offset length) := by
  obtain ⟨hstored, hrequesting⟩ := storeForm_iff.mp h
  have hlbn := State.lbn_of_findBlock hb
  have hmem : b ∈ s.ring.blocks := List.mem_of_find?_eq_some hb
  have hread (e : InFlight) (he : e.op = op) : e.isRead = true := by
    unfold InFlight.isRead
    rw [he]
    split
    next d => exact absurd rfl (hop d)
    · rfl
    · rfl
  unfold State.issueRead
  dsimp only
  generalize hentry : InFlight.mk op lbn (s.groupOf lbn) (s.storeAddress lbn offset) length (.request p tag) = e
  have hisRead : e.isRead = true := hread e (by rw [← hentry])
  have hat : e.lbn = lbn := by rw [← hentry]
  refine StoreForm.of_core ?_ (State.setProgress_core ..)
  have hflight : ((s.mapStore fun t => { t with inFlight := t.inFlight ++ [e] }).mapBlock lbn fun b => { b with readsInFlight := b.readsInFlight + 1 }).flightReads
      = s.flightReads ++ [(true, lbn)] := by
    rw [← hisRead, ← hat]
    exact List.map_append
  have hblocks : ((s.mapStore fun t => { t with inFlight := t.inFlight ++ [e] }).mapBlock lbn fun b => { b with readsInFlight := b.readsInFlight + 1 }).blockReads
      = s.blockReads.map fun b => (b.1, if b.1 = lbn then b.2 + 1 else b.2) := by
    simp only [State.blockReads, State.mapBlock, State.mapRing, State.mapStore, List.map_map]
    refine List.map_congr_left fun y _ => ?_
    dsimp only [Function.comp]
    split <;> rfl
  refine storeForm_iff.mpr ⟨⟨?_, fun y hy => ?_, fun k hk hkread => ?_, hstored.memory⟩, hrequesting.front, fun hf hno => ?_⟩
  · show (s.store.inFlight ++ [e]).length ≤ 3
    rw [List.length_append]
    exact hroom
  · rw [hblocks] at hy
    obtain ⟨x, hx, rfl⟩ := List.mem_map.mp hy
    have := hstored.counted x hx
    rw [hflight, List.countP_append]
    by_cases hsame : x.1 = lbn
    · simp [hsame, this]
    · simp [hsame, Ne.symm hsame, this]
  · rw [hflight] at hk
    have hfound : ∃ x ∈ s.blockReads, x.1 = k.2 := by
      obtain hold | hnew := List.mem_append.mp hk
      · exact hstored.held k hold hkread
      · cases List.mem_singleton.mp hnew
        exact ⟨_, List.mem_map_of_mem hmem, hlbn⟩
    obtain ⟨x, hx, hx2⟩ := hfound
    rw [hblocks]
    exact ⟨_, List.mem_map_of_mem hx, hx2⟩
  · obtain ⟨hstage, x, hx, htail, hpos⟩ := hrequesting.waits hf hno
    refine ⟨hstage, ?_⟩
    rw [State.tailRead, hblocks]
    refine ⟨_, List.mem_map_of_mem hx, htail, ?_⟩
    dsimp only
    split <;> omega

theorem grantFetch (h : StoreForm s) (hroom : s.store.inFlight.length < 3) (r : FetchRequest) : StoreForm (s.grantFetch r) := by
  unfold State.grantFetch
  split
  · exact h.of_core (State.refuse_core ..)
  next b hb =>
    split
    · exact h.issueRead hroom hb _ _ (by simp) _ _
    · exact h.of_core (State.refuse_core ..)

theorem grantRead (h : StoreForm s) (hroom : s.store.inFlight.length < 3) (r : ReadRequest) : StoreForm (s.grantRead r) := by
  unfold State.grantRead
  split
  · exact h.of_core (State.refuse_core ..)
  next b hb =>
    split
    · exact h.issueRead hroom hb _ _ (by simp) _ _
    · exact h.of_core (State.refuse_core ..)

/-- A write leaves the list, and its payload stands in the store. -/
theorem writeEnded (h : StoreForm s) {e : InFlight} {rest : List InFlight} {payload : List Byte} (hflight : s.store.inFlight = e :: rest)
    (hop : e.op = .admissionWrite payload) : StoreForm (s.popInFlight.storePayload e.address payload) := by
  obtain ⟨⟨hroom, hcounted, hheld, hmemory⟩, hrequesting⟩ := storeForm_iff.mp h
  have hwrite : e.isRead = false := by rw [InFlight.isRead, hop]
  have hreads : s.flightReads = (false, e.lbn) :: (s.popInFlight.storePayload e.address payload).flightReads := by
    change _ = _ :: s.store.inFlight.tail.map _
    rw [State.flightReads, hflight, List.map_cons, hwrite]
    rfl
  refine storeForm_iff.mpr ⟨⟨?_, fun b hb => ?_, fun k hk hread => ?_, Memory.wf_write _ _ hmemory⟩, hrequesting.congr rfl rfl rfl rfl rfl⟩
  · show s.store.inFlight.tail.length ≤ 3
    rw [List.length_tail]
    omega
  · have := hcounted b hb
    rw [hreads] at this
    simpa using this
  · exact hheld k (by rw [hreads]; exact List.mem_cons_of_mem _ hk) hread

/-- A read has left the list, and now leaves its block's count. -/
theorem readOff (h : StoreForm s) {lbn : Nat} (hpopped : ReadPopped s u lbn) (hdistinct : (s.ring.blocks.map Block.lbn).Nodup)
    (hfront : s.assembler.stage.isSome = true → s.frameWaits) : StoreForm (u.readOff lbn) := by
  obtain ⟨hreads, hblocks, htail, hmemory, hadmission, hintake, hstage, hlbns⟩ := hpopped
  rw [← hlbns] at hdistinct
  obtain ⟨⟨hroom, hcounted, hheld, hwf⟩, hrequesting⟩ := storeForm_iff.mp h
  have hlength : s.store.inFlight.length = u.store.inFlight.length + 1 := by
    simpa [State.flightReads] using congrArg List.length hreads
  have hoff : (u.readOff lbn).blockReads = u.blockReads.map fun b => (b.1, if b.1 = lbn then b.2 - 1 else b.2) := by
    simp only [State.blockReads, State.readOff, List.map_map]
    refine List.map_congr_left fun y _ => ?_
    dsimp only [Function.comp]
    split <;> rfl
  have hsame : u.frameWaits ↔ s.frameWaits := by rw [State.frameWaits, hintake, State.frameWaits]
  have hrequest : (u.readOff lbn).store.admission = (u.store.admission
      || (u.assembler.stage.isSome && decide (lbn = u.ring.tail) && ((u.findBlock lbn).map fun b => decide (b.readsInFlight ≤ 1)).getD false)) := rfl
  refine storeForm_iff.mpr ⟨⟨?_, fun b hb => ?_, fun k hk hread => ?_, ?_⟩, fun hyes => ?_, fun hf hno => ?_⟩
  · show u.store.inFlight.length ≤ 3
    omega
  · rw [hoff, hblocks] at hb
    obtain ⟨x, hx, rfl⟩ := List.mem_map.mp hb
    have hcount := hcounted x hx
    rw [hreads, List.countP_cons] at hcount
    change _ = u.flightReads.countP fun k => k.1 && decide (k.2 = x.1)
    by_cases hat : x.1 = lbn
    · simp [hat] at hcount ⊢
      omega
    · simpa [hat, Ne.symm hat] using hcount
  · obtain ⟨x, hx, hlbn⟩ := hheld k (by rw [hreads]; exact List.mem_cons_of_mem _ hk) hread
    rw [hoff, hblocks]
    exact ⟨_, List.mem_map_of_mem hx, hlbn⟩
  · show Memory.wf u.store.memory = true
    rwa [hmemory]
  · show u.frameWaits
    rw [hsame]
    rw [hrequest, Bool.or_eq_true] at hyes
    obtain hold | hwoken := hyes
    · exact hrequesting.front (hadmission ▸ hold)
    · simp only [Bool.and_eq_true] at hwoken
      exact hfront (hstage ▸ hwoken.1.1)
  · rw [hrequest, Bool.or_eq_false_iff] at hno
    obtain ⟨hold, hasleep⟩ := hno
    obtain ⟨hst, hread⟩ := hrequesting.waits (hsame.mp hf) (hadmission ▸ hold)
    refine ⟨by rw [← hst, ← hstage]; rfl, ?_⟩
    rw [State.tailRead, ← hblocks, ← htail, ← State.tailRead, State.tailRead_iff] at hread
    obtain ⟨a, ha, hat, hpos⟩ := hread
    rw [State.tailRead, hoff]
    refine ⟨_, List.mem_map_of_mem (List.mem_map_of_mem ha), hat, ?_⟩
    dsimp only
    split
    next hlbn =>
      have hfound : u.findBlock lbn = some a := hlbn ▸ State.findBlock_of_mem hdistinct ha
      rw [hstage, hst, ← hat, hlbn, hfound] at hasleep
      simp at hasleep
      omega
    · exact hpos

theorem completeRead (h : StoreForm s) (hdistinct : (s.ring.blocks.map Block.lbn).Nodup) (hfront : s.assembler.stage.isSome = true → s.frameWaits)
    {e : InFlight} {rest : List InFlight} (hflight : s.store.inFlight = e :: rest) (hread : e.isRead = true)
    (units : List UnitResult) (kind : RequestKind) (clamped : Bool) (result : Result) : StoreForm (s.completeRead e units kind clamped result) := by
  unfold State.completeRead
  dsimp only
  rw [State.endRead_eq]
  refine StoreForm.checkDrain ?_ e.group
  have hpopped : s.flightReads = (true, e.lbn) :: (s.popInFlight.mapStore fun t => { t with readsDone := t.readsDone + 1 }).flightReads := by
    change _ = _ :: s.store.inFlight.tail.map _
    rw [State.flightReads, hflight, List.map_cons, hread]
    rfl
  have hcounted : ReadPopped s (s.popInFlight.mapStore fun t => { t with readsDone := t.readsDone + 1 }) e.lbn :=
    ⟨hpopped, rfl, rfl, rfl, rfl, rfl, rfl, rfl⟩
  generalize s.popInFlight.mapStore (fun t => { t with readsDone := t.readsDone + 1 }) = u at hcounted
  have hanswered := hcounted.of_core (Touched.answerRead (u.countCorrected (unitsOf units e.length)) e kind clamped
    (uncorrectable (unitsOf units e.length)) result (Memory.deliver s.store.memory s.store.readsDone e.address e.length))
  split
  · exact h.readOff hanswered.markDamaged hdistinct hfront
  · exact h.readOff hanswered hdistinct hfront

end StoreForm

end Sys2Proof.Machine

/-!
Every command keeps the Store Channel in form (O56): the acts of capture, of the ring and of a working.
-/
namespace Sys2Proof.Machine

variable {s t u : State} {f : Frame} {before : Nat} {x x' : Fate} {b b' : Bool}

/-! ## Acts of capture -/

theorem StoreForm.stored (h : StoreForm s) : Stored s :=
  (storeForm_iff.mp h).1

theorem StoreForm.requesting (h : StoreForm s) : Requesting s :=
  (storeForm_iff.mp h).2

theorem Stored.closeSegment (h : Stored s) (reason : CloseReason) : Stored (s.closeSegment reason) :=
  h.kept (s.closeSegment_heldBlocks reason) (by simp)

theorem Stored.enterStopped (h : Stored s) (reason : StopReason) : Stored (s.enterStopped reason) := by
  have hentered := s.enterStopped_enteredStopped reason
  refine h.congr (State.blockReads_of_heldBlocks (s.enterStopped_heldBlocks reason)) ?_ ?_
  · rw [State.flightReads, hentered.store, State.flightReads]
  · rw [hentered.store]
    exact h.memory

/-- In Stopped intake is empty, and no request stands (R39, R95). -/
theorem StoreForm.enterStopped (h : Stored s) (reason : StopReason) : StoreForm (s.enterStopped reason) := by
  have hentered := s.enterStopped_enteredStopped reason
  refine storeForm_iff.mpr ⟨h.enterStopped reason, .idle ?_ ?_⟩
  · rw [State.frameWaits, hentered.link]
    simp
  · rw [hentered.store]

theorem StoreForm.closeAndStop (h : Stored s) (close : CloseReason) (reason : StopReason) : StoreForm ((s.closeSegment close).enterStopped reason) :=
  .enterStopped (h.closeSegment close) reason

theorem Stored.closeInCourse (h : Stored s) (reason : CloseReason) : Stored (s.closeInCourse reason) := by
  have hclosed := h.closeSegment reason
  unfold State.closeInCourse
  split
  · exact h
  · dsimp only
    split
    · exact hclosed.enterStopped _
    · exact hclosed

theorem StoreForm.stopAtOnce (h : StoreForm s) (close : CloseReason) (reason : StopReason) : StoreForm (s.stopAtOnce close reason) := by
  have hdiscarded : Stored s.discardIntake := h.stored.congr rfl rfl h.stored.memory
  exact .closeAndStop hdiscarded close reason

theorem StoreForm.stopAtEnd (h : StoreForm s) : StoreForm s.stopAtEnd := by
  unfold State.stopAtEnd
  split
  · split
    · exact h.held rfl rfl rfl rfl rfl
    · exact .enterStopped h.stored _
  · exact h

theorem StoreForm.activate (h : StoreForm s) : StoreForm s.activate :=
  h.held (State.heldBlocks_of_blocks (by simp)) (by simp) (by simp) (by simp) (by simp)

theorem StoreForm.stage (h : StoreForm s) (q : Profile) : StoreForm (s.stage q) := by
  have hstaged : StoreForm (s.mapControl fun c => { c with staged := q }) := h.held rfl rfl rfl rfl rfl
  unfold State.stage
  dsimp only
  split
  · exact hstaged.held rfl rfl rfl rfl rfl
  · exact hstaged.activate

theorem StoreForm.testHeadMark (h : StoreForm s) : StoreForm s.testHeadMark := by
  obtain hsame | ⟨u, hcore, -, -, hstop⟩ | ⟨u, hcore, -, -, hstop⟩ := s.testHeadMark_cases
  · exact h.of_core hsame
  · rw [hstop]
    exact (h.of_core hcore).held rfl rfl rfl rfl rfl
  · rw [hstop]
    exact .enterStopped (h.of_core hcore).stored _

theorem StoreForm.reband (h : StoreForm s) : StoreForm s.reband :=
  h.held (State.heldBlocks_of_blocks (by simp)) (by simp) (by simp) (by simp) (by simp)

theorem StoreForm.confirmBlock (h : StoreForm s) (b : Block) (loss : Bool) : StoreForm (s.confirmBlock b loss) := by
  have hconfirmed : StoreForm (s.mapBlock b.lbn fun b => { b with state := .archived }) := h.undrained (s.mapBlock_undrained _ fun _ => rfl)
  have hmarked : StoreForm ((s.mapBlock b.lbn fun b => { b with state := .archived }).markLoss b loss) := by
    unfold State.markLoss
    split
    · exact hconfirmed.held rfl rfl rfl rfl rfl
    · exact hconfirmed
  unfold State.confirmBlock
  generalize (s.mapBlock b.lbn fun b => { b with state := .archived }).markLoss b loss = u at hmarked
  exact hmarked.held (State.heldBlocks_of_blocks (by simp)) (by simp) (by simp) (by simp) (by simp)

/-! ## Pins and port resets -/

theorem StoreForm.pinMoved (h : StoreForm s) (i : Fin 8) (pin : Option PinRange) (r : PinRange) (f : Nat → Nat) : StoreForm (s.pinMoved i pin r f) := by
  have hblocks : (s.pinMoved i pin r f).blockReads = s.blockReads := by
    rw [State.pinMoved_eq]
    simp only [State.blockReads, List.map_map]
    refine List.map_congr_left fun y _ => ?_
    dsimp only [Function.comp]
    split <;> rfl
  exact storeForm_iff.mpr ⟨h.stored.congr hblocks rfl h.stored.memory, h.requesting.congr hblocks rfl rfl rfl rfl⟩

theorem StoreForm.dropPin (h : StoreForm s) (i : Fin 8) : StoreForm (s.dropPin i) := by
  cases hlive : s.pins[i] with
  | none =>
    rw [State.dropPin, hlive]
    exact h
  | some r =>
    rw [State.dropPin_eq hlive]
    exact h.pinMoved ..

theorem StoreForm.dropPins (h : StoreForm s) (l : List (Fin 8)) : StoreForm (l.foldl State.dropPin s) := by
  induction l generalizing s with
  | nil => exact h
  | cons i l ih => exact ih (h.dropPin i)

theorem StoreForm.resetViewer (h : StoreForm s) : StoreForm s.resetViewer := by
  unfold State.resetViewer
  have hqueued : StoreForm (s.mapStore fun t => { t with viewerQueue := [] }) := h.of_core rfl
  exact (hqueued.dropPins _).reband

/-- A discarded requester leaves its read a read. -/
theorem StoreForm.discardReads (h : StoreForm s) (p : Port) : StoreForm (s.discardReads p) := by
  have hsame (e : InFlight) : (e.discardFor p).op = e.op ∧ (e.discardFor p).lbn = e.lbn := by
    unfold InFlight.discardFor
    split
    · split <;> exact ⟨rfl, rfl⟩
    · exact ⟨rfl, rfl⟩
    · exact ⟨rfl, rfl⟩
  have hflight : (s.discardReads p).flightReads = s.flightReads := by
    simp only [State.flightReads, State.discardReads, State.mapStore, List.map_map]
    refine List.map_congr_left fun e _ => ?_
    simp [InFlight.isRead, hsame]
  exact storeForm_iff.mpr ⟨h.stored.congr rfl hflight h.stored.memory, h.requesting.congr rfl rfl rfl rfl rfl⟩

theorem StoreForm.resetPort (h : StoreForm s) (p : Port) : StoreForm (s.resetPort p) := by
  have hbegun : StoreForm ((s.discardSlots p).dropWaits p) := h.of_core (by cases p <;> rfl)
  have howners : StoreForm (((s.discardSlots p).dropWaits p).resetOwners p) := by
    cases p
    · exact hbegun.resetViewer
    · exact hbegun.undrained (State.resetDrain_undrained _)
  unfold State.resetPort
  generalize ((s.discardSlots p).dropWaits p).resetOwners p = u at howners
  exact (howners.discardReads p).of_core (State.mapPort_core ..)

/-! ## Ring formation (R175 to R179) -/

/-- The ring empties where no read is in flight and no frame waits. -/
theorem StoreForm.emptied (h : StoreForm s) (hfront : ¬ s.frameWaits) (hunread : ∀ b ∈ s.ring.blocks, b.readsInFlight = 0)
    (hblocks : t.ring.blocks = []) (hstore : t.store = s.store) (hintake : t.link.intake = s.link.intake) : StoreForm t := by
  have hnone : t.blockReads = [] := by rw [State.blockReads, hblocks]; rfl
  have hflight : t.flightReads = s.flightReads := by rw [State.flightReads, hstore, State.flightReads]
  refine storeForm_iff.mpr ⟨⟨hstore ▸ h.stored.room, by simp [hnone], fun k hk hread => ?_, hstore ▸ h.stored.memory⟩, .idle ?_ ?_⟩
  · rw [hflight] at hk
    obtain ⟨y, hy, hlbn⟩ := h.stored.held k hk hread
    have hcount := h.stored.counted y hy
    obtain ⟨a, ha, rfl⟩ := List.mem_map.mp hy
    rw [hunread a ha] at hcount
    have := List.countP_eq_zero.mp hcount.symm k hk
    simp [hread, ← hlbn] at this
  · rwa [State.frameWaits, hintake]
  · rw [hstore]
    exact h.requesting.admission hfront

theorem Assembling.not_frameWaits (h : Assembling s) (hcapture : ¬ s.capturing) : ¬ s.frameWaits := by
  rw [State.frameWaits, (h.idle hcapture).1]
  simp

theorem StoreForm.putMap {map : List (Fin 16)} (h : StoreForm s) (hf : Formed s) (hcapture : s.control.capture = .unformed ∨ s.control.capture = .idle) :
    StoreForm (s.putMap map) := by
  have hno : ¬ s.capturing := by
    rintro (hc | hc) <;> simp [hc] at hcapture
  obtain ⟨-, -, -, -, -, hlbns, -, -, hempty⟩ := hf.ring
  have hnone : s.ring.blocks = [] := by
    rw [hempty hcapture, Nat.sub_self] at hlbns
    exact List.map_eq_nil_iff.mp hlbns
  exact h.emptied (hf.assembling.not_frameWaits hno) (by simp [hnone]) (by simp [State.putMap]) (by simp [State.putMap]) (by simp [State.putMap])

theorem StoreForm.reform (h : StoreForm s) (hf : Formed s) (hcapture : ¬ s.capturing) (hblocked : s.reformBlocked = false) : StoreForm s.reform := by
  simp only [State.reformBlocked, Bool.or_eq_false_iff] at hblocked
  obtain ⟨-, hreads⟩ := hblocked
  refine h.emptied (hf.assembling.not_frameWaits hcapture) (fun b hb => ?_) (by simp [State.reform]) (by simp [State.reform]) (by simp [State.reform])
  simpa using List.any_eq_false.mp hreads b hb

/-! ## Intake -/

/-- An item that joins intake leaves the frame at the front, or comes to stand there itself. -/
theorem State.joined_front (s : State) (y : IntakeItem) :
    (s.joined y).link.intake.head? = s.link.intake.head? ∨ s.link.intake = [] ∧ (s.joined y).link.intake = [y] := by
  cases hi : s.link.intake with
  | nil => exact .inr ⟨rfl, by simp [State.joined, State.mapLink, hi]⟩
  | cons z rest => exact .inl (by simp [State.joined, State.mapLink, hi])

theorem StoreForm.frameJoins (h : StoreForm s) (ha : Assembling s) (loss : Option LossRecord) : StoreForm (s.joined (.frame f loss)).present := by
  have hstored : Stored (s.joined (.frame f loss)) := h.stored.congr rfl rfl h.stored.memory
  refine storeForm_iff.mpr ⟨hstored.present, Requesting.present fun hf hst hno => ?_⟩
  have hfront : s.frameWaits := ha.front hst
  exact (h.requesting.waits hfront hno).2

theorem StoreForm.markerJoins (h : StoreForm s) {y : IntakeItem} (hy : y.isFrame = false) : StoreForm (s.joined y) := by
  have hstored : Stored (s.joined y) := h.stored.congr rfl rfl h.stored.memory
  refine storeForm_iff.mpr ⟨hstored, ?_⟩
  obtain hsame | ⟨hempty, hjoined⟩ := s.joined_front y
  · have hfront : (s.joined y).frameWaits ↔ s.frameWaits := by rw [State.frameWaits, hsame, State.frameWaits]
    exact ⟨fun hyes => hfront.mpr (h.requesting.front hyes), fun hf hno => h.requesting.waits (hfront.mp hf) hno⟩
  · have hnone : ¬ s.frameWaits := by
      rw [State.frameWaits, hempty]
      simp
    refine .idle ?_ (h.requesting.admission hnone)
    rw [State.frameWaits, hjoined]
    simp [hy]

theorem StoreForm.withdrawn (h : StoreForm s) (hfront : ¬ s.frameWaits) : StoreForm s.granted :=
  storeForm_iff.mpr ⟨h.stored.congr rfl rfl h.stored.memory, .idle hfront rfl⟩

theorem Stored.markerTaken (h : Stored s) (loss : Option LossRecord) : Stored (s.takeMarker.recordLoss loss none) := by
  have htaken : Stored s.takeMarker := h.congr rfl rfl h.memory
  exact htaken.kept (State.heldBlocks_of_blocks (by simp)) (by simp)

theorem StoreForm.resyncWorked (h : StoreForm s) (ha : Assembling s) (hfront : ¬ s.frameWaits) (loss : Option LossRecord) :
    StoreForm ((s.takeMarker.recordLoss loss none).closeInCourse .linkReset).present := by
  have hunstaged : s.assembler.stage = none := by
    by_contra hsome
    exact hfront (ha.front (Option.isSome_iff_ne_none.mpr hsome))
  have hstage : ((s.takeMarker.recordLoss loss none).closeInCourse .linkReset).assembler.stage = none := by
    have htaken : (s.takeMarker.recordLoss loss none).assembler.stage = none := by simpa [State.takeMarker] using hunstaged
    generalize s.takeMarker.recordLoss loss none = u at htaken
    unfold State.closeInCourse
    split
    · exact htaken
    · dsimp only
      split
      · exact (State.enterStopped_enteredStopped ..).stage
      · simpa using htaken
  have hclosed := (h.stored.markerTaken loss).closeInCourse .linkReset
  exact storeForm_iff.mpr ⟨hclosed.present, Requesting.present fun _ hst => by simp [hstage] at hst⟩

/-! ## A working -/

/-- The Store Channel while a frame is worked: a place for its write while the frame is not disposed of, no request, and a read at the Tail where it waits. -/
structure StoreWork (x : Fate) (s : State) : Prop where
  stored : Stored s
  room : x = .pending → s.store.inFlight.length < 3
  withdrawn : s.store.admission = false
  waits : x = .waiting → s.tailRead

theorem StoreWork.step (h : StoreWork x s) (hstored : Stored t) (hflight : t.store.inFlight = s.store.inFlight)
    (hadmission : t.store.admission = false) (hpending : x' = .pending → x = .pending) (hwaits : x' ≠ .waiting) : StoreWork x' t :=
  ⟨hstored, fun hx => hflight ▸ h.room (hpending hx), hadmission, fun hx => absurd hx hwaits⟩

theorem StoreWork.kept (h : StoreWork x s) (hheld : t.heldBlocks = s.heldBlocks) (hstore : t.store = s.store)
    (hpending : x' = .pending → x = .pending) (hwaits : x' ≠ .waiting) : StoreWork x' t :=
  h.step (h.stored.kept hheld hstore) (by rw [hstore]) (hstore ▸ h.withdrawn) hpending hwaits

theorem Fate.ne_waiting (h : x.goesOn = true) : x ≠ .waiting := by
  rintro rfl
  cases h

theorem StoreWork.blockOpened (h : StoreWork .pending s) (ht : TableForm s) (segment : Nat) (required : Bool) (f : Frame) :
    StoreWork .placed (s.blockOpened segment required f) := by
  refine ⟨h.stored.written (h.room rfl) (e := s.writeOf f s.ring.head 0) rfl (.inr ⟨?_, State.blockReads_below ht⟩) rfl rfl, nofun, h.withdrawn, nofun⟩
  exact List.map_append

theorem WorkMove.storeWork (hm : WorkMove before f b x s b' x' t) (hw : WorkForm f x s) (h : StoreWork x s) : StoreWork x' t := by
  cases hm with
  | recordLoss loss => exact h.kept (State.heldBlocks_of_blocks (by simp)) (by simp) id (by simp)
  | sealed hx => exact h.kept s.sealFilling_heldBlocks (by simp) id (Fate.ne_waiting hx)
  | close hx reason => exact h.kept (s.closeSegment_heldBlocks reason) (by simp) id (Fate.ne_waiting hx)
  | stop hx reason =>
    have hentered := s.enterStopped_enteredStopped reason
    refine h.step (h.stored.enterStopped reason) (by simp) (by rw [hentered.store]) (fun hp => ?_) (fun hp => ?_)
    · cases ‹Fate› <;> simp [Fate.stopped] at hp
    · cases ‹Fate› <;> simp [Fate.stopped, Fate.goesOn] at hp hx
  | swap => exact h.kept (State.heldBlocks_of_blocks (by simp)) (by simp) id (by simp)
  | discardCarried => exact h.kept rfl rfl id (by simp)
  | stale => exact h
  | leaves hleaves =>
    have hstore : t.store = s.store := by cases hleaves <;> simp
    exact h.step (h.stored.leaves hleaves) (by rw [hstore]) (hstore ▸ h.withdrawn) id (by simp)
  | settle hx => exact h.kept (State.heldBlocks_of_blocks (by simp)) (by simp) id (Fate.ne_waiting hx)
  | openSegment loss =>
    have hopened := h.blockOpened hw.tableForm s.assembler.nextSegment s.control.active.archiveRequired f
    exact hopened.kept rfl rfl id (by simp)
  | openNext hopen =>
    obtain ⟨e, he⟩ := Option.isSome_iff_exists.mp hopen
    rw [State.nextBlockOpened, he]
    exact (h.blockOpened hw.tableForm e.number e.archiveRequired f).kept rfl rfl id (by simp)
  | append a =>
    refine ⟨h.stored.written (h.room rfl) (e := s.writeOf f a.lbn a.fillBytes) rfl (.inl ?_) rfl rfl, nofun, h.withdrawn, nofun⟩
    change List.map _ (s.ring.blocks.map _) = _
    rw [List.map_map]
    refine List.map_congr_left fun y _ => ?_
    dsimp only [Function.comp]
    split <;> rfl
  | headMark =>
    obtain hsame | ⟨u, hcore, -, -, hstop⟩ | ⟨u, hcore, -, -, hstop⟩ := s.testHeadMark_cases
    · exact ⟨h.stored.of_core hsame, nofun, (congrArg (fun u : State => u.store.admission) hsame :).trans h.withdrawn, nofun⟩
    · rw [hstop]
      exact ⟨(h.stored.of_core hcore).kept rfl rfl, nofun, (congrArg (fun u : State => u.store.admission) hcore :).trans h.withdrawn, nofun⟩
    · rw [hstop]
      exact ⟨(h.stored.of_core hcore).enterStopped _, nofun, by rw [(u.enterStopped_enteredStopped _).store], nofun⟩
  | actOn => exact h.kept rfl rfl id (by simp)
  | drop => exact h.kept rfl rfl (by simp) (by simp)
  | notice k => exact ⟨h.stored.of_core (s.raiseNotice_core k), nofun, (congrArg (fun u : State => u.store.admission) (s.raiseNotice_core k) :).trans h.withdrawn, nofun⟩
  | gap lost cause => exact h.kept (State.heldBlocks_of_blocks (by simp)) (by simp) id (by simp)
  | dropContinuation hx => exact h.kept rfl rfl id (Fate.ne_waiting hx)
  | wait stage htail =>
    obtain ⟨a, ha, hpos⟩ := htail
    exact ⟨h.stored.congr rfl rfl h.stored.memory, nofun, h.withdrawn, fun _ =>
      State.tailRead_iff.mpr ⟨a, List.mem_of_mem_head? ha, hw.tableForm.lbn_of_head ha, hpos⟩⟩

theorem StoreForm.works (h : StoreForm s) (hr : RingForm s) (ha : AssemblyForm s) (hroom : s.store.inFlight.length < 3) {loss : Option LossRecord}
    {rest : List IntakeItem} (hfront : s.link.intake = .frame f loss :: rest) :
    StoreForm (s.granted.beginAct.worked f loss s.assembler.stage).present := by
  obtain ⟨x, -, hx⟩ := State.granted_worked hr ha f loss
  have hgranted : StoreWork .pending s.granted.beginAct := ⟨h.stored.congr rfl rfl h.stored.memory, fun _ => hroom, rfl, nofun⟩
  obtain ⟨hw, hstore⟩ := hx.keeps (K := fun _ x u => WorkForm f x u ∧ StoreWork x u) (fun hs hm => ⟨hm.form hs.1, hm.storeWork hs.1 hs.2⟩)
    ⟨.granted hr ha hfront, hgranted⟩
  refine storeForm_iff.mpr ⟨hstore.stored.present, Requesting.present fun _ hst _ => hstore.waits ?_⟩
  by_contra hno
  simp [hw.unstaged hno] at hst

/-! ## Every command -/

theorem coreKeeps_storeForm : CoreKeeps (fun s => RingForm s ∧ AssemblyForm s ∧ StoreForm s) StoreForm where
  before := by
    rintro s t ⟨hr, ha, hp⟩ hcore
    obtain ⟨hring, hassembly⟩ := coreKeeps_formed.before ⟨hr, ha⟩ hcore
    exact ⟨hring, hassembly, hp.of_core hcore⟩
  after h hcore := h.of_core hcore
  kept h := h.2.2
  start h _ _ := h.2.2.held rfl rfl rfl rfl rfl
  stopAtOnce h close reason := h.2.2.stopAtOnce close reason
  stopAtEnd h := h.2.2.stopAtEnd
  sealFilling h := h.2.2.undrained (State.sealFilling_undrained _)
  expires := by
    rintro s ⟨hr, ha, hp⟩
    obtain ⟨hring, hassembly⟩ := coreKeeps_formed.expires ⟨hr, ha⟩
    exact ⟨hring, hassembly, hp⟩
  stage h q _ := h.2.2.stage q
  headMark h := h.2.2.testHeadMark
  takePin h _ _ := (h.2.2.pinMoved ..).reband
  dropPin h := (h.2.2.dropPin _).reband
  groupNext h g n := h.2.2.putGroup ..
  applyChanges h _ _ := h.2.2.applyChanges
  putMap h hcapture _ := h.2.2.putMap ⟨h.1, h.2.1.assembling⟩ hcapture
  reform h hcapture hblocked := h.2.2.reform ⟨h.1, h.2.1.assembling⟩ hcapture hblocked
  openContext h _ w := h.2.2.held rfl rfl rfl rfl rfl
  closeOne h c := h.2.2.undrained (State.closeOne_undrained ..)
  claim h _ _ _ := h.2.2.undrained (State.claimBlock_undrained ..)
  park tag h _ _ _ _ _ _ := h.2.2.held rfl rfl rfl rfl rfl
  confirm h _ loss := h.2.2.confirmBlock _ loss
  returnOne h _ := h.2.2.undrained (State.returnOne_undrained ..)
  resetPort h p := h.2.2.resetPort p
  frameJoins h _ _ loss := h.2.2.frameJoins h.2.1.assembling loss
  markerJoins h _ loss := h.2.2.markerJoins rfl
  orderlyHalt {s} h _ _ := by
    have hjoined := h.2.2.markerJoins (y := .haltMarker s.link.pendingLoss) rfl
    exact hjoined.held rfl rfl rfl rfl rfl
  reset levels := by
    obtain ⟨-, -, -, -, -, -, -, hstore, -⟩ := Proofs.resetHasEveryForm
    exact hstore.of_core rfl
  settleGroup h _ := h.2.2.settleGroup ..
  works h hroom hfront := h.2.2.works h.1 h.2.1 hroom hfront
  withdrawn h hfront := h.2.2.withdrawn hfront
  haltMarker h _ := .closeAndStop (h.2.2.stored.markerTaken _) _ _
  resyncMarker h hfront := h.2.2.resyncWorked h.2.1.assembling (by simp [State.frameWaits, hfront, IntakeItem.isFrame]) _
  grantFetch h hroom r := h.2.2.grantFetch hroom r
  grantRead h hroom r := h.2.2.grantRead hroom r
  writeCompletes h hflight hop := (h.2.2.writeEnded hflight hop).checkDrain _
  readCompletes h hflight hread units kind clamped result :=
    h.2.2.completeRead h.1.lbns_nodup h.2.1.assembling.front hflight hread units kind clamped result

end Sys2Proof.Machine

namespace Sys2Proof.Proofs
open Sys2Proof.Machine

/-- Settles O56: reads keep their count in step with the list, and a frame waits without a request on a read at the Tail alone. -/
theorem everyStepKeepsTheStoreInForm : Obligations.EveryStepKeepsTheStoreInForm :=
  fun _ _ hr ha hp hst => coreKeeps_storeForm.step hr ha hp hst

end Sys2Proof.Proofs

/-!
The bank groups in form (O58), group by group: what a group's state says of the operations in flight on it and of its contents.
-/
namespace Sys2Proof.Machine

variable {s t u : State} {g x : Fin 16} {st : GroupState}

/-! ## The form of one group -/

/-- The group holds no defined contents. -/
def Blank (m : List Host.Cell) (g : Fin 16) : Prop :=
  ∀ a, g.val * groupBytes ≤ a → a < (g.val + 1) * groupBytes → Memory.read m a = none

theorem blank_iff (m : List Host.Cell) (g : Fin 16) :
    Blank m g ↔ ∀ c ∈ m, c.1 < g.val * groupBytes ∨ (g.val + 1) * groupBytes ≤ c.1 := by
  have hread (a : Nat) : Memory.read m a = none ↔ ∀ c ∈ m, c.1 ≠ a := by
    simp [Memory.read]
  constructor
  · intro h c hc
    by_contra hin
    exact (hread c.1).mp (h c.1 (by omega) (by omega)) c hc rfl
  · intro h a hlow hhigh
    refine (hread a).mpr fun c hc heq => ?_
    have := h c hc
    omega

theorem Blank.forget {m : List Host.Cell} (h : Blank m g) (lo hi : Nat) : Blank (Memory.forget m lo hi) g := by
  intro a hlow hhigh
  rw [Memory.read_forget]
  split
  · rfl
  · exact h a hlow hhigh

theorem blank_forgotten (m : List Host.Cell) (g : Fin 16) : Blank (Memory.forget m (g.val * groupBytes) ((g.val + 1) * groupBytes)) g := by
  intro a hlow hhigh
  rw [Memory.read_forget, if_pos ⟨hlow, hhigh⟩]

/-- The phase waits for the operations in flight. -/
def GroupState.drains : GroupState → Bool
  | .changing _ _ .draining => true
  | .changing _ _ (.timing _) => false
  | .settled _ => false

/-- A group in this state is in form, where this tells whether no operation is in flight on it and whether it is blank (R158, R166, R170, R171). -/
structure GroupState.Fits (st : GroupState) (idle : Bool) (blank : Prop) : Prop where
  legal : st.legal = true
  waits : st.drains = true → idle = false
  holds : idle = false → st.mayHoldOperations = true
  blank : st.empty = true → blank

/-- The write lies within its group (R5). -/
def InFlight.inGroup (e : InFlight) : Prop :=
  ∀ d : List Byte, e.op = .admissionWrite d → e.group.val * groupBytes ≤ e.address ∧ e.address + d.length ≤ (e.group.val + 1) * groupBytes

/-- The group is in form. -/
def State.groupFits (s : State) (g : Fin 16) : Prop :=
  s.power.groups[g].state.Fits (s.groupIdle g) (Blank s.store.memory g)

/-- Every mapped group is Active while capture runs (R91). -/
def State.mapRuns (s : State) : Prop :=
  s.capturing → ∀ g ∈ s.power.groupMap, s.power.groups[g].state = .settled .active

/-- The bank groups in form, but for one group where one is named. -/
structure Powered (s : State) (but : Option (Fin 16)) : Prop where
  mapped : s.mapRuns
  groups : ∀ g, some g ≠ but → s.groupFits g
  writes : ∀ e ∈ s.store.inFlight, e.inGroup

theorem State.groupIdle_eq_false : s.groupIdle g = false ↔ ∃ e ∈ s.store.inFlight, e.group = g := by
  simp [groupIdle]

theorem powerForm_iff : PowerForm s ↔ Powered s none := by
  have hdrains (st : GroupState) : (match st with | .changing _ _ .draining => true | _ => false) = st.drains := by
    cases st with
    | settled p => rfl
    | changing a b phase => cases phase <;> rfl
  constructor
  · rintro ⟨hmapped, hlegal, hwaits, hholds, hwrites, hblank⟩
    refine ⟨hmapped, fun g _ => ⟨hlegal g, fun hd => hwaits g ((hdrains _).trans hd), fun hbusy => ?_, fun he => (blank_iff ..).mpr (hblank g he)⟩, hwrites⟩
    obtain ⟨e, he, rfl⟩ := State.groupIdle_eq_false.mp hbusy
    exact hholds e he
  · rintro ⟨hmapped, hgroups, hwrites⟩
    have hfits (g : Fin 16) : s.groupFits g := hgroups g (by simp)
    refine ⟨hmapped, fun g => (hfits g).legal, fun g hd => (hfits g).waits ((hdrains _).symm.trans hd), fun e he => ?_, hwrites,
      fun g he => (blank_iff ..).mp ((hfits g).blank he)⟩
    exact (hfits e.group).holds (State.groupIdle_eq_false.mpr ⟨e, he, rfl⟩)

namespace Powered

variable {but : Option (Fin 16)}

theorem fits (h : Powered s none) (g : Fin 16) : s.groupFits g :=
  h.groups g (by simp)

theorem congr (h : Powered s but) (hpower : t.power = s.power) (hflight : t.store.inFlight = s.store.inFlight)
    (hmemory : t.store.memory = s.store.memory) (hcapture : t.capturing → s.capturing) : Powered t but := by
  obtain ⟨hmapped, hgroups, hwrites⟩ := h
  refine ⟨fun hc => ?_, fun g hg => ?_, by rwa [hflight]⟩
  · rw [hpower]
    exact hmapped (hcapture hc)
  · have := hgroups g hg
    rwa [State.groupFits, State.groupIdle, hpower, hflight, hmemory]

theorem of_core (h : Powered s but) (hcore : t.core = s.core) : Powered t but := by
  obtain ⟨hmapped, hgroups, hwrites⟩ := h
  have hform : Powered s.core but := ⟨hmapped, hgroups, hwrites⟩
  rw [← hcore] at hform
  obtain ⟨hmapped, hgroups, hwrites⟩ := hform
  exact ⟨hmapped, hgroups, hwrites⟩

/-! ## One group changes its state -/

/-- The named group takes a state that fits; contents may be lost elsewhere too. -/
theorem put (h : Powered s (some g)) (hfits : st.Fits (s.groupIdle g) (Blank t.store.memory g)) (hmapped : s.capturing → g ∉ s.power.groupMap ∨ st = .settled .active)
    (hgroups : ∀ x : Fin 16, t.power.groups[x].state = if g = x then st else s.power.groups[x].state) (hmap : t.power.groupMap = s.power.groupMap)
    (hflight : t.store.inFlight = s.store.inFlight) (hblank : ∀ x, Blank s.store.memory x → Blank t.store.memory x)
    (hcapture : t.control.capture = s.control.capture) : Powered t none := by
  have hidle (x : Fin 16) : t.groupIdle x = s.groupIdle x := by rw [State.groupIdle, hflight, State.groupIdle]
  refine ⟨fun hc x hx => ?_, fun x _ => ?_, by rw [hflight]; exact h.writes⟩
  · have hcapturing : s.capturing := by simpa only [State.capturing, hcapture] using hc
    rw [hmap] at hx
    rw [hgroups]
    split
    next hgx =>
      obtain hno | hactive := hmapped hcapturing
      · exact absurd (hgx ▸ hx) hno
      · exact hactive
    · exact h.mapped hcapturing x hx
  · rw [State.groupFits, hgroups, hidle]
    split
    next hgx => exact hgx ▸ hfits
    next hgx =>
      obtain ⟨hlegal, hwaits, hholds, hblanks⟩ := h.groups x (by simpa using Ne.symm hgx)
      exact ⟨hlegal, hwaits, hholds, fun he => hblank x (hblanks he)⟩

/-- The group settles in its Target. -/
theorem settleGroup (h : Powered s (some g)) {a b : GroupPower} (hmapped : s.capturing → g ∉ s.power.groupMap) (hbusy : b ≠ .active → s.groupIdle g = true) :
    Powered (s.settleGroup g a b) none := by
  have hsettled : Powered (s.settled g a b) none := by
    have hgroups := State.settled_groups s g
    have hcontents : (s.settled g a b).store.memory
        = if a = .off ∨ b = .off then Memory.forget s.store.memory (g.val * groupBytes) ((g.val + 1) * groupBytes) else s.store.memory := by
      rw [State.settled_eq]
    have hfits : GroupState.Fits (.settled b) (s.groupIdle g) (Blank (s.settled g a b).store.memory g) := by
      refine ⟨rfl, nofun, fun hb => ?_, fun he => ?_⟩
      · by_cases hactive : b = .active
        · subst hactive
          rfl
        · rw [hbusy hactive] at hb
          cases hb
      · rw [hcontents, if_pos (.inr (by cases b <;> simp [GroupState.empty] at he ⊢))]
        exact blank_forgotten _ _
    refine h.put hfits (fun hc => .inl (hmapped hc)) (fun x => ?_) ?_ ?_ (fun x hx => ?_) ?_
    · rw [hgroups]
      split <;> rfl
    · rw [State.settled_eq]
    · rw [State.settled_eq]
    · rw [hcontents]
      split
      · exact hx.forget _ _
      · exact hx
    · rw [State.settled_eq]
  rw [State.settleGroup_eq]
  split
  · exact hsettled
  · exact hsettled.of_core (State.raise_core ..)

theorem but_some (h : Powered s none) (g : Fin 16) : Powered s (some g) :=
  ⟨h.mapped, fun x _ => h.fits x, h.writes⟩

theorem of_but (h : Powered s (some g)) (hfits : s.groupFits g) : Powered s none := by
  refine ⟨h.mapped, fun x _ => ?_, h.writes⟩
  by_cases hx : x = g
  · exact hx ▸ hfits
  · exact h.groups x (by simpa using hx)

/-- A mapped group does not change while capture runs. -/
theorem not_mapped (h : Powered s but) (hchanging : s.changing g) : s.capturing → g ∉ s.power.groupMap := by
  intro hc hg
  obtain ⟨a, b, phase, hstate⟩ := hchanging
  cases hstate.symm.trans (h.mapped hc g hg)

/-- An operation has ended on a group: its drain ends where it was the last (R171). -/
theorem checkDrain (h : Powered s (some g)) (hlegal : s.power.groups[g].state.legal = true)
    (hholds : s.groupIdle g = false → s.power.groups[g].state.mayHoldOperations = true)
    (hblank : s.power.groups[g].state.empty = true → Blank s.store.memory g) : Powered (s.checkDrain g) none := by
  have hkept (hno : s.power.groups[g].state.drains = true → s.groupIdle g = false) : Powered s none :=
    h.of_but ⟨hlegal, hno, hholds, hblank⟩
  unfold State.checkDrain
  split
  next hidle =>
    have hnot (p : GroupPower) : p ≠ .active → s.groupIdle g = true := fun _ => hidle
    cases hstate : s.power.groups[g].state with
    | settled p =>
      rw [State.endDraining_of_not_drains (by rintro ⟨a, b, hd⟩; cases hstate.symm.trans hd)]
      exact hkept (by rw [hstate]; exact nofun)
    | changing a b phase =>
      have hmapped := h.not_mapped ⟨a, b, phase, hstate⟩
      rw [hstate] at hlegal
      cases phase with
      | timing left =>
        rw [State.endDraining_of_timing hstate]
        exact hkept (by rw [hstate]; exact nofun)
      | draining =>
        cases b with
        | off =>
          rw [State.endDraining_of_off hstate]
          exact h.settleGroup hmapped (hnot _)
        | retain =>
          rw [State.endDraining_of_retain hstate]
          have hactive : a = .active := by cases a <;> simp [GroupState.legal] at hlegal ⊢
          subst hactive
          refine h.put (st := .changing .active .retain (.timing 200)) ⟨rfl, nofun, fun hb => ?_, nofun⟩ (fun hc => .inl (hmapped hc)) (fun x => ?_) rfl rfl
            (fun _ hx => hx) rfl
          · rw [hidle] at hb
            cases hb
          · rw [State.putGroup_groups]
            split <;> rfl
        | active => cases a <;> cases hlegal
  next hbusy => exact hkept fun _ => by simpa using hbusy

end Powered

end Sys2Proof.Machine

/-!
Every command keeps the bank groups in form (O58).
-/
namespace Sys2Proof.Machine

variable {s t u : State} {g x : Fin 16} {st : GroupState} {f : Frame} {before : Nat} {y y' : Fate} {b b' : Bool} {but : Option (Fin 16)}

theorem GroupState.not_empty_of_mayHold (h : st.mayHoldOperations = true) : st.empty = false := by
  cases st with
  | settled p => cases p <;> simp_all [mayHoldOperations, empty]
  | changing a b phase => cases a <;> simp_all [mayHoldOperations, empty]

/-- The state that an ApplyGroups leaves a group in fits (R169, R170, R171). -/
theorem appliedState_fits {p n : GroupPower} {idle : Bool} {m : Prop} (hne : p ≠ n) (hbusy : idle = false → p = .active) (hblank : p = .off → m)
    (hlost : p ≠ .off → appliedState p n idle = .settled .off → m) : (appliedState p n idle).Fits idle m := by
  cases p <;> cases n
  case off.off | retain.retain | active.active => exact absurd rfl hne
  case off.retain | off.active => exact ⟨rfl, nofun, fun hb => (nomatch hbusy hb), fun _ => hblank rfl⟩
  case retain.active => exact ⟨rfl, nofun, fun hb => (nomatch hbusy hb), nofun⟩
  case retain.off => exact ⟨rfl, nofun, fun hb => (nomatch hbusy hb), fun _ => hlost (by decide) rfl⟩
  case active.off =>
    cases idle
    · exact ⟨rfl, fun _ => rfl, fun _ => rfl, nofun⟩
    · exact ⟨rfl, nofun, nofun, fun _ => hlost (by decide) rfl⟩
  case active.retain =>
    cases idle
    · exact ⟨rfl, fun _ => rfl, fun _ => rfl, nofun⟩
    · exact ⟨rfl, nofun, nofun, nofun⟩

theorem Group.changed_fits {r : Group} {idle : Bool} {m m' : Prop} (h : r.state.Fits idle m) (hkept : m → m')
    (hlost : r.state ≠ .settled .off → (r.changed idle).state = .settled .off → m') : (r.changed idle).state.Fits idle m' := by
  obtain ⟨hlegal, hwaits, hholds, hblank⟩ := h
  have hsame (he : r.changed idle = r) : (r.changed idle).state.Fits idle m' := by
    rw [he]
    exact ⟨hlegal, hwaits, hholds, hkept ∘ hblank⟩
  cases hstate : r.state with
  | changing a b phase =>
    refine hsame ?_
    unfold changed
    rw [hstate]
  | settled p =>
    by_cases hp : p = r.next
    · refine hsame ?_
      unfold changed
      rw [hstate]
      exact if_pos hp
    · have hchanged : (r.changed idle).state = appliedState p r.next idle := by
        unfold changed
        rw [hstate]
        exact congrArg Group.state (if_neg hp)
      rw [hchanged, hstate] at hlost
      rw [hstate] at hholds hblank
      rw [hchanged]
      refine appliedState_fits hp (fun hb => ?_) (fun hoff => ?_) (fun hoff => hlost (by simpa using hoff))
      · have := hholds hb
        cases p
        case active => rfl
        case off | retain => cases this
      · subst hoff
        exact hkept (hblank rfl)

namespace Powered

/-! ## Acts of capture and of the ring -/

theorem undrained (h : Powered s but) (hkept : t.undrained = s.undrained) : Powered t but := by
  have hcontrol : t.control.capture = s.control.capture := (congrArg (fun u : State => u.control.capture) hkept :)
  exact h.congr (congrArg State.power hkept :) (congrArg (fun u : State => u.store.inFlight) hkept :)
    (congrArg (fun u : State => u.store.memory) hkept :) fun hc => by simpa only [State.capturing, hcontrol] using hc

/-- An act that leaves the capture state, the groups and the store. -/
theorem kept (h : Powered s but) (hpower : t.power = s.power) (hstore : t.store = s.store) (hcapture : t.control.capture = s.control.capture) :
    Powered t but :=
  h.congr hpower (by rw [hstore]) (by rw [hstore]) fun hc => by simpa only [State.capturing, hcapture] using hc

theorem closeSegment (h : Powered s but) (reason : CloseReason) : Powered (s.closeSegment reason) but :=
  h.kept (by simp) (by simp) (by simp)

theorem enterStopped (h : Powered s but) (reason : StopReason) : Powered (s.enterStopped reason) but := by
  have hentered := s.enterStopped_enteredStopped reason
  refine h.congr (by simp) (by simp) (by simp) fun hc => ?_
  rw [State.capturing, hentered.control] at hc
  obtain hc | hc := hc <;> cases hc

theorem closeInCourse (h : Powered s but) (reason : CloseReason) : Powered (s.closeInCourse reason) but := by
  have hclosed := h.closeSegment reason
  unfold State.closeInCourse
  split
  · exact h
  · dsimp only
    split
    · exact hclosed.enterStopped _
    · exact hclosed

theorem stopAtOnce (h : Powered s but) (close : CloseReason) (reason : StopReason) : Powered (s.stopAtOnce close reason) but := by
  have hdiscarded : Powered s.discardIntake but := h.congr rfl rfl rfl id
  exact (hdiscarded.closeSegment close).enterStopped reason

theorem stopAtEnd (h : Powered s but) : Powered s.stopAtEnd but := by
  unfold State.stopAtEnd
  split
  next hrunning =>
    split
    · exact h.congr rfl rfl rfl fun _ => .inl hrunning
    · exact h.enterStopped _
  · exact h

theorem activate (h : Powered s but) : Powered s.activate but :=
  h.kept (by simp) (by simp) (by simp)

theorem stage (h : Powered s but) (q : Profile) : Powered (s.stage q) but := by
  have hstaged : Powered (s.mapControl fun c => { c with staged := q }) but := h.kept rfl rfl rfl
  unfold State.stage
  dsimp only
  split
  · exact hstaged.kept rfl rfl rfl
  · exact hstaged.activate

theorem testHeadMark (h : Powered s but) : Powered s.testHeadMark but := by
  obtain hsame | ⟨u, hcore, -, hrunning, hstop⟩ | ⟨u, hcore, -, -, hstop⟩ := s.testHeadMark_cases
  · exact h.of_core hsame
  · rw [hstop]
    exact (h.of_core hcore).congr rfl rfl rfl fun _ => .inl hrunning
  · rw [hstop]
    exact (h.of_core hcore).enterStopped _

theorem reband (h : Powered s but) : Powered s.reband but :=
  h.kept (by simp) (by simp) (by simp)

theorem confirmBlock (h : Powered s but) (b : Block) (loss : Bool) : Powered (s.confirmBlock b loss) but := by
  have hmarked : Powered ((s.mapBlock b.lbn fun b => { b with state := .archived }).markLoss b loss) but := by
    unfold State.markLoss
    split <;> exact h.kept rfl rfl rfl
  unfold State.confirmBlock
  generalize (s.mapBlock b.lbn fun b => { b with state := .archived }).markLoss b loss = u at hmarked
  exact hmarked.kept (by simp) (by simp) (by simp)

theorem dropPin (h : Powered s but) (i : Fin 8) : Powered (s.dropPin i) but :=
  h.kept (by simp) (by simp) (by simp)

theorem resetViewer (h : Powered s but) : Powered s.resetViewer but := by
  unfold State.resetViewer
  have hqueued : Powered (s.mapStore fun t => { t with viewerQueue := [] }) but := h.of_core rfl
  generalize (s.mapStore fun t => { t with viewerQueue := [] }) = u at hqueued
  have hdropped (l : List (Fin 8)) : Powered (l.foldl State.dropPin u) but := by
    induction l generalizing u with
    | nil => exact hqueued
    | cons i l ih => exact ih _ (hqueued.dropPin i)
  exact (hdropped _).reband

/-- A discarded requester leaves its operation where it is. -/
theorem discardReads (h : Powered s none) (p : Port) : Powered (s.discardReads p) none := by
  have hsame (e : InFlight) : (e.discardFor p).op = e.op ∧ (e.discardFor p).group = e.group ∧ (e.discardFor p).address = e.address := by
    unfold InFlight.discardFor
    split
    · split <;> exact ⟨rfl, rfl, rfl⟩
    · exact ⟨rfl, rfl, rfl⟩
    · exact ⟨rfl, rfl, rfl⟩
  have hflight : (s.discardReads p).store.inFlight = s.store.inFlight.map fun e => e.discardFor p := rfl
  have hidle (g : Fin 16) : (s.discardReads p).groupIdle g = s.groupIdle g := by
    simp [State.groupIdle, hflight, List.all_map, Function.comp_def, hsame]
  refine ⟨h.mapped, fun g _ => ?_, fun e he => ?_⟩
  · have := h.fits g
    rwa [State.groupFits, ← hidle] at this
  · rw [hflight] at he
    obtain ⟨a, ha, rfl⟩ := List.mem_map.mp he
    obtain ⟨hop, hgroup, haddress⟩ := hsame a
    rw [InFlight.inGroup, hop, hgroup, haddress]
    exact h.writes a ha

theorem resetPort (h : Powered s none) (p : Port) : Powered (s.resetPort p) none := by
  have hbegun : Powered ((s.discardSlots p).dropWaits p) none := h.of_core (by cases p <;> rfl)
  have howners : Powered (((s.discardSlots p).dropWaits p).resetOwners p) none := by
    cases p
    · exact hbegun.resetViewer
    · exact hbegun.undrained (State.resetDrain_undrained _)
  unfold State.resetPort
  generalize ((s.discardSlots p).dropWaits p).resetOwners p = u at howners
  exact (howners.discardReads p).of_core (State.mapPort_core ..)

/-! ## Ring formation and the start of capture (R91, R175 to R179) -/

/-- A new map, or the groups as they are, while capture does not run. -/
theorem idle (h : Powered s none) (hgroups : t.power.groups = s.power.groups) (hstore : t.store = s.store) (hcapture : ¬ t.capturing) : Powered t none := by
  refine ⟨fun hc => absurd hc hcapture, fun g _ => ?_, by rw [hstore]; exact h.writes⟩
  have := h.fits g
  rwa [State.groupFits, State.groupIdle, hgroups, hstore]

theorem startCapture (h : Powered s none) (hactive : s.mapActive = true) : Powered s.startCapture none := by
  refine ⟨fun _ g hg => ?_, fun g _ => h.fits g, h.writes⟩
  exact of_decide_eq_true (List.all_eq_true.mp hactive g hg)

/-! ## Changes of power state (R167 to R172) -/

theorem groupNext (h : Powered s none) (g : Fin 16) (n : GroupPower) : Powered (s.putGroup g { s.power.groups[g] with next := n }) none := by
  refine (h.but_some g).put (h.fits g) (fun hc => ?_) (fun x => ?_) rfl rfl (fun _ hx => hx) rfl
  · by_cases hg : g ∈ s.power.groupMap
    · exact .inr (h.mapped hc g hg)
    · exact .inl hg
  · rw [State.putGroup_groups]
    split
    next hgx => subst hgx; rfl
    · rfl

/-- The settle of a group whose time has run out. -/
theorem timeOut (h : Powered s none) {p q : GroupPower} {left : Nat} (hstate : s.power.groups[g].state = .changing p q (.timing left)) :
    Powered (s.settleGroup g p q) none := by
  refine (h.but_some g).settleGroup (h.not_mapped ⟨p, q, _, hstate⟩) fun _ => ?_
  by_contra hbusy
  have := (h.fits g).holds (by simpa using hbusy)
  rw [hstate] at this
  cases p <;> cases q <;> cases this

/-- Every recorded change has started, and none of a mapped group while capture runs. -/
theorem changed (h : Powered s none) (hstill : ∀ g : Fin 16, ¬ s.changing g) (hrefused : s.refusedGroup = none) : Powered s.changed none := by
  classical
  have hgroups := State.changed_groups hstill
  have hpower : s.changed.power.groupMap = s.power.groupMap := by rw [State.changed_eq hstill]
  have hflight : s.changed.store.inFlight = s.store.inFlight := by rw [State.changed_eq hstill]
  have hcapture : s.changed.control = s.control := by rw [State.changed_eq hstill]
  have hidle (g : Fin 16) : s.changed.groupIdle g = s.groupIdle g := by rw [State.groupIdle, hflight, State.groupIdle]
  refine ⟨fun hc g hg => ?_, fun g _ => ?_, by rw [hflight]; exact h.writes⟩
  · rw [State.capturing, hcapture] at hc
    rw [hpower] at hg
    have hactive := h.mapped hc g hg
    have hnext : s.power.groups[g].next = .active := by
      by_contra hwants
      have hmem : g ∈ s.wanting := State.mem_wanting.mpr (by rw [hactive]; simpa using Ne.symm hwants)
      have hno := List.find?_eq_none.mp hrefused g hmem
      obtain hc | hc := hc <;> simp [hc, State.mapped, hg] at hno
    rw [hgroups, Group.changed, hactive]
    dsimp only
    rw [if_pos hnext.symm]
    exact hactive
  · rw [State.groupFits, hidle, hgroups]
    refine Group.changed_fits (h.fits g) (fun hblank a hlow hhigh => ?_) (fun hon hoff a hlow hhigh => ?_)
    · rw [State.changed_memory hstill, hblank a hlow hhigh, ite_self]
    · rw [State.changed_memory hstill, if_pos ⟨g, hlow, hhigh, hon, by rw [hgroups]; exact hoff⟩]

theorem applyChanges (h : Powered s none) (hstill : s.anyChanging = false) (hrefused : s.refusedGroup = none) : Powered s.applyChanges none := by
  have hnone (g : Fin 16) : ¬ s.changing g := fun hg => by
    rw [State.anyChanging_iff.mpr ⟨g, hg⟩] at hstill
    cases hstill
  exact (h.changed hnone hrefused).of_core (State.core_of_unsignalled (Becomes.applyChanges hnone).2)

/-! ## Operations are issued and end (R49, R123, R143, R158, R159 to R163) -/

/-- An operation is issued on a group that is Active. -/
theorem issued (h : Powered s none) {e : InFlight} (hactive : s.power.groups[e.group].state = .settled .active) (hwrite : e.inGroup)
    (hpower : t.power = s.power) (hflight : t.store.inFlight = s.store.inFlight ++ [e]) (hmemory : t.store.memory = s.store.memory)
    (hcapture : t.control.capture = s.control.capture) : Powered t none := by
  have hidle (g : Fin 16) : t.groupIdle g = (s.groupIdle g && decide (e.group ≠ g)) := by simp [State.groupIdle, hflight]
  refine ⟨fun hc => ?_, fun g _ => ?_, fun a ha => ?_⟩
  · rw [hpower]
    exact h.mapped (by simpa only [State.capturing, hcapture] using hc)
  · obtain ⟨hlegal, hwaits, hholds, hblank⟩ := h.fits g
    rw [State.groupFits, hpower, hmemory, hidle]
    refine ⟨hlegal, fun hd => by rw [hwaits hd, Bool.false_and], fun hbusy => ?_, hblank⟩
    by_cases hg : e.group = g
    · rw [← hg, hactive]
      rfl
    · refine hholds ?_
      simpa [hg] using hbusy
  · rw [hflight] at ha
    obtain hold | hnew := List.mem_append.mp ha
    · exact h.writes a hold
    · cases List.mem_singleton.mp hnew
      exact hwrite

theorem issueRead (h : Powered s none) {lbn : Nat} (hactive : s.blockActive lbn = true) (p : Port) (tag : Byte)
    {op : Operation} (hop : ∀ d, op ≠ .admissionWrite d) (offset length : Nat) : Powered (s.issueRead p tag op lbn offset length) none := by
  unfold State.issueRead
  dsimp only
  refine Powered.of_core ?_ (State.setProgress_core ..)
  exact h.issued (e := InFlight.mk op lbn (s.groupOf lbn) (s.storeAddress lbn offset) length (.request p tag)) (of_decide_eq_true hactive)
    (fun d hd => absurd hd (hop d)) rfl rfl rfl rfl

theorem grantFetch (h : Powered s none) (r : FetchRequest) : Powered (s.grantFetch r) none := by
  unfold State.grantFetch
  split
  · exact h.of_core (State.refuse_core ..)
  · split
    next hactive => exact h.issueRead hactive _ _ (by simp) _ _
    · exact h.of_core (State.refuse_core ..)

theorem grantRead (h : Powered s none) (r : ReadRequest) : Powered (s.grantRead r) none := by
  unfold State.grantRead
  split
  · exact h.of_core (State.refuse_core ..)
  · split
    next hactive => exact h.issueRead hactive _ _ (by simp) _ _
    · exact h.of_core (State.refuse_core ..)

/-- What stands of the form while an operation that has left the list may have been the last on its group. -/
structure Popped (s : State) (g : Fin 16) : Prop where
  but : Powered s (some g)
  legal : s.power.groups[g].state.legal = true
  holds : s.groupIdle g = false → s.power.groups[g].state.mayHoldOperations = true
  blank : s.power.groups[g].state.empty = true → Blank s.store.memory g

theorem Popped.checkDrain (h : Popped s g) : Powered (s.checkDrain g) none :=
  h.but.checkDrain h.legal h.holds h.blank

theorem Popped.congr (h : Popped s g) (hpower : t.power = s.power) (hflight : t.store.inFlight = s.store.inFlight)
    (hmemory : t.store.memory = s.store.memory) (hcapture : t.control.capture = s.control.capture) : Popped t g := by
  obtain ⟨but, legal, holds, blank⟩ := h
  refine ⟨but.congr hpower hflight hmemory fun hc => by simpa only [State.capturing, hcapture] using hc, ?_, ?_, ?_⟩
  · rwa [hpower]
  · rwa [State.groupIdle, hflight, hpower]
  · rwa [hpower, hmemory]

theorem Popped.of_core (h : Popped s g) (hcore : t.core = s.core) : Popped t g :=
  h.congr (congrArg State.power hcore :) (congrArg (fun u : State => u.store.inFlight) hcore :) (congrArg (fun u : State => u.store.memory) hcore :)
    (congrArg (fun u : State => u.control.capture) hcore :)

/-- The oldest operation leaves the list; a write's payload may come to stand in its group, which is not empty. -/
theorem popped (h : Powered s none) {e : InFlight} {rest : List InFlight} (hflight : s.store.inFlight = e :: rest) (hpower : t.power = s.power)
    (hrest : t.store.inFlight = rest) (hcapture : t.control.capture = s.control.capture)
    (hblank : ∀ x, x ≠ e.group → Blank s.store.memory x → Blank t.store.memory x) : Popped t e.group := by
  have hidle {g : Fin 16} (hbusy : t.groupIdle g = false) : s.groupIdle g = false := by
    obtain ⟨a, ha, hg⟩ := State.groupIdle_eq_false.mp hbusy
    exact State.groupIdle_eq_false.mpr ⟨a, by rw [hflight]; exact List.mem_cons_of_mem _ (hrest ▸ ha), hg⟩
  have hbusy : s.groupIdle e.group = false := State.groupIdle_eq_false.mpr ⟨e, by rw [hflight]; exact List.mem_cons_self .., rfl⟩
  have hmay := (h.fits e.group).holds hbusy
  have hempty := GroupState.not_empty_of_mayHold hmay
  refine ⟨⟨fun hc => ?_, fun g hg => ?_, fun a ha => ?_⟩, ?_, fun hb => ?_, fun he => ?_⟩
  · rw [hpower]
    exact h.mapped (by simpa only [State.capturing, hcapture] using hc)
  · have hne : g ≠ e.group := by simpa using hg
    obtain ⟨hlegal, hwaits, hholds, hblanks⟩ := h.fits g
    rw [State.groupFits, hpower]
    refine ⟨hlegal, fun hd => ?_, fun hb => hholds (hidle hb), fun he => hblank g hne (hblanks he)⟩
    obtain ⟨a, ha, hag⟩ := State.groupIdle_eq_false.mp (hwaits hd)
    rw [hflight] at ha
    obtain rfl | ha := List.mem_cons.mp ha
    · exact absurd hag.symm hne
    · exact State.groupIdle_eq_false.mpr ⟨a, hrest ▸ ha, hag⟩
  · exact h.writes a (by rw [hflight]; exact List.mem_cons_of_mem _ (hrest ▸ ha))
  · rw [hpower]
    exact (h.fits e.group).legal
  · rw [hpower]
    exact hmay
  · rw [hpower, hempty] at he
    cases he

theorem writeCompletes (h : Powered s none) {e : InFlight} {rest : List InFlight} {payload : List Byte} (hflight : s.store.inFlight = e :: rest)
    (hop : e.op = .admissionWrite payload) : Powered ((s.popInFlight.storePayload e.address payload).checkDrain e.group) none := by
  refine (h.popped (t := s.popInFlight.storePayload e.address payload) hflight rfl (by show s.store.inFlight.tail = rest; rw [hflight]; rfl) rfl fun x hx hblank a hlow hhigh => ?_).checkDrain
  obtain ⟨hfirst, hlast⟩ := h.writes e (by rw [hflight]; exact List.mem_cons_self ..) payload hop
  have hne : x.val ≠ e.group.val := fun heq => hx (Fin.ext heq)
  change Memory.read (Memory.write s.store.memory e.address payload) a = none
  rw [Memory.read_write_outside]
  · exact hblank a hlow hhigh
  · have hgroup : 0 < groupBytes := by decide
    obtain hlt | hlt := Nat.lt_or_gt_of_ne hne
    · have := Nat.mul_le_mul_right groupBytes (Nat.succ_le_of_lt hlt)
      left
      exact lt_of_lt_of_le hhigh (this.trans hfirst)
    · have := Nat.mul_le_mul_right groupBytes (Nat.succ_le_of_lt hlt)
      right
      exact hlast.trans (this.trans hlow)

theorem completeRead (h : Powered s none) {e : InFlight} {rest : List InFlight} (hflight : s.store.inFlight = e :: rest)
    (units : List UnitResult) (kind : RequestKind) (clamped : Bool) (result : Result) : Powered (s.completeRead e units kind clamped result) none := by
  unfold State.completeRead
  dsimp only
  rw [State.endRead_eq]
  have hpopped : Popped (s.popInFlight.mapStore fun t => { t with readsDone := t.readsDone + 1 }) e.group :=
    h.popped hflight rfl (by show s.store.inFlight.tail = rest; rw [hflight]; rfl) rfl fun _ _ hx => hx
  generalize s.popInFlight.mapStore (fun t => { t with readsDone := t.readsDone + 1 }) = u at hpopped
  have hanswered := hpopped.of_core (Touched.answerRead (u.countCorrected (unitsOf units e.length)) e kind clamped
    (uncorrectable (unitsOf units e.length)) result (Memory.deliver s.store.memory s.store.readsDone e.address e.length))
  generalize (u.countCorrected (unitsOf units e.length)).answerRead e kind clamped (uncorrectable (unitsOf units e.length)) result
    (Memory.deliver s.store.memory s.store.readsDone e.address e.length) = v at hanswered
  have hmarked : Popped (if uncorrectable (unitsOf units e.length) = true then v.markDamaged e.lbn else v) e.group := by
    split
    · have hdamaged : Popped (v.damageMarked e.lbn) e.group := by
        unfold State.damageMarked
        split <;> exact hanswered.congr rfl rfl rfl rfl
      exact hdamaged.of_core (State.raise_core ..)
    · exact hanswered
  generalize (if uncorrectable (unitsOf units e.length) = true then v.markDamaged e.lbn else v) = w at hmarked
  have hoff : Popped (w.readOff e.lbn) e.group := hmarked.congr rfl rfl rfl rfl
  exact hoff.checkDrain

/-! ## A working -/

/-- A write of a frame's payload to a block of the ring, whose groups are Active while capture runs. -/
theorem written (h : Powered s none) (hcapture : s.capturing) (hr : RingForm s) (f : Frame) (lbn : Nat) {offset : Nat}
    (hfits : offset + f.payload.length ≤ blockBytes) (hpower : t.power = s.power) (hflight : t.store.inFlight = s.store.inFlight ++ [s.writeOf f lbn offset])
    (hmemory : t.store.memory = s.store.memory) (hcontrol : t.control.capture = s.control.capture) : Powered t none := by
  refine h.issued (h.mapped hcapture _ (State.groupOf_mem hr.capacity_pos lbn)) (fun d hd => ?_) hpower hflight hmemory hcontrol
  cases Operation.admissionWrite.inj hd
  exact s.storeAddress_in_group lbn hfits

theorem blockOpened (h : Powered s none) (hw : WorkForm f .pending s) (segment : Nat) (required : Bool) :
    Powered (s.blockOpened segment required f) none := by
  refine h.written (hw.pending rfl).1 hw.ring f s.ring.head (offset := 0) ?_ rfl rfl rfl rfl
  obtain ⟨-, hhigh, -⟩ := hw.wellSized
  have : (8192 : Nat) ≤ blockBytes := by decide
  omega

theorem move (h : Powered s none) (hm : WorkMove before f b y s b' y' t) (hw : WorkForm f y s) : Powered t none := by
  cases hm with
  | recordLoss loss => exact h.kept (by simp) (by simp) (by simp)
  | sealed => exact h.undrained s.sealFilling_undrained
  | close hx reason => exact h.closeSegment reason
  | stop hx reason => exact h.enterStopped reason
  | swap => exact h.activate
  | discardCarried => exact h.kept rfl rfl rfl
  | stale => exact h
  | leaves hleaves => cases hleaves <;> exact h.kept (by simp) (by simp) (by simp)
  | settle => exact h.kept (by simp) (by simp) (by simp)
  | openSegment loss => exact (h.blockOpened hw s.assembler.nextSegment s.control.active.archiveRequired).kept rfl rfl rfl
  | openNext hopen =>
    obtain ⟨e, he⟩ := Option.isSome_iff_exists.mp hopen
    rw [State.nextBlockOpened, he]
    exact (h.blockOpened hw e.number e.archiveRequired).kept rfl rfl rfl
  | append a _ _ _ hfits => exact h.written (hw.pending rfl).1 hw.ring f a.lbn hfits rfl rfl rfl rfl
  | headMark => exact h.testHeadMark
  | actOn => exact h.kept rfl rfl rfl
  | drop => exact h.kept rfl rfl rfl
  | notice k => exact h.of_core (s.raiseNotice_core k)
  | gap lost cause => exact h.kept (by simp) (by simp) (by simp)
  | dropContinuation => exact h.kept rfl rfl rfl
  | wait stage => exact h.kept rfl rfl rfl

theorem works (h : Powered s none) (hr : RingForm s) (ha : AssemblyForm s) {loss : Option LossRecord} {rest : List IntakeItem}
    (hfront : s.link.intake = .frame f loss :: rest) : Powered (s.granted.beginAct.worked f loss s.assembler.stage).present none := by
  obtain ⟨y, -, hy⟩ := State.granted_worked hr ha f loss
  have hgranted : Powered s.granted.beginAct none := h.congr rfl rfl rfl id
  obtain ⟨-, hworked⟩ := hy.keeps (K := fun _ y u => WorkForm f y u ∧ Powered u none) (fun hs hm => ⟨hm.form hs.1, hs.2.move hm hs.1⟩)
    ⟨.granted hr ha hfront, hgranted⟩
  exact hworked.congr rfl rfl rfl id

theorem markerTaken (h : Powered s none) (loss : Option LossRecord) : Powered (s.takeMarker.recordLoss loss none) none := by
  have htaken : Powered s.takeMarker none := h.kept rfl rfl rfl
  exact htaken.kept (by simp) (by simp) (by simp)

end Powered

/-! ## Every command -/

theorem coreKeeps_powered : CoreKeeps (fun s => RingForm s ∧ AssemblyForm s ∧ Powered s none) fun s => Powered s none where
  before := by
    rintro s t ⟨hr, ha, hp⟩ hcore
    obtain ⟨hring, hassembly⟩ := coreKeeps_formed.before ⟨hr, ha⟩ hcore
    exact ⟨hring, hassembly, hp.of_core hcore⟩
  after h hcore := h.of_core hcore
  kept h := h.2.2
  start h _ hactive := h.2.2.startCapture hactive
  stopAtOnce h close reason := h.2.2.stopAtOnce close reason
  stopAtEnd h := h.2.2.stopAtEnd
  sealFilling h := h.2.2.undrained (State.sealFilling_undrained _)
  expires := by
    rintro s ⟨hr, ha, hp⟩
    obtain ⟨hring, hassembly⟩ := coreKeeps_formed.expires ⟨hr, ha⟩
    exact ⟨hring, hassembly, hp.kept rfl rfl rfl⟩
  stage h q _ := h.2.2.stage q
  headMark h := h.2.2.testHeadMark
  takePin h _ _ := Powered.reband (h.2.2.kept rfl rfl rfl)
  dropPin h := (h.2.2.dropPin _).reband
  groupNext h g n := h.2.2.groupNext g n
  applyChanges h hstill hrefused := h.2.2.applyChanges hstill hrefused
  putMap h _ _ := h.2.2.idle (by simp [State.putMap]) (by simp [State.putMap]) (by simp [State.putMap, State.capturing])
  reform h _ _ := h.2.2.idle (by simp [State.reform]) (by simp [State.reform]) (by simp [State.reform, State.capturing])
  openContext h _ w := h.2.2.kept rfl rfl rfl
  closeOne h c := h.2.2.undrained (State.closeOne_undrained ..)
  claim h _ _ _ := h.2.2.undrained (State.claimBlock_undrained ..)
  park tag h _ _ _ _ _ _ := h.2.2.kept rfl rfl rfl
  confirm h _ loss := h.2.2.confirmBlock _ loss
  returnOne h _ := h.2.2.undrained (State.returnOne_undrained ..)
  resetPort h p := h.2.2.resetPort p
  frameJoins h _ _ loss := h.2.2.congr rfl rfl rfl id
  markerJoins h _ loss := h.2.2.kept rfl rfl rfl
  orderlyHalt h _ _ := h.2.2.kept rfl rfl rfl
  reset levels := by
    obtain ⟨-, -, -, -, -, -, -, -, -, hpower, -⟩ := Proofs.resetHasEveryForm
    exact (powerForm_iff.mp hpower).of_core rfl
  settleGroup h hstate := h.2.2.timeOut hstate
  works h _ hfront := h.2.2.works h.1 h.2.1 hfront
  withdrawn h _ := h.2.2.congr rfl rfl rfl id
  haltMarker h _ := ((h.2.2.markerTaken _).closeSegment _).enterStopped _
  resyncMarker h _ := ((h.2.2.markerTaken _).closeInCourse _).congr rfl rfl rfl id
  grantFetch h _ r := h.2.2.grantFetch r
  grantRead h _ r := h.2.2.grantRead r
  writeCompletes h hflight hop := h.2.2.writeCompletes hflight hop
  readCompletes h hflight _ units kind clamped result := h.2.2.completeRead hflight units kind clamped result

end Sys2Proof.Machine

namespace Sys2Proof.Proofs
open Sys2Proof.Machine

/-- Settles O58: operations are issued on Active groups alone, and a group changes only as its own state and its operations in flight allow. -/
theorem everyStepKeepsThePowerInForm : Obligations.EveryStepKeepsThePowerInForm :=
  fun _ _ hr ha hp hst => powerForm_iff.mpr (coreKeeps_powered.step hr ha (powerForm_iff.mp hp) hst)

end Sys2Proof.Proofs

/-!
The drain contexts in form (O57): what the parked takes and the claims allow, and how sealed and returned blocks are offered.
-/
namespace Sys2Proof.Machine

variable {s t u : State} {front front' : Nat} {but but' : Option Nat} {c d : Fin 4} {n : Nat}

/-! ## The form, against a front and with one block left out -/

/-- How many blocks a context claims. -/
def State.claimed (s : State) (c : Fin 4) : Nat :=
  s.ring.blocks.countP fun b => decide (b.state = .claimed c)

theorem State.claims_length (s : State) (c : Fin 4) : (s.claims c).length = s.claimed c := by
  rw [claims, claimed, List.countP_eq_length_filter]

/-- The window of a parked take is not done at this front, and covers no block of the drain order, unless it is the one left out. -/
structure TakeWaits (s : State) (front : Nat) (but : Option Nat) (k : ParkedTake) : Prop where
  room : s.claimed k.ctx < 8
  isOpen : s.drain.contexts[k.ctx].isSome = true
  undone : ∀ w ∈ s.drain.contexts[k.ctx], w.done front = false
  uncovered : ∀ w ∈ s.drain.contexts[k.ctx], ∀ b ∈ s.ring.blocks, b.drainable = true → some b.lbn ≠ but → w.covers b.lbn = false

/-- The drain contexts in form, where the parked takes may have waited for this front, and this block may yet be offered to them. -/
structure Draining (s : State) (front : Nat) (but : Option Nat) : Prop where
  claims : ∀ c : Fin 4, s.claimed c ≤ 8
  closed : ∀ c : Fin 4, s.drain.contexts[c] = none → s.claimed c = 0
  waits : ∀ k ∈ s.drain.parkedTakes, TakeWaits s front but k
  nodup : (s.drain.parkedTakes.map ParkedTake.ctx).Nodup
  stopped : s.control.capture = .stopped → s.drain.parkedTakes = []

theorem drainForm_iff : DrainForm s ↔ Draining s s.archiveFront none := by
  constructor
  · rintro ⟨hclaims, hparked, hnodup, hstopped⟩
    refine ⟨fun c => ?_, fun c hc => ?_, fun k hk => ?_, hnodup, hstopped⟩
    · rw [← s.claims_length]
      exact (hclaims c).1
    · rw [← s.claims_length, (hclaims c).2 hc]
      rfl
    · obtain ⟨hroom, hopen, hwindow⟩ := hparked k hk
      exact ⟨by rwa [← s.claims_length], hopen, fun w hw => (hwindow w hw).1, fun w hw b hb hdrain _ => (hwindow w hw).2 b hb hdrain⟩
  · rintro ⟨hclaims, hclosed, hwaits, hnodup, hstopped⟩
    refine ⟨fun c => ⟨?_, fun hc => ?_⟩, fun k hk => ?_, hnodup, hstopped⟩
    · rw [s.claims_length]
      exact hclaims c
    · rw [← List.length_eq_zero_iff, s.claims_length]
      exact hclosed c hc
    · obtain ⟨hroom, hopen, hundone, huncovered⟩ := hwaits k hk
      exact ⟨by rwa [s.claims_length], hopen, fun w hw => ⟨hundone w hw, fun b hb hdrain => huncovered w hw b hb hdrain (by simp)⟩⟩

theorem Window.undone_of_le {w : Window} (h : w.done front = false) (hle : front' ≤ front) : w.done front' = false := by
  unfold done at *
  simp only [Bool.and_eq_false_imp, decide_eq_true_eq, decide_eq_false_iff_not] at *
  exact fun hlength hdone => h hlength (hdone.trans hle)

namespace Draining

/-- Claims, the drain order and the parked takes get no more, and the front does not rise. -/
theorem less (h : Draining s front but) (hclaims : ∀ c, t.claimed c ≤ s.claimed c)
    (hdrain : ∀ b ∈ t.ring.blocks, b.drainable = true → some b.lbn ≠ but' → ∃ a ∈ s.ring.blocks, a.lbn = b.lbn ∧ a.drainable = true ∧ some a.lbn ≠ but)
    (hcontexts : t.drain.contexts = s.drain.contexts) (hparked : t.drain.parkedTakes.Sublist s.drain.parkedTakes) (hfront : front' ≤ front)
    (hstopped : t.control.capture = .stopped → t.drain.parkedTakes = []) : Draining t front' but' := by
  refine ⟨fun c => (hclaims c).trans (h.claims c), fun c hc => ?_, fun k hk => ?_, h.nodup.sublist (hparked.map _), hstopped⟩
  · have := h.closed c (by rw [← hcontexts]; exact hc)
    have := hclaims c
    omega
  · obtain ⟨hroom, hopen, hundone, huncovered⟩ := h.waits k (hparked.subset hk)
    refine ⟨(hclaims _).trans_lt hroom, by rwa [hcontexts], fun w hw => ?_, fun w hw b hb hd hno => ?_⟩
    · rw [hcontexts] at hw
      exact Window.undone_of_le (hundone w hw) hfront
    · rw [hcontexts] at hw
      obtain ⟨a, ha, hlbn, had, hane⟩ := hdrain b hb hd hno
      rw [← hlbn]
      exact huncovered w hw a ha had hane

/-- Blocks change, and none becomes Claimed or joins the drain order but the one left out. -/
theorem map (h : Draining s front but) {g : Block → Block} (hblocks : t.ring.blocks = s.ring.blocks.map g) (hlbn : ∀ b, (g b).lbn = b.lbn)
    (hclaims : ∀ b ∈ s.ring.blocks, ∀ c, (g b).state = .claimed c → b.state = .claimed c)
    (hdrain : ∀ b ∈ s.ring.blocks, (g b).drainable = true → some b.lbn ≠ but' → b.drainable = true ∧ some b.lbn ≠ but)
    (hcontexts : t.drain.contexts = s.drain.contexts) (hparked : t.drain.parkedTakes = s.drain.parkedTakes)
    (hfront : front' ≤ front) (hcapture : t.control.capture = .stopped → s.control.capture = .stopped ∨ t.drain.parkedTakes = []) : Draining t front' but' := by
  refine h.less (fun c => ?_) (fun b hb hd hno => ?_) hcontexts (hparked ▸ List.Sublist.refl _) hfront fun hc => ?_
  · rw [State.claimed, hblocks, List.countP_map]
    refine List.countP_mono_left fun b hb hc => ?_
    simpa using hclaims b hb c (by simpa using hc)
  · rw [hblocks] at hb
    obtain ⟨a, ha, rfl⟩ := List.mem_map.mp hb
    rw [hlbn] at hno ⊢
    exact ⟨a, ha, rfl, hdrain a ha hd hno⟩
  · obtain hc | hnone := hcapture hc
    · rw [hparked]
      exact h.stopped hc
    · exact hnone

theorem congr (h : Draining s front but) (hblocks : t.ring.blocks = s.ring.blocks) (hdrain : t.drain = s.drain) (hfront : front' ≤ front)
    (hcapture : t.control.capture = .stopped → s.control.capture = .stopped) : Draining t front' but :=
  h.map (g := id) (by simpa using hblocks) (fun _ => rfl) (fun _ _ _ => id) (fun _ _ hd hno => ⟨hd, hno⟩) (by rw [hdrain]) (by rw [hdrain]) hfront
    fun hc => .inl (hcapture hc)

theorem of_core (h : Draining s front but) (hcore : t.core = s.core) : Draining t front but :=
  h.congr (congrArg (fun u : State => u.ring.blocks) hcore :) (congrArg State.drain hcore :) le_rfl fun hc =>
    (congrArg (fun u : State => u.control.capture) hcore :).symm.trans hc

end Draining

/-! ## A claim (R116, R118) -/

theorem countP_le_succ {l : List Block} (hd : (l.map Block.lbn).Nodup) {p q : Block → Bool}
    (hpq : ∀ b ∈ l, p b = true → q b = true ∨ b.lbn = n) : l.countP p ≤ l.countP q + 1 := by
  induction l with
  | nil => simp
  | cons b l ih =>
    obtain ⟨hnew, hd⟩ := List.nodup_cons.mp hd
    have hrest (x : Block) (hx : x ∈ l) := hpq x (List.mem_cons_of_mem _ hx)
    rw [List.countP_cons, List.countP_cons]
    by_cases hlbn : b.lbn = n
    · have hle : l.countP p ≤ l.countP q := List.countP_mono_left fun x hx hp => by
        obtain hq | hx' := hrest x hx hp
        · exact hq
        · exact absurd (List.mem_map.mpr ⟨x, hx, hx'.trans hlbn.symm⟩) hnew
      split <;> omega
    · have := ih hd hrest
      by_cases hp : p b = true
      · obtain hq | hb := hpq b (List.mem_cons_self ..) hp
        · simp only [hp, hq, if_true]
          omega
        · exact absurd hb hlbn
      · rw [if_neg hp]
        omega

theorem State.claimBlock_blocks (s : State) (n : Nat) (c : Fin 4) :
    (s.claimBlock n c).ring.blocks = s.ring.blocks.map fun b => if b.lbn = n then { b with state := .claimed c } else b := rfl

theorem State.claimBlock_claimed (hd : (s.ring.blocks.map Block.lbn).Nodup) (n : Nat) (c : Fin 4) : (s.claimBlock n c).claimed c ≤ s.claimed c + 1 := by
  rw [claimed, claimBlock_blocks, List.countP_map]
  refine countP_le_succ (n := n) hd fun b _ hc => ?_
  by_cases hlbn : b.lbn = n
  · exact .inr hlbn
  · exact .inl (by simpa [hlbn] using hc)

theorem State.claimBlock_claimed_other (s : State) (n : Nat) (hne : d ≠ c) : (s.claimBlock n c).claimed d ≤ s.claimed d := by
  rw [claimed, claimBlock_blocks, List.countP_map]
  refine List.countP_mono_left fun b _ hc => ?_
  by_cases hlbn : b.lbn = n
  · simp [hlbn, Ne.symm hne] at hc
  · simpa [hlbn] using hc

/-- An Open context with room claims a block; no take of it is parked. -/
theorem Draining.claimBlock (h : Draining s front but) (hd : (s.ring.blocks.map Block.lbn).Nodup) (hroom : s.claimed c < 8)
    (hopen : s.drain.contexts[c].isSome = true) (hno : ∀ k ∈ s.drain.parkedTakes, k.ctx ≠ c) (hbut : but = none ∨ but = some n) :
    Draining (s.claimBlock n c) front none := by
  have hle (d : Fin 4) : (s.claimBlock n c).claimed d ≤ 8 := by
    by_cases hdc : d = c
    · subst hdc
      exact (State.claimBlock_claimed hd n d).trans hroom
    · exact (s.claimBlock_claimed_other n hdc).trans (h.claims d)
  refine ⟨hle, fun d hclosed => ?_, fun k hk => ?_, h.nodup, h.stopped⟩
  · have hne : d ≠ c := by
      rintro rfl
      rw [show s.drain.contexts[d] = none from hclosed] at hopen
      cases hopen
    have := s.claimBlock_claimed_other n hne
    have := h.closed d hclosed
    omega
  · obtain ⟨hkroom, hkopen, hundone, huncovered⟩ := h.waits k hk
    refine ⟨(s.claimBlock_claimed_other n (hno k hk)).trans_lt hkroom, hkopen, hundone, fun w hw b hb hdrain _ => ?_⟩
    rw [State.claimBlock_blocks] at hb
    obtain ⟨a, ha, rfl⟩ := List.mem_map.mp hb
    by_cases hlbn : a.lbn = n
    · simp [hlbn, Block.drainable] at hdrain
    · rw [if_neg hlbn] at hdrain ⊢
      refine huncovered w hw a ha hdrain ?_
      obtain rfl | rfl := hbut
      · simp
      · simpa using hlbn

/-! ## An offer (R118) -/

theorem State.offer_cases (s : State) (n : Nat) :
    (s.offer n = s ∧ ((∀ k ∈ s.drain.parkedTakes, ∀ w ∈ s.drain.contexts[k.ctx], w.covers n = false) ∨ ∀ b ∈ s.ring.blocks, b.lbn ≠ n))
      ∨ ∃ k ∈ s.drain.parkedTakes, (s.offer n).core = ((s.unpark k).claimBlock n k.ctx).core := by
  unfold offer
  split
  next k b hk _ => exact .inr ⟨k, List.mem_of_find?_eq_some hk, answer_core ..⟩
  next hno =>
    refine .inl ⟨rfl, ?_⟩
    cases htaker : s.takerOf n with
    | none =>
      refine .inl fun k hk w hw => ?_
      have := List.find?_eq_none.mp htaker k hk
      rw [Option.mem_def.mp hw] at this
      simpa using this
    | some k =>
      refine .inr fun b hb hlbn => ?_
      obtain ⟨x, hx⟩ := findBlock_isSome_of_mem hb
      exact hno k x htaker (hlbn ▸ hx)

theorem State.unpark_others (hnodup : (s.drain.parkedTakes.map ParkedTake.ctx).Nodup) {k : ParkedTake} (hk : k ∈ s.drain.parkedTakes) :
    ∀ j ∈ (s.unpark k).drain.parkedTakes, j.ctx ≠ k.ctx := by
  intro j hj hctx
  obtain ⟨hj, hne⟩ := List.mem_filter.mp hj
  exact (of_decide_eq_true hne) (List.inj_on_of_nodup_map hnodup hj hk hctx)

/-- A block that has joined the drain order is offered to the parked takes. -/
theorem Draining.offer (h : Draining s front (some n)) (hd : (s.ring.blocks.map Block.lbn).Nodup) : Draining (s.offer n) front none := by
  obtain ⟨hsame, hnone⟩ | ⟨k, hk, hcore⟩ := s.offer_cases n
  · rw [hsame]
    refine ⟨h.claims, h.closed, fun k hk => ?_, h.nodup, h.stopped⟩
    obtain ⟨hroom, hopen, hundone, huncovered⟩ := h.waits k hk
    refine ⟨hroom, hopen, hundone, fun w hw b hb hdrain _ => ?_⟩
    by_cases hlbn : b.lbn = n
    · obtain hnone | hnone := hnone
      · exact hlbn ▸ hnone k hk w hw
      · exact absurd hlbn (hnone b hb)
    · exact huncovered w hw b hb hdrain (by simpa using hlbn)
  · refine Draining.of_core ?_ hcore
    have hwaits := h.waits k hk
    have hunparked : Draining (s.unpark k) front (some n) :=
      h.less (fun c => le_rfl) (fun b hb hdrain hno => ⟨b, hb, rfl, hdrain, hno⟩) rfl List.filter_sublist le_rfl fun hc => by
        have : s.drain.parkedTakes = [] := h.stopped hc
        simp [this] at hk
    exact hunparked.claimBlock hd hwaits.room hwaits.isOpen (State.unpark_others h.nodup hk) (.inr rfl)

/-- A block that is not Archived counts as unarchived whoever has it (R13). -/
theorem State.restated_archiveFront {st : BlockState} (hst : st ≠ .archived) (hno : ∀ b ∈ s.ring.blocks, b.lbn = n → b.state ≠ .archived)
    (hring : t.ring = { s.ring with blocks := s.ring.blocks.map fun b => if b.lbn = n then { b with state := st } else b }) :
    t.archiveFront = s.archiveFront := by
  refine archiveFront_map hring (fun b => by split <;> rfl) fun b hb => ?_
  split
  next hlbn => simp [Block.unarchived, hst, hno b hb hlbn]
  · rfl

theorem State.offer_archiveFront (hno : ∀ b ∈ s.ring.blocks, b.lbn = n → b.state ≠ .archived) : (s.offer n).archiveFront = s.archiveFront := by
  obtain ⟨hsame, -⟩ | ⟨k, -, hcore⟩ := s.offer_cases n
  · rw [hsame]
  · have hfront : (s.offer n).archiveFront = ((s.unpark k).claimBlock n k.ctx).archiveFront := (congrArg State.archiveFront hcore :)
    rw [hfront]
    exact restated_archiveFront (st := .claimed k.ctx) (by simp) hno rfl

/-! ## Sealing and returning (R9, R51, R129) -/

/-- A block becomes Sealed. -/
def State.sealAt (s : State) (n : Nat) : State :=
  s.mapBlock n fun b => { b with state := .sealed }

theorem State.sealAt_ring (s : State) (n : Nat) :
    (s.sealAt n).ring = { s.ring with blocks := s.ring.blocks.map fun b => if b.lbn = n then { b with state := .sealed } else b } := rfl

theorem State.sealAt_lbns (s : State) (n : Nat) : (s.sealAt n).ring.blocks.map Block.lbn = s.ring.blocks.map Block.lbn := by
  rw [sealAt_ring, List.map_map]
  refine List.map_congr_left fun b _ => ?_
  dsimp only [Function.comp]
  split <;> rfl

theorem State.sealAt_not_archived (s : State) (n : Nat) : ∀ b ∈ (s.sealAt n).ring.blocks, b.lbn = n → b.state ≠ .archived := by
  intro b hb hlbn
  rw [sealAt_ring] at hb
  obtain ⟨a, -, rfl⟩ := List.mem_map.mp hb
  by_cases ha : a.lbn = n
  · simp [ha]
  · simp [ha] at hlbn

theorem Draining.sealAt (h : Draining s front none) (n : Nat) : Draining (s.sealAt n) front (some n) := by
  refine h.map (congrArg Ring.blocks (s.sealAt_ring n)) (fun b => by split <;> rfl) (fun b _ c hc => ?_) (fun b _ hdrain hno => ⟨?_, by simp⟩) rfl rfl le_rfl .inl
  · split at hc
    · cases hc
    · exact hc
  · rwa [if_neg (by simpa using hno)] at hdrain

theorem Draining.returnOne (h : Draining s front none) (hd : (s.ring.blocks.map Block.lbn).Nodup) (b : Block) : Draining (s.returnOne b) front none :=
  (h.sealAt b.lbn).offer (by rwa [State.sealAt_lbns])

theorem State.returnOne_archiveFront {b : Block} (hno : ∀ x ∈ s.ring.blocks, x.lbn = b.lbn → x.state ≠ .archived) :
    (s.returnOne b).archiveFront = s.archiveFront :=
  (offer_archiveFront (s.sealAt_not_archived b.lbn)).trans (restated_archiveFront (by simp) hno (s.sealAt_ring b.lbn))

theorem State.sealFilling_archiveFront (hd : (s.ring.blocks.map Block.lbn).Nodup) : s.sealFilling.archiveFront = s.archiveFront :=
  (archiveFront_of_unsignalled (Becomes.sealFilling s).2).trans (archiveFront_afterSeal hd)

theorem Draining.sealFilling (h : Draining s front none) (hd : (s.ring.blocks.map Block.lbn).Nodup) : Draining s.sealFilling front none := by
  unfold State.sealFilling
  split
  · exact h
  next b hb =>
    have hsealed := h.sealAt b.lbn
    have hlbns : ((s.sealAt b.lbn).ring.blocks.map Block.lbn).Nodup := by rwa [State.sealAt_lbns]
    have hrequired : ∀ x ∈ (s.sealAt b.lbn).ring.blocks, x.lbn = b.lbn → x.archiveRequired = b.archiveRequired := by
      intro x hx hlbn
      rw [State.sealAt_ring] at hx
      obtain ⟨a, ha, rfl⟩ := List.mem_map.mp hx
      split at hlbn <;> cases List.inj_on_of_nodup_map hd ha (State.mem_of_fillingBlock hb).1 hlbn <;> split <;> rfl
    dsimp only
    change Draining (if b.archiveRequired = true then (((s.sealAt b.lbn).count _).raise .blockSealed).offer b.lbn
      else ((s.sealAt b.lbn).count _).raise .blockSealed) front none
    generalize s.sealAt b.lbn = u at hsealed hlbns hrequired
    have hcore := (State.raise_core (u.count fun c => { c with blocksSealed := c.blocksSealed + 1 }) .blockSealed).trans (State.count_core ..)
    generalize (u.count fun c => { c with blocksSealed := c.blocksSealed + 1 }).raise .blockSealed = v at hcore
    have hraised := hsealed.of_core hcore
    have hblocks : v.ring.blocks = u.ring.blocks := (congrArg (fun u : State => u.ring.blocks) hcore :)
    split
    · exact hraised.offer (by rwa [hblocks])
    next hno =>
      refine hraised.less (fun c => le_rfl) (fun x hx hdrain _ => ⟨x, hx, rfl, hdrain, fun hlbn => ?_⟩) rfl (List.Sublist.refl _) le_rfl hraised.stopped
      rw [hblocks] at hx
      rw [Block.drainable, hrequired x hx (Option.some.inj hlbn)] at hdrain
      simp [hno] at hdrain

end Sys2Proof.Machine

/-!
Every command keeps the drain contexts in form (O57).
-/
namespace Sys2Proof.Machine

variable {s t u : State} {f : Frame} {front before : Nat} {c : Fin 4} {x x' : Fate} {b b' : Bool}

/-- The drain contexts in form at the front of the state. -/
def DrainsWell (s : State) : Prop :=
  Draining s s.archiveFront none

namespace DrainsWell

theorem of_core (h : DrainsWell s) (hcore : t.core = s.core) : DrainsWell t := by
  have hfront : t.archiveFront = s.archiveFront := (congrArg State.archiveFront hcore :)
  rw [DrainsWell, hfront]
  exact Draining.of_core h hcore

theorem congr (h : DrainsWell s) (hblocks : t.ring.blocks = s.ring.blocks) (hhead : t.ring.head = s.ring.head) (hdrain : t.drain = s.drain)
    (hcapture : t.control.capture = .stopped → s.control.capture = .stopped) : DrainsWell t := by
  rw [DrainsWell, State.archiveFront_congr hblocks hhead]
  exact Draining.congr h hblocks hdrain le_rfl hcapture

/-- Blocks change in neither state, LBN nor Archive Required. -/
theorem map (h : DrainsWell s) {g : Block → Block} (hring : t.ring = { s.ring with blocks := s.ring.blocks.map g }) (hlbn : ∀ b, (g b).lbn = b.lbn)
    (hstate : ∀ b, (g b).state = b.state) (hrequired : ∀ b, (g b).archiveRequired = b.archiveRequired) (hdrain : t.drain = s.drain)
    (hcapture : t.control.capture = .stopped → s.control.capture = .stopped) : DrainsWell t := by
  have hfront : t.archiveFront = s.archiveFront :=
    State.archiveFront_map hring hlbn fun b _ => by rw [Block.unarchived, hstate, hrequired, Block.unarchived]
  rw [DrainsWell, hfront]
  refine Draining.map h (congrArg Ring.blocks hring) hlbn (fun b _ c hc => (hstate b).symm.trans hc) (fun b _ hd _ => ⟨?_, by simp⟩) (by rw [hdrain]) (by rw [hdrain])
    le_rfl fun hc => .inl (hcapture hc)
  rwa [Block.drainable, hstate, hrequired] at hd

theorem sealFilling (h : DrainsWell s) (hd : (s.ring.blocks.map Block.lbn).Nodup) : DrainsWell s.sealFilling := by
  rw [DrainsWell, State.sealFilling_archiveFront hd]
  exact Draining.sealFilling h hd

theorem touched (h : DrainsWell s) (ht : Touched s t) : DrainsWell t := by
  obtain ⟨g, e, groups, store, hg, -, hcore⟩ := ht
  refine DrainsWell.of_core (s := s.touch g e groups store) ?_ hcore
  exact h.map rfl (fun b => (congrArg Block.lbn (hg b) : (g b).steady.lbn = b.steady.lbn))
    (fun b => (congrArg Block.state (hg b) : (g b).steady.state = b.steady.state))
    (fun b => (congrArg Block.archiveRequired (hg b) : (g b).steady.archiveRequired = b.steady.archiveRequired)) rfl id

/-- With no take parked, the claims decide. -/
theorem of_no_take (hclaims : ∀ c, t.claimed c ≤ 8) (hclosed : ∀ c : Fin 4, t.drain.contexts[c] = none → t.claimed c = 0)
    (hparked : t.drain.parkedTakes = []) : DrainsWell t :=
  ⟨hclaims, hclosed, by simp [hparked], by simp [hparked], fun _ => hparked⟩

/-! ## The ring is brought up to date (R119, R126) -/

/-- The parked takes that waited for the front of before have been tested at the present one. -/
theorem settled (h : Draining s before none) : DrainsWell (s.settleRing before) := by
  have hblocks : (s.settleRing before).ring.blocks = s.ring.blocks := by simp
  have hclaimed (c : Fin 4) : (s.settleRing before).claimed c = s.claimed c := by rw [State.claimed, hblocks, State.claimed]
  have hdrain := s.settleRing_drain before
  obtain ⟨hclaims, hclosed, hwaits, hnodup, hstopped⟩ := h
  rw [DrainsWell, State.settleRing_archiveFront]
  refine ⟨fun c => by rw [hclaimed]; exact hclaims c, fun c hc => ?_, fun k hk => ?_, ?_, fun hc => ?_⟩
  · rw [hdrain] at hc
    rw [hclaimed]
    exact hclosed c hc
  · rw [hdrain] at hk
    obtain ⟨hk, hgoes⟩ := List.mem_filter.mp hk
    obtain ⟨hroom, hopen, hundone, huncovered⟩ := hwaits k hk
    refine ⟨by rwa [hclaimed], by rwa [hdrain], fun w hw => ?_, fun w hw => ?_⟩
    · rw [hdrain] at hw
      by_cases hsame : s.archiveFront = before
      · rw [hsame]
        exact hundone w hw
      · have : s.takeDone k = false := by simpa [State.settleEnds_of_moved hsame] using hgoes
        rw [State.takeDone, Option.mem_def.mp hw] at this
        simpa using this
    · rw [hdrain] at hw
      rw [hblocks]
      exact huncovered w hw
  · rw [hdrain]
    exact hnodup.sublist (List.filter_sublist.map _)
  · rw [hdrain]
    have : s.drain.parkedTakes = [] := hstopped (by simpa using hc)
    simp [this]

theorem reband (h : DrainsWell s) : DrainsWell s.reband :=
  h.congr (by simp) (by simp) (by simp) (by simp)

/-! ## Acts of capture -/

theorem closeSegment (h : DrainsWell s) (hf : Formed s) (reason : CloseReason) : DrainsWell (s.closeSegment reason) := by
  have hring := hf.closeSegment_ring reason
  exact (h.sealFilling hf.tableForm.distinct).congr (by rw [hring]) (by rw [hring]) (hf.closeSegment_drain reason) (by simp)

theorem enterStopped (h : DrainsWell s) (reason : StopReason) : DrainsWell (s.enterStopped reason) := by
  have hentered := s.enterStopped_enteredStopped reason
  have hblocks : (s.enterStopped reason).ring.blocks = s.ring.blocks := by simp
  have hclaimed (c : Fin 4) : (s.enterStopped reason).claimed c = s.claimed c := by rw [State.claimed, hblocks, State.claimed]
  refine of_no_take (fun c => by rw [hclaimed]; exact h.claims c) (fun c hc => ?_) (by rw [hentered.drain])
  rw [hentered.drain] at hc
  rw [hclaimed]
  exact h.closed c hc

theorem closeInCourse (h : DrainsWell s) (hf : Formed s) (reason : CloseReason) : DrainsWell (s.closeInCourse reason) := by
  have hclosed := h.closeSegment hf reason
  unfold State.closeInCourse
  split
  · exact h
  · dsimp only
    split
    · exact hclosed.enterStopped _
    · exact hclosed

theorem stopAtOnce (h : DrainsWell s) (hf : Formed s) (close : CloseReason) (reason : StopReason) : DrainsWell (s.stopAtOnce close reason) := by
  have hdiscarded : DrainsWell s.discardIntake := h.congr rfl rfl rfl id
  exact (hdiscarded.closeSegment hf.discardIntake close).enterStopped reason

theorem stopAtEnd (h : DrainsWell s) : DrainsWell s.stopAtEnd := by
  unfold State.stopAtEnd
  split
  · split
    · exact h.congr rfl rfl rfl nofun
    · exact h.enterStopped _
  · exact h

theorem activate (h : DrainsWell s) : DrainsWell s.activate :=
  h.congr (by simp) (by simp) (by simp) (by simp)

theorem stage (h : DrainsWell s) (q : Profile) : DrainsWell (s.stage q) := by
  have hstaged : DrainsWell (s.mapControl fun c => { c with staged := q }) := h.congr rfl rfl rfl id
  unfold State.stage
  dsimp only
  split
  · exact hstaged.congr rfl rfl rfl id
  · exact hstaged.activate

theorem testHeadMark (h : DrainsWell s) : DrainsWell s.testHeadMark := by
  obtain hsame | ⟨u, hcore, -, -, hstop⟩ | ⟨u, hcore, -, -, hstop⟩ := s.testHeadMark_cases
  · exact h.of_core hsame
  · rw [hstop]
    exact (h.of_core hcore).congr rfl rfl rfl nofun
  · rw [hstop]
    exact (h.of_core hcore).enterStopped _

/-! ## Pins and port resets -/

theorem pinMoved (h : DrainsWell s) (i : Fin 8) (pin : Option PinRange) (r : PinRange) (f : Nat → Nat) : DrainsWell (s.pinMoved i pin r f) := by
  rw [State.pinMoved_eq]
  exact h.map rfl (fun b => by split <;> rfl) (fun b => by split <;> rfl) (fun b => by split <;> rfl) rfl id

theorem dropPin (h : DrainsWell s) (i : Fin 8) : DrainsWell (s.dropPin i) := by
  cases hlive : s.pins[i] with
  | none =>
    rw [State.dropPin, hlive]
    exact h
  | some r =>
    rw [State.dropPin_eq hlive]
    exact h.pinMoved ..

theorem dropPins (h : DrainsWell s) (l : List (Fin 8)) : DrainsWell (l.foldl State.dropPin s) := by
  induction l generalizing s with
  | nil => exact h
  | cons i l ih => exact ih (h.dropPin i)

theorem resetViewer (h : DrainsWell s) : DrainsWell s.resetViewer := by
  unfold State.resetViewer
  have hqueued : DrainsWell (s.mapStore fun t => { t with viewerQueue := [] }) := h.of_core rfl
  exact (hqueued.dropPins _).reband

/-- Every context closes, and every claim is returned (R132). -/
theorem resetDrain (s : State) : DrainsWell s.resetDrain := by
  have hnone (c : Fin 4) : s.resetDrain.claimed c = 0 := by
    refine List.countP_eq_zero.mpr fun b hb => ?_
    obtain ⟨a, -, rfl⟩ := List.mem_map.mp (show b ∈ s.ring.blocks.map Block.unclaim from hb)
    unfold Block.unclaim
    split <;> simp_all
  exact of_no_take (fun c => by rw [hnone]; exact Nat.zero_le _) (fun c _ => hnone c) rfl

theorem resetPort (h : DrainsWell s) (p : Port) : DrainsWell (s.resetPort p) := by
  have hbegun : DrainsWell ((s.discardSlots p).dropWaits p) := h.of_core (by cases p <;> rfl)
  have howners : DrainsWell (((s.discardSlots p).dropWaits p).resetOwners p) := by
    cases p
    · exact hbegun.resetViewer
    · exact resetDrain _
  unfold State.resetPort
  generalize ((s.discardSlots p).dropWaits p).resetOwners p = u at howners
  have hdiscarded : DrainsWell (u.discardReads p) := howners.congr rfl rfl rfl id
  exact hdiscarded.of_core (State.mapPort_core ..)

/-! ## Ring formation (R175 to R179) -/

/-- The ring empties. -/
theorem emptied (h : DrainsWell s) (hblocks : t.ring.blocks = []) (hhead : t.ring.head = s.ring.head) (hdrain : t.drain = s.drain)
    (hcapture : t.control.capture ≠ .stopped) (hempty : s.control.capture = .stopped ∨ s.ring.blocks = []) : DrainsWell t := by
  have hnone (c : Fin 4) : t.claimed c = 0 := by rw [State.claimed, hblocks]; rfl
  obtain hstopped | hempty := hempty
  · exact of_no_take (fun c => by rw [hnone]; exact Nat.zero_le _) (fun c _ => hnone c) (by rw [hdrain]; exact h.stopped hstopped)
  · exact h.congr (hblocks.trans hempty.symm) hhead hdrain fun hc => absurd hc hcapture

/-! ## Claims and takes (R112, R115 to R118, R126, R129, R130) -/

/-- A context opens or closes. -/
theorem putContext (h : DrainsWell s) (w : Option Window) (hno : ∀ k ∈ s.drain.parkedTakes, k.ctx ≠ c) (hclaims : w = none → s.claimed c = 0) :
    DrainsWell (s.putContext c w) := by
  have hcontexts (d : Fin 4) : (s.putContext c w).drain.contexts[d] = if c = d then w else s.drain.contexts[d] := by
    simp [State.putContext, State.mapDrain, Vector.getElem_set, Fin.ext_iff]
  refine ⟨h.claims, fun d hd => ?_, fun k hk => ?_, h.nodup, h.stopped⟩
  · rw [hcontexts] at hd
    split at hd
    next hcd => exact hcd ▸ hclaims hd
    · exact h.closed d hd
  · have hsame : (s.putContext c w).drain.contexts[k.ctx] = s.drain.contexts[k.ctx] := by rw [hcontexts, if_neg (hno k hk).symm]
    obtain ⟨hroom, hopen, hundone, huncovered⟩ := h.waits k hk
    exact ⟨hroom, by rwa [hsame], by rw [hsame]; exact hundone, by rw [hsame]; exact huncovered⟩

theorem openContext (h : DrainsWell s) (hclosed : s.drain.contexts[c] = none) (w : Window) : DrainsWell (s.putContext c (some w)) := by
  refine h.putContext _ (fun k hk hctx => ?_) nofun
  subst hctx
  have := (h.waits k hk).isOpen
  rw [show s.drain.contexts[k.ctx] = none from hclosed] at this
  cases this

theorem park (h : DrainsWell s) {w : Window} (hw : s.drain.contexts[c] = some w) (hroom : (s.claims c).length < 8) (hchosen : s.chosenBlock w = none)
    (hdone : w.done s.archiveFront = false) (hrunning : s.control.capture ≠ .stopped) (hnone : s.parkedTakeOf c = none) (tag : Byte) :
    DrainsWell (s.mapDrain fun d => { d with parkedTakes := d.parkedTakes ++ [{ ctx := c, tag := tag }] }) := by
  have hwindow {v : Window} (hv : v ∈ s.drain.contexts[c]) : v = w := Option.some.inj ((Option.mem_def.mp hv).symm.trans hw)
  refine ⟨h.claims, h.closed, fun k hk => ?_, ?_, fun hc => absurd hc hrunning⟩
  · obtain hold | hnew := List.mem_append.mp hk
    · obtain ⟨hkroom, hopen, hundone, huncovered⟩ := h.waits k hold
      exact ⟨hkroom, hopen, hundone, huncovered⟩
    · cases List.mem_singleton.mp hnew
      refine ⟨?_, Option.isSome_iff_exists.mpr ⟨w, hw⟩, fun v hv => by rw [hwindow hv]; exact hdone, fun v hv b hb hd _ => ?_⟩
      · rw [s.claims_length] at hroom
        exact hroom
      · have := List.find?_eq_none.mp hchosen b hb
        rw [hwindow hv]
        simpa [hd] using this
  · change ((s.drain.parkedTakes ++ [_]).map ParkedTake.ctx).Nodup
    rw [List.map_append, List.nodup_append]
    refine ⟨h.nodup, by simp, fun a ha b hb => ?_⟩
    obtain ⟨k, hk, rfl⟩ := List.mem_map.mp ha
    cases List.mem_singleton.mp hb
    simpa using List.find?_eq_none.mp hnone k hk

theorem claim (h : DrainsWell s) (hd : (s.ring.blocks.map Block.lbn).Nodup) {w : Window} {b : Block} (hw : s.drain.contexts[c] = some w)
    (hroom : (s.claims c).length < 8) (hchosen : s.chosenBlock w = some b) : DrainsWell (s.claimBlock b.lbn c) := by
  have hmem := List.mem_of_find?_eq_some hchosen
  obtain ⟨hdrain, hcovers⟩ : b.drainable = true ∧ w.covers b.lbn = true := by simpa using List.find?_some hchosen
  have hsealed : b.state = .sealed := by
    unfold Block.drainable at hdrain
    simp at hdrain
    exact hdrain.1
  have hfront : (s.claimBlock b.lbn c).archiveFront = s.archiveFront := by
    refine State.restated_archiveFront (st := .claimed c) (by simp) (fun x hx hlbn => ?_) rfl
    rw [List.inj_on_of_nodup_map hd hx hmem hlbn, hsealed]
    simp
  rw [DrainsWell, hfront]
  rw [s.claims_length] at hroom
  refine Draining.claimBlock h hd hroom (Option.isSome_iff_exists.mpr ⟨w, hw⟩) (fun k hk hctx => ?_) (.inl rfl)
  subst hctx
  have := (h.waits k hk).uncovered w hw b hmem hdrain (by simp)
  rw [hcovers] at this
  cases this

theorem returnOne (h : DrainsWell s) (hd : (s.ring.blocks.map Block.lbn).Nodup) {b : Block} (hno : ∀ x ∈ s.ring.blocks, x.lbn = b.lbn → x.state ≠ .archived) :
    DrainsWell (s.returnOne b) := by
  rw [DrainsWell, State.returnOne_archiveFront hno]
  exact Draining.returnOne h hd b

/-- A returned block is Sealed, or claimed for a parked take; nothing else of the ring changes. -/
theorem returnOne_block {b y : Block} (hy : y ∈ (s.returnOne b).ring.blocks) :
    ∃ z ∈ s.ring.blocks, y.lbn = z.lbn ∧ (z.lbn ≠ b.lbn ∧ y.state = z.state
      ∨ z.lbn = b.lbn ∧ (y.state = .sealed ∨ ∃ k ∈ s.drain.parkedTakes, y.state = .claimed k.ctx)) := by
  have hsealed {y : Block} (hy : y ∈ (s.sealAt b.lbn).ring.blocks) : ∃ z ∈ s.ring.blocks, y.lbn = z.lbn
      ∧ (z.lbn ≠ b.lbn ∧ y.state = z.state ∨ z.lbn = b.lbn ∧ y.state = .sealed) := by
    rw [State.sealAt_ring] at hy
    obtain ⟨z, hz, rfl⟩ := List.mem_map.mp hy
    by_cases hlbn : z.lbn = b.lbn
    · exact ⟨z, hz, by simp [hlbn], .inr ⟨hlbn, by simp [hlbn]⟩⟩
    · exact ⟨z, hz, by simp [hlbn], .inl ⟨hlbn, by simp [hlbn]⟩⟩
  obtain ⟨hsame, -⟩ | ⟨k, hk, hcore⟩ := (s.sealAt b.lbn).offer_cases b.lbn
  · have hkept : (s.returnOne b).ring.blocks = (s.sealAt b.lbn).ring.blocks := congrArg (fun u : State => u.ring.blocks) hsame
    obtain ⟨z, hz, hlbn, hstate⟩ := hsealed (hkept ▸ hy)
    exact ⟨z, hz, hlbn, hstate.imp_right fun h => ⟨h.1, .inl h.2⟩⟩
  · have hblocks : (s.returnOne b).ring.blocks = ((s.sealAt b.lbn).claimBlock b.lbn k.ctx).ring.blocks :=
      (congrArg (fun u : State => u.ring.blocks) hcore :)
    rw [hblocks, State.claimBlock_blocks] at hy
    obtain ⟨a, ha, rfl⟩ := List.mem_map.mp hy
    obtain ⟨z, hz, hlbn, hstate⟩ := hsealed ha
    by_cases hat : z.lbn = b.lbn
    · exact ⟨z, hz, by simp [hlbn, hat], .inr ⟨hat, .inr ⟨k, hk, by simp [hlbn, hat]⟩⟩⟩
    · obtain ⟨-, hstate⟩ | ⟨hat', -⟩ := hstate
      · exact ⟨z, hz, by simp [hlbn, hat], .inl ⟨hat, by simp [hlbn, hat, hstate]⟩⟩
      · exact absurd hat' hat

theorem returnOne_parked (s : State) (b : Block) : (s.returnOne b).drain.parkedTakes ⊆ s.drain.parkedTakes := by
  obtain ⟨hsame, -⟩ | ⟨k, -, hcore⟩ := (s.sealAt b.lbn).offer_cases b.lbn
  · rw [State.returnOne, ← State.sealAt, hsame]
    exact List.Subset.refl _
  · have hparked : (s.returnOne b).drain = ((s.sealAt b.lbn).unpark k).drain := (congrArg State.drain hcore :)
    rw [hparked]
    exact List.filter_sublist.subset

/-- The claims of a context are returned, each offered to takes of the others. -/
theorem returnAll (l : List Block) (h : DrainsWell s) (hd : (s.ring.blocks.map Block.lbn).Nodup) (hno : ∀ k ∈ s.drain.parkedTakes, k.ctx ≠ c)
    (hclaims : ∀ y ∈ s.ring.blocks, y.state = .claimed c → y.lbn ∈ l.map Block.lbn)
    (harchived : ∀ y ∈ s.ring.blocks, y.lbn ∈ l.map Block.lbn → y.state ≠ .archived) :
    DrainsWell (l.foldl State.returnOne s) ∧ (l.foldl State.returnOne s).claimed c = 0 ∧ ∀ k ∈ (l.foldl State.returnOne s).drain.parkedTakes, k.ctx ≠ c := by
  induction l generalizing s with
  | nil =>
    refine ⟨h, List.countP_eq_zero.mpr fun y hy hc => ?_, hno⟩
    have := hclaims y hy (of_decide_eq_true hc)
    simp at this
  | cons b l ih =>
    have hlbns : (s.returnOne b).ring.blocks.map Block.lbn = s.ring.blocks.map Block.lbn := by
      have := congrArg (List.map Block.lbn) (State.heldBlocks_of_undrained (s.returnOne_undrained b))
      simpa [State.heldBlocks, Block.stateless, Function.comp_def] using this
    refine ih (h.returnOne hd fun y hy hlbn => harchived y hy (by simp [hlbn])) (by rwa [hlbns]) (fun k hk => hno k (returnOne_parked s b hk))
      (fun y hy hc => ?_) fun y hy hmem => ?_
    · obtain ⟨z, hz, hlbn, ⟨hne, hstate⟩ | ⟨-, hsealed | ⟨k, hk, hclaimed⟩⟩⟩ := returnOne_block hy
      · obtain hb | hrest := List.mem_cons.mp (hclaims z hz (hstate.symm.trans hc))
        · exact absurd hb hne
        · exact hlbn ▸ hrest
      · cases hsealed.symm.trans hc
      · exact absurd (BlockState.claimed.inj (hclaimed.symm.trans hc)) (hno k hk)
    · obtain ⟨z, hz, hlbn, ⟨-, hstate⟩ | ⟨-, hsealed | ⟨k, -, hclaimed⟩⟩⟩ := returnOne_block hy
      · rw [hstate]
        exact harchived z hz (List.mem_cons_of_mem _ (hlbn ▸ hmem))
      · rw [hsealed]
        simp
      · rw [hclaimed]
        simp

theorem cancelTake (h : DrainsWell s) (c : Fin 4) : DrainsWell (s.cancelTake c) ∧ ∀ k ∈ (s.cancelTake c).drain.parkedTakes, k.ctx ≠ c := by
  unfold State.cancelTake
  split
  next k hk =>
    have hmem := List.mem_of_find?_eq_some hk
    have hctx : k.ctx = c := by simpa using List.find?_some hk
    have hunparked : DrainsWell (s.unpark k) :=
      Draining.less h (fun _ => le_rfl) (fun b hb hdrain hno => ⟨b, hb, rfl, hdrain, hno⟩) rfl List.filter_sublist le_rfl fun hc => by
        have : s.drain.parkedTakes = [] := h.stopped hc
        simp [this] at hmem
    refine ⟨hunparked.of_core (State.refuse_core ..), fun j hj => ?_⟩
    have hdrain : ((s.unpark k).refuse .archive k.tag .take .cancelled).drain = (s.unpark k).drain :=
      (congrArg State.drain (State.refuse_core (s.unpark k) .archive k.tag .take .cancelled) :)
    rw [hdrain] at hj
    exact hctx ▸ State.unpark_others h.nodup hmem j hj
  next hnone => exact ⟨h, fun k hk => by simpa using List.find?_eq_none.mp hnone k hk⟩

theorem closeOne (h : DrainsWell s) (hd : (s.ring.blocks.map Block.lbn).Nodup) (c : Fin 4) : DrainsWell (s.closeOne c) := by
  obtain ⟨hcancelled, hno⟩ := h.cancelTake c
  have hblocks : (s.cancelTake c).ring.blocks = s.ring.blocks := by
    unfold State.cancelTake
    split
    next k _ => exact (congrArg (fun u : State => u.ring.blocks) (State.refuse_core (s.unpark k) .archive k.tag .take .cancelled) :)
    · rfl
  have hlbns : ((s.cancelTake c).ring.blocks.map Block.lbn).Nodup := by rwa [hblocks]
  have hclaims : ∀ y ∈ (s.cancelTake c).ring.blocks, y.state = .claimed c → y.lbn ∈ (s.claims c).map Block.lbn := fun y hy hc => by
    rw [hblocks] at hy
    exact List.mem_map_of_mem (List.mem_filter.mpr ⟨hy, decide_eq_true hc⟩)
  have harchived : ∀ y ∈ (s.cancelTake c).ring.blocks, y.lbn ∈ (s.claims c).map Block.lbn → y.state ≠ .archived := fun y hy hmem => by
    rw [hblocks] at hy
    obtain ⟨z, hz, hlbn⟩ := List.mem_map.mp hmem
    obtain ⟨hz, hstate⟩ := List.mem_filter.mp hz
    rw [← List.inj_on_of_nodup_map hd hz hy hlbn, of_decide_eq_true hstate]
    simp
  obtain ⟨hreturned, hnone, hothers⟩ := hcancelled.returnAll (s.claims c) hlbns hno hclaims harchived
  exact hreturned.putContext none hothers fun _ => hnone

theorem confirmBlock (h : DrainsWell s) (b : Block) (loss : Bool) : DrainsWell (s.confirmBlock b loss) := by
  have hconfirmed : Draining (s.mapBlock b.lbn fun b => { b with state := .archived }) s.archiveFront none := by
    refine Draining.map h (g := fun x => if x.lbn = b.lbn then { x with state := .archived } else x) rfl (fun x => by split <;> rfl)
      (fun x _ c hc => ?_) (fun x _ hdrain _ => ⟨?_, by simp⟩) rfl rfl le_rfl .inl
    · split at hc
      · cases hc
      · exact hc
    · split at hdrain
      · simp [Block.drainable] at hdrain
      · exact hdrain
  have hmarked : Draining ((s.mapBlock b.lbn fun b => { b with state := .archived }).markLoss b loss) s.archiveFront none := by
    unfold State.markLoss
    split
    · exact hconfirmed.congr rfl rfl le_rfl id
    · exact hconfirmed
  exact settled hmarked

/-! ## A working -/

theorem blockOpened (h : Draining s before none) (segment : Nat) (required : Bool) (f : Frame) :
    Draining (s.blockOpened segment required f) before none := by
  have hblocks : (s.blockOpened segment required f).ring.blocks = s.ring.blocks ++ [s.openedBlock segment required f] := rfl
  refine h.less (fun c => ?_) (fun b hb hdrain hno => ?_) rfl (List.Sublist.refl _) le_rfl h.stopped
  · simp [State.claimed, hblocks, State.openedBlock]
  · rw [hblocks] at hb
    obtain hold | hnew := List.mem_append.mp hb
    · exact ⟨b, hold, rfl, hdrain, hno⟩
    · cases List.mem_singleton.mp hnew
      simp [Block.drainable, State.openedBlock] at hdrain

/-- ArchiveFront does not fall where the Tail block leaves (R13). -/
theorem front_of_leaves (hs : TableForm s) (hf : Formed t) (hleaves : Leaves s t) : s.archiveFront ≤ t.archiveFront := by
  obtain ⟨b, _, hb, hring, -⟩ := hleaves.ring_index
  have hcons : s.ring.blocks = b :: s.ring.blocks.tail := (List.cons_head?_tail hb).symm
  by_cases hfirst : b.unarchived = true
  · have hfront : s.archiveFront = s.ring.tail := by
      rw [State.archiveFront, hcons, List.find?_cons_of_pos hfirst]
      exact hs.lbn_of_head hb
    have htail : t.ring.tail = s.ring.tail + 1 := by rw [hring]; rfl
    have := hf.ring.archiveFront_bounds.1
    omega
  · refine le_of_eq ?_
    rw [State.archiveFront, hcons, List.find?_cons_of_neg hfirst, State.archiveFront, hring]
    rfl

theorem leaves (h : Draining s before none) (hleaves : Leaves s t) : Draining t before none := by
  have hside : t.drain = s.drain ∧ t.control = s.control := by cases hleaves <;> simp
  obtain ⟨hdrain, hcontrol⟩ := hside
  obtain ⟨_, _, _, hring, -⟩ := hleaves.ring_index
  have hsub : t.ring.blocks.Sublist s.ring.blocks := by
    rw [hring]
    exact List.tail_sublist _
  exact h.less (fun c => hsub.countP_le) (fun b hb hd hno => ⟨b, hsub.subset hb, rfl, hd, hno⟩) (by rw [hdrain]) (by rw [hdrain]) le_rfl
    fun hc => by rw [hdrain]; exact h.stopped (hcontrol ▸ hc)

end DrainsWell

/-- The drain contexts while a frame is worked: against the front of before the act while the ring is not up to date. -/
structure DrainWork (before : Nat) (stale : Bool) (x : Fate) (s : State) : Prop where
  drains : if stale then Draining s before none else DrainsWell s
  risen : x = .pending → before ≤ s.archiveFront

theorem DrainWork.congr {stale : Bool} (h : DrainWork before stale x s) (hblocks : t.ring.blocks = s.ring.blocks) (hhead : t.ring.head = s.ring.head)
    (hdrain : t.drain = s.drain) (hcapture : t.control.capture = .stopped → s.control.capture = .stopped) (hpending : x' = .pending → x = .pending) :
    DrainWork before stale x' t := by
  refine ⟨?_, fun hx => ?_⟩
  · cases stale
    · exact DrainsWell.congr h.drains hblocks hhead hdrain hcapture
    · exact Draining.congr h.drains hblocks hdrain le_rfl hcapture
  · rw [State.archiveFront_congr hblocks hhead]
    exact h.risen (hpending hx)

theorem WorkMove.drainWork (hm : WorkMove before f b x s b' x' t) (hw : WorkForm f x s) (h : DrainWork before b x s) : DrainWork before b' x' t := by
  have hdistinct := hw.tableForm.distinct
  have hf := hw.toFormed
  cases hm with
  | recordLoss loss => exact h.congr (by simp) (by simp) (by simp) (by simp) id
  | sealed =>
    refine ⟨DrainsWell.sealFilling h.drains hdistinct, fun hx => ?_⟩
    rw [State.sealFilling_archiveFront hdistinct]
    exact h.risen hx
  | close hx reason =>
    refine ⟨DrainsWell.closeSegment h.drains hf reason, fun hx => ?_⟩
    have hring := hf.closeSegment_ring reason
    rw [State.archiveFront_congr (congrArg Ring.blocks hring) (congrArg Ring.head hring), State.sealFilling_archiveFront hdistinct]
    exact h.risen hx
  | stop hx reason => exact ⟨DrainsWell.enterStopped h.drains reason, fun hp => by cases ‹Fate› <;> simp [Fate.stopped] at hp⟩
  | swap => exact h.congr (by simp) (by simp) (by simp) (by simp) id
  | discardCarried => exact h.congr rfl rfl rfl id id
  | stale => exact ⟨Draining.congr h.drains rfl rfl (h.risen rfl) id, h.risen⟩
  | leaves hleaves hfilling =>
    exact ⟨DrainsWell.leaves h.drains hleaves, fun _ => (h.risen rfl).trans
      (DrainsWell.front_of_leaves hw.tableForm (hleaves.formed hf hfilling (hw.pending rfl).1) hleaves)⟩
  | settle =>
    refine ⟨DrainsWell.settled h.drains, fun hx => ?_⟩
    rw [State.settleRing_archiveFront]
    exact h.risen hx
  | openSegment loss =>
    have hopened : Draining (s.blockOpened s.assembler.nextSegment s.control.active.archiveRequired f) before none := DrainsWell.blockOpened h.drains ..
    exact ⟨hopened.congr rfl rfl le_rfl id, nofun⟩
  | openNext hopen =>
    obtain ⟨e, he⟩ := Option.isSome_iff_exists.mp hopen
    rw [State.nextBlockOpened, he]
    have hopened : Draining (s.blockOpened e.number e.archiveRequired f) before none := DrainsWell.blockOpened h.drains ..
    exact ⟨hopened.congr rfl rfl le_rfl id, nofun⟩
  | append a =>
    have happended : DrainsWell (s.payloadAppended a f) :=
      DrainsWell.map h.drains (g := fun y => if y.lbn = a.lbn then { y with fillBytes := y.fillBytes + f.payload.length } else y) rfl
        (fun y => by split <;> rfl) (fun y => by split <;> rfl) (fun y => by split <;> rfl) rfl id
    exact ⟨happended, nofun⟩
  | headMark => exact ⟨DrainsWell.testHeadMark h.drains, nofun⟩
  | actOn => exact h.congr rfl rfl rfl id id
  | drop => exact h.congr rfl rfl rfl id (by simp)
  | notice k => exact ⟨DrainsWell.of_core h.drains (s.raiseNotice_core k), nofun⟩
  | gap lost cause => exact h.congr (by simp) (by simp) (by simp) (by simp) id
  | dropContinuation => exact h.congr rfl rfl rfl id id
  | wait stage => exact h.congr rfl rfl rfl id (by simp)

theorem DrainsWell.works (h : DrainsWell s) (hr : RingForm s) (ha : AssemblyForm s) {loss : Option LossRecord} {rest : List IntakeItem}
    (hfront : s.link.intake = .frame f loss :: rest) : DrainsWell (s.granted.beginAct.worked f loss s.assembler.stage).present := by
  obtain ⟨y, -, hy⟩ := State.granted_worked hr ha f loss
  have hgranted : DrainWork s.archiveFront false .pending s.granted.beginAct := ⟨h.congr rfl rfl rfl id, fun _ => le_rfl⟩
  obtain ⟨-, hworked⟩ := hy.keeps (K := fun stale y u => WorkForm f y u ∧ DrainWork s.archiveFront stale y u)
    (fun hs hm => ⟨hm.form hs.1, hm.drainWork hs.1 hs.2⟩) ⟨.granted hr ha hfront, hgranted⟩
  exact DrainsWell.congr hworked.drains rfl rfl rfl id

theorem DrainsWell.markerTaken (h : DrainsWell s) (loss : Option LossRecord) : DrainsWell (s.takeMarker.recordLoss loss none) := by
  have htaken : DrainsWell s.takeMarker := h.congr rfl rfl rfl id
  exact htaken.congr (by simp) (by simp) (by simp) (by simp)

/-! ## Every command -/

/-- Before the first Start the ring is empty (R90). -/
theorem RingForm.no_block (h : RingForm s) (hcapture : s.control.capture = .unformed ∨ s.control.capture = .idle) : s.ring.blocks = [] := by
  obtain ⟨-, -, -, -, -, hlbns, -, -, hempty⟩ := h
  rw [hempty hcapture, Nat.sub_self] at hlbns
  exact List.map_eq_nil_iff.mp hlbns

theorem State.mem_of_claimedBlock {c : Fin 4} {n : Nat} {b : Block} (h : s.claimedBlock c n = some b) : b ∈ s.ring.blocks ∧ b.state = .claimed c := by
  unfold claimedBlock at h
  split at h
  · split at h
    next x hx =>
      obtain ⟨hstate, hsame⟩ := (Option.ite_none_right_eq_some ..).mp h
      cases hsame
      exact ⟨List.mem_of_find?_eq_some hx, hstate⟩
    · cases h
  · cases h

theorem coreKeeps_drainsWell : CoreKeeps (fun s => RingForm s ∧ AssemblyForm s ∧ DrainsWell s) DrainsWell where
  before := by
    rintro s t ⟨hr, ha, hp⟩ hcore
    obtain ⟨hring, hassembly⟩ := coreKeeps_formed.before ⟨hr, ha⟩ hcore
    exact ⟨hring, hassembly, hp.of_core hcore⟩
  after h hcore := h.of_core hcore
  kept h := h.2.2
  start h _ _ := h.2.2.congr rfl rfl rfl nofun
  stopAtOnce h close reason := h.2.2.stopAtOnce ⟨h.1, h.2.1.assembling⟩ close reason
  stopAtEnd h := h.2.2.stopAtEnd
  sealFilling h := h.2.2.sealFilling h.1.lbns_nodup
  expires := by
    rintro s ⟨hr, ha, hp⟩
    obtain ⟨hring, hassembly⟩ := coreKeeps_formed.expires ⟨hr, ha⟩
    exact ⟨hring, hassembly, hp.congr rfl rfl rfl id⟩
  stage h q _ := h.2.2.stage q
  headMark h := h.2.2.testHeadMark
  takePin h _ _ := (h.2.2.pinMoved ..).reband
  dropPin h := (h.2.2.dropPin _).reband
  groupNext h g n := h.2.2.touched (.putGroup ..)
  applyChanges h _ _ := h.2.2.touched (.applyChanges _)
  putMap h hcapture _ := h.2.2.emptied (by simp [State.putMap]) (by simp [State.putMap]) (by simp [State.putMap]) (by simp [State.putMap])
    (.inr (RingForm.no_block h.1 hcapture))
  reform {s} h hcapture _ := by
    refine h.2.2.emptied (by simp [State.reform]) (by simp [State.reform]) (by simp [State.reform]) (by simp [State.reform]) ?_
    cases hc : s.control.capture with
    | unformed => exact .inr (RingForm.no_block h.1 (.inl hc))
    | idle => exact .inr (RingForm.no_block h.1 (.inr hc))
    | stopped => exact .inl rfl
    | running => exact absurd (.inl hc) hcapture
    | stopping => exact absurd (.inr hc) hcapture
  openContext h hclosed w := h.2.2.openContext hclosed w
  closeOne h c := h.2.2.closeOne h.1.lbns_nodup c
  claim h hw hroom hchosen := h.2.2.claim h.1.lbns_nodup hw hroom hchosen
  park tag h hw hroom hchosen hdone hrunning hnone := h.2.2.park hw hroom hchosen hdone hrunning hnone tag
  confirm h _ loss := h.2.2.confirmBlock _ loss
  returnOne h hclaimed := by
    obtain ⟨hmem, hstate⟩ := State.mem_of_claimedBlock hclaimed
    refine h.2.2.returnOne h.1.lbns_nodup fun y hy hlbn => ?_
    rw [List.inj_on_of_nodup_map h.1.lbns_nodup hy hmem hlbn, hstate]
    simp
  resetPort h p := h.2.2.resetPort p
  frameJoins h _ _ loss := h.2.2.congr rfl rfl rfl id
  markerJoins h _ loss := h.2.2.congr rfl rfl rfl id
  orderlyHalt h _ _ := h.2.2.congr rfl rfl rfl id
  reset levels := by
    obtain ⟨-, -, -, -, -, -, -, -, hdrain, -⟩ := Proofs.resetHasEveryForm
    exact DrainsWell.of_core (drainForm_iff.mp hdrain) rfl
  settleGroup h _ := h.2.2.touched (.settleGroup ..)
  works h _ hfront := h.2.2.works h.1 h.2.1 hfront
  withdrawn h _ := h.2.2.congr rfl rfl rfl id
  haltMarker {s} loss rest h hfront := by
    have hf := ((Formed.mk h.1 h.2.1.assembling).takeMarker (by simp [hfront, IntakeItem.isFrame])).recordLoss loss none
    exact ((h.2.2.markerTaken _).closeSegment hf _).enterStopped _
  resyncMarker {s} loss rest h hfront := by
    have hf := ((Formed.mk h.1 h.2.1.assembling).takeMarker (by simp [hfront, IntakeItem.isFrame])).recordLoss loss none
    exact ((h.2.2.markerTaken _).closeInCourse hf _).congr rfl rfl rfl id
  grantFetch h _ r := h.2.2.touched (.grantFetch _ r)
  grantRead h _ r := h.2.2.touched (.grantRead _ r)
  writeCompletes h _ _ := h.2.2.touched (.writeCompletes ..)
  readCompletes h _ _ units kind clamped result := h.2.2.touched (.completeRead ..)

end Sys2Proof.Machine

namespace Sys2Proof.Proofs
open Sys2Proof.Machine

/-- Settles O57: a block that joins the drain order is offered at once, and a take whose window is done ends when the ring is brought up to date. -/
theorem everyStepKeepsTheDrainInForm : Obligations.EveryStepKeepsTheDrainInForm :=
  fun _ _ hr ha hp hst => drainForm_iff.mpr (coreKeeps_drainsWell.step hr ha (drainForm_iff.mp hp) hst)

end Sys2Proof.Proofs

/-!
The band against Headroom (O31): each evaluation brings them into agreement, and between an act that moves Headroom and its evaluation only the thresholds
are in form.
-/
namespace Sys2Proof.Machine

variable {s t u : State} {f : Frame} {before : Nat} {c : Fin 4} {x x' : Fate} {b b' : Bool} {headroom p k h : Nat}

/-! ## The evaluations (R25, R26) -/

theorem bandMove_agrees (band : Band) (hkp : k < p) : (bandMove band headroom p k h).agrees headroom p k h := by
  cases band with
  | relaxed =>
    unfold bandMove
    dsimp only
    split
    · exact ⟨fun _ => rfl, nofun, nofun, fun _ => by omega⟩
    · split
      · exact ⟨fun _ => by omega, nofun, fun _ => by omega, nofun⟩
      · exact ⟨fun _ => by omega, fun _ => by omega, nofun, nofun⟩
  | pressed =>
    unfold bandMove
    dsimp only
    split
    · exact ⟨fun _ => rfl, nofun, nofun, fun _ => by omega⟩
    · split
      · exact ⟨fun _ => by omega, fun _ => by omega, nofun, nofun⟩
      · exact ⟨fun _ => by omega, nofun, fun _ => by omega, nofun⟩
  | critical =>
    unfold bandMove
    dsimp only
    split
    · exact ⟨fun _ => by omega, fun _ => by omega, nofun, nofun⟩
    · split
      · exact ⟨fun _ => by omega, nofun, fun _ => by omega, nofun⟩
      · exact ⟨fun _ => rfl, nofun, nofun, fun _ => by omega⟩

theorem bandFresh_agrees (h : Nat) : (bandFresh headroom p k).agrees headroom p k h := by
  unfold bandFresh
  split
  · exact ⟨fun _ => rfl, nofun, nofun, fun _ => by omega⟩
  · split
    · exact ⟨fun _ => by omega, nofun, fun _ => by omega, nofun⟩
    · exact ⟨fun _ => by omega, fun _ => by omega, nofun, nofun⟩

theorem bandMove_relaxed_of_above (band : Band) (hkp : k < p) (habove : p + h < headroom) : bandMove band headroom p k h = .relaxed := by
  have hk : ¬ headroom ≤ k := fun hle => absurd (hle.trans_lt hkp) (by omega)
  have hp : ¬ headroom ≤ p := by omega
  cases band <;> simp [bandMove, hk, hp, habove]

theorem bandMove_critical_row : bandMove .critical headroom p k h
    = if p + h < headroom then .relaxed else if k + h < headroom ∧ headroom ≤ p + h then .pressed else .critical := by
  unfold bandMove
  dsimp only
  split
  · rfl
  · exact if_congr (by omega) rfl rfl

/-! ## The form -/

/-- K lies below P in every profile, and the active P is at most C (R24, R102, R104, R105). -/
structure Thresholds (s : State) : Prop where
  active : s.control.active.critical < s.control.active.pressed
  requested : s.control.requested.critical < s.control.requested.pressed
  staged : s.control.staged.critical < s.control.staged.pressed
  capacity : s.control.active.pressed ≤ s.capacity

theorem bandForm_iff : BandForm s ↔ Thresholds s
    ∧ s.ring.band.agrees s.headroom s.control.active.pressed s.control.active.critical s.control.active.hysteresis := by
  constructor
  · rintro ⟨active, requested, staged, capacity, hband⟩
    exact ⟨⟨active, requested, staged, capacity⟩, hband⟩
  · rintro ⟨⟨active, requested, staged, capacity⟩, hband⟩
    exact ⟨active, requested, staged, capacity, hband⟩

/-- The profiles of two states are the same. -/
def State.sameProfiles (s t : State) : Prop :=
  t.control.active = s.control.active ∧ t.control.requested = s.control.requested ∧ t.control.staged = s.control.staged

theorem State.sameProfiles_of_control (h : t.control = s.control) : s.sameProfiles t := by
  rw [sameProfiles, h]
  exact ⟨rfl, rfl, rfl⟩

theorem Thresholds.congr (h : Thresholds s) (hprofiles : s.sameProfiles t) (hmap : t.power.groupMap = s.power.groupMap) : Thresholds t := by
  obtain ⟨hactive, hrequested, hstaged⟩ := hprofiles
  have hcapacity : t.capacity = s.capacity := by rw [State.capacity, hmap, State.capacity]
  exact ⟨hactive ▸ h.active, hrequested ▸ h.requested, hstaged ▸ h.staged, by rw [hactive, hcapacity]; exact h.capacity⟩

theorem State.headroom_of_parts (hmap : t.power.groupMap = s.power.groupMap) (hhead : t.ring.head = s.ring.head) (hpins : t.pins = s.pins)
    (hfront : t.archiveFront = s.archiveFront) : t.headroom = s.headroom := by
  rw [headroom, capacity, hmap, hhead, holdFloor_congr hpins hfront]
  rfl

namespace BandForm

theorem thresholds (h : BandForm s) : Thresholds s :=
  (bandForm_iff.mp h).1

theorem congr (h : BandForm s) (hprofiles : s.sameProfiles t) (hmap : t.power.groupMap = s.power.groupMap) (hhead : t.ring.head = s.ring.head)
    (hband : t.ring.band = s.ring.band) (hpins : t.pins = s.pins) (hfront : t.archiveFront = s.archiveFront) : BandForm t := by
  obtain ⟨hthresholds, hagrees⟩ := bandForm_iff.mp h
  refine bandForm_iff.mpr ⟨hthresholds.congr hprofiles hmap, ?_⟩
  rw [hprofiles.1, hband, State.headroom_of_parts hmap hhead hpins hfront]
  exact hagrees

/-- An act that leaves the profiles, the ring, the pins and the map. -/
theorem kept (h : BandForm s) (hcontrol : s.sameProfiles t) (hring : t.ring = s.ring) (hpins : t.pins = s.pins) (hmap : t.power.groupMap = s.power.groupMap) :
    BandForm t :=
  h.congr hcontrol hmap (by rw [hring]) (by rw [hring]) hpins (State.archiveFront_congr (by rw [hring]) (by rw [hring]))

theorem of_core (h : BandForm s) (hcore : t.core = s.core) : BandForm t := by
  have hform : BandForm s.core := h
  rw [← hcore] at hform
  exact hform

/-- Blocks change neither LBN, state nor Archive Required. -/
theorem map (h : BandForm s) {g : Block → Block} (hring : t.ring = { s.ring with blocks := s.ring.blocks.map g }) (hlbn : ∀ b, (g b).lbn = b.lbn)
    (hunarchived : ∀ b ∈ s.ring.blocks, (g b).unarchived = b.unarchived) (hcontrol : s.sameProfiles t) (hpins : t.pins = s.pins)
    (hmap : t.power.groupMap = s.power.groupMap) : BandForm t :=
  h.congr hcontrol hmap (by rw [hring]) (by rw [hring]) hpins (State.archiveFront_map hring hlbn hunarchived)

theorem touched (h : BandForm s) (ht : Touched s t) : BandForm t := by
  obtain ⟨g, e, groups, store, hg, -, hcore⟩ := ht
  refine BandForm.of_core (s := s.touch g e groups store) ?_ hcore
  refine h.map rfl (fun b => (congrArg Block.lbn (hg b) : (g b).steady.lbn = b.steady.lbn)) (fun b _ => ?_) ⟨rfl, rfl, rfl⟩ rfl rfl
  exact (congrArg Block.unarchived (hg b) : (g b).steady.unarchived = b.steady.unarchived)

/-! ## The band is evaluated (R25, R26, R104, R105) -/

theorem reband (h : Thresholds s) : BandForm s.reband := by
  have hheadroom : s.reband.headroom = s.headroom := State.headroom_of_parts (by simp) (by simp) (by simp) (by simp)
  refine bandForm_iff.mpr ⟨h.congr (State.sameProfiles_of_control (by simp)) (by simp), ?_⟩
  rw [hheadroom, State.reband_ring, State.reband_control]
  exact bandMove_agrees _ h.active

theorem settleRing (h : Thresholds s) (before : Nat) : BandForm (s.settleRing before) := by
  have hsame : s.sameProfiles (s.settleRing before) := by
    rw [State.sameProfiles, State.settleRing_control]
    exact ⟨rfl, rfl, rfl⟩
  refine bandForm_iff.mpr ⟨h.congr hsame (by simp), ?_⟩
  rw [hsame.1, State.settleRing_headroom, State.settleRing_ring, State.reband_ring]
  exact bandMove_agrees _ h.active

theorem bandAfresh (h : Thresholds s) : BandForm s.bandAfresh := by
  have hsame : s.sameProfiles s.bandAfresh := State.sameProfiles_of_control s.bandAfresh_control
  refine bandForm_iff.mpr ⟨h.congr hsame (by simp [State.bandAfresh]), ?_⟩
  rw [hsame.1, State.bandAfresh_headroom, State.bandAfresh_ring]
  exact bandFresh_agrees _

end BandForm

/-- Clamping keeps K below P (R104). -/
theorem Profile.effective_thresholds {q : Profile} (hq : q.critical < q.pressed) {n : Nat} (hn : 0 < n) :
    (q.effective n).critical < (q.effective n).pressed ∧ (q.effective n).pressed ≤ n := by
  unfold effective
  dsimp only
  refine ⟨?_, Nat.min_le_right ..⟩
  split <;> omega

theorem Thresholds.takeProfile (h : Thresholds s) (hpos : 0 < s.capacity) : Thresholds s.takeProfile := by
  obtain ⟨hbelow, hwithin⟩ := Profile.effective_thresholds h.staged hpos
  exact ⟨hbelow, h.staged, h.staged, hwithin⟩

theorem BandForm.activate (h : Thresholds s) (hpos : 0 < s.capacity) : BandForm s.activate :=
  .bandAfresh (h.takeProfile hpos)

/-- A new C: the active profile is clamped again from its requested values (R105). -/
theorem Thresholds.reclamp (h : Thresholds s) (hprofiles : s.sameProfiles t) (hpos : 0 < t.capacity) : Thresholds t.reclamp := by
  obtain ⟨-, hrequested, hstaged⟩ := hprofiles
  obtain ⟨hbelow, hwithin⟩ := Profile.effective_thresholds (hrequested ▸ h.requested) hpos
  exact ⟨hbelow, hrequested ▸ h.requested, hstaged ▸ h.staged, hwithin⟩

end Sys2Proof.Machine

/-!
Every command keeps the band in agreement with Headroom and the thresholds (O31).
-/
namespace Sys2Proof.Machine

variable {s t u : State} {f : Frame} {before : Nat} {c : Fin 4} {x x' : Fate} {b b' : Bool}

/-! ## ArchiveFront under returns (R13, R129, R130, R132) -/

/-- Blocks that are not Archived are returned, one after another. -/
theorem State.returnAll_archiveFront (l : List Block) (harchived : ∀ y ∈ s.ring.blocks, y.lbn ∈ l.map Block.lbn → y.state ≠ .archived) :
    (l.foldl State.returnOne s).archiveFront = s.archiveFront := by
  induction l generalizing s with
  | nil => rfl
  | cons b l ih =>
    refine (ih fun y hy hmem => ?_).trans (State.returnOne_archiveFront fun y hy hlbn => harchived y hy (by simp [hlbn]))
    obtain ⟨z, hz, hlbn, ⟨-, hstate⟩ | ⟨-, hsealed | ⟨k, -, hclaimed⟩⟩⟩ := DrainsWell.returnOne_block hy
    · rw [hstate]
      exact harchived z hz (List.mem_cons_of_mem _ (hlbn ▸ hmem))
    · rw [hsealed]
      simp
    · rw [hclaimed]
      simp

theorem State.cancelTake_core_parts (s : State) (c : Fin 4) : (s.cancelTake c).ring = s.ring := by
  unfold cancelTake
  split
  next k _ => exact (congrArg State.ring (refuse_core (s.unpark k) .archive k.tag .take .cancelled) :)
  · rfl

theorem State.closeOne_archiveFront (hd : (s.ring.blocks.map Block.lbn).Nodup) (c : Fin 4) : (s.closeOne c).archiveFront = s.archiveFront := by
  have hring := s.cancelTake_core_parts c
  have hreturned : ((s.claims c).foldl State.returnOne (s.cancelTake c)).archiveFront = (s.cancelTake c).archiveFront := by
    refine returnAll_archiveFront _ fun y hy hmem => ?_
    rw [hring] at hy
    obtain ⟨z, hz, hlbn⟩ := List.mem_map.mp hmem
    obtain ⟨hz, hstate⟩ := List.mem_filter.mp hz
    rw [← List.inj_on_of_nodup_map hd hz hy hlbn, of_decide_eq_true hstate]
    simp
  exact hreturned.trans (archiveFront_congr (by rw [hring]) (by rw [hring]))

namespace BandForm

/-! ## Claims and seals -/

theorem undrained (h : BandForm s) (hkept : t.undrained = s.undrained) (hfront : t.archiveFront = s.archiveFront) : BandForm t :=
  h.congr (State.sameProfiles_of_control (s := s.undrained) (t := t.undrained) (congrArg State.control hkept))
    (congrArg (fun u : State => u.power.groupMap) hkept :) (congrArg (fun u : State => u.ring.head) hkept :)
    (congrArg (fun u : State => u.ring.band) hkept :) (congrArg State.pins hkept :) hfront

theorem sealFilling (h : BandForm s) (hd : (s.ring.blocks.map Block.lbn).Nodup) : BandForm s.sealFilling :=
  h.undrained s.sealFilling_undrained (State.sealFilling_archiveFront hd)

theorem claimed (h : BandForm s) (hd : (s.ring.blocks.map Block.lbn).Nodup) {w : Window} {b : Block} (hchosen : s.chosenBlock w = some b) (c : Fin 4) :
    BandForm (s.claimBlock b.lbn c) := by
  have hmem := List.mem_of_find?_eq_some hchosen
  have hdrain : b.drainable = true ∧ w.covers b.lbn = true := by simpa using List.find?_some hchosen
  refine h.undrained (s.claimBlock_undrained ..) (State.restated_archiveFront (st := .claimed c) (by simp) (fun y hy hlbn => ?_) rfl)
  rw [List.inj_on_of_nodup_map hd hy hmem hlbn]
  intro harchived
  simp [Block.drainable, harchived] at hdrain

theorem returned (h : BandForm s) (hd : (s.ring.blocks.map Block.lbn).Nodup) {c : Fin 4} {n : Nat} {b : Block} (hclaimed : s.claimedBlock c n = some b) :
    BandForm (s.returnOne b) := by
  obtain ⟨hmem, hstate⟩ := State.mem_of_claimedBlock hclaimed
  refine h.undrained (s.returnOne_undrained b) (State.returnOne_archiveFront fun y hy hlbn => ?_)
  rw [List.inj_on_of_nodup_map hd hy hmem hlbn, hstate]
  simp

theorem confirmBlock (h : BandForm s) (b : Block) (loss : Bool) : BandForm (s.confirmBlock b loss) := by
  refine .settleRing ?_ _
  unfold State.markLoss
  split <;> exact h.thresholds.congr ⟨rfl, rfl, rfl⟩ rfl

/-! ## Acts of capture -/

theorem closeSegment (h : BandForm s) (hf : Formed s) (reason : CloseReason) : BandForm (s.closeSegment reason) :=
  (h.sealFilling hf.tableForm.distinct).kept (State.sameProfiles_of_control (by simp)) (hf.closeSegment_ring reason) (by simp) (by simp)

theorem enterStopped (h : BandForm s) (hpos : 0 < s.capacity) (reason : StopReason) : BandForm (s.enterStopped reason) := by
  have hhalted : BandForm (s.haltCapture reason) := h.kept ⟨rfl, rfl, rfl⟩ (by simp) rfl rfl
  have hswapped : BandForm (s.haltCapture reason).takeSwap := by
    unfold State.takeSwap
    split
    · exact .activate hhalted.thresholds hpos
    · exact hhalted
  rw [State.enterStopped_eq]
  generalize (s.haltCapture reason).takeSwap = u at hswapped
  have hraised := hswapped.of_core (State.raise_core u .captureStopped)
  generalize u.raise .captureStopped = v at hraised
  exact hraised.kept (State.sameProfiles_of_control (by simp)) (by simp) (by simp) (by simp)

theorem capacity_of_map (hmap : t.power.groupMap = s.power.groupMap) : t.capacity = s.capacity := by
  rw [State.capacity, hmap, State.capacity]

theorem closeAndStop (h : BandForm s) (hf : Formed s) (close : CloseReason) (reason : StopReason) :
    BandForm ((s.closeSegment close).enterStopped reason) := by
  refine (h.closeSegment hf close).enterStopped ?_ reason
  rw [capacity_of_map (s := s) (by simp)]
  exact hf.ring.capacity_pos

theorem closeInCourse (h : BandForm s) (hf : Formed s) (reason : CloseReason) : BandForm (s.closeInCourse reason) := by
  have hstopped := h.closeAndStop hf reason
  have hclosed := h.closeSegment hf reason
  unfold State.closeInCourse
  split
  · exact h
  · dsimp only
    split
    · exact hstopped _
    · exact hclosed

theorem stopAtOnce (h : BandForm s) (hf : Formed s) (close : CloseReason) (reason : StopReason) : BandForm (s.stopAtOnce close reason) := by
  have hdiscarded : BandForm s.discardIntake := h.kept ⟨rfl, rfl, rfl⟩ rfl rfl rfl
  exact hdiscarded.closeAndStop hf.discardIntake close reason

theorem stopAtEnd (h : BandForm s) (hpos : 0 < s.capacity) : BandForm s.stopAtEnd := by
  unfold State.stopAtEnd
  split
  · split
    · exact h.kept ⟨rfl, rfl, rfl⟩ rfl rfl rfl
    · exact h.enterStopped hpos _
  · exact h

theorem stage (h : BandForm s) (hpos : 0 < s.capacity) {q : Profile} (hq : q.critical < q.pressed) : BandForm (s.stage q) := by
  obtain ⟨hthresholds, hagrees⟩ := bandForm_iff.mp h
  have hstaged : Thresholds (s.mapControl fun c => { c with staged := q }) := ⟨hthresholds.active, hthresholds.requested, hq, hthresholds.capacity⟩
  unfold State.stage
  dsimp only
  split
  · exact bandForm_iff.mpr ⟨hstaged.congr ⟨rfl, rfl, rfl⟩ rfl, hagrees⟩
  · exact .activate hstaged hpos

theorem testHeadMark (h : BandForm s) (hpos : 0 < s.capacity) : BandForm s.testHeadMark := by
  obtain hsame | ⟨u, hcore, -, -, hstop⟩ | ⟨u, hcore, -, -, hstop⟩ := s.testHeadMark_cases
  · exact h.of_core hsame
  · rw [hstop]
    exact (h.of_core hcore).kept ⟨rfl, rfl, rfl⟩ rfl rfl rfl
  · rw [hstop]
    have hmap : u.power.groupMap = s.power.groupMap := (congrArg (fun u : State => u.power.groupMap) hcore :)
    exact (h.of_core hcore).enterStopped (by rwa [capacity_of_map hmap]) _

/-! ## Pins, port resets and ring formation -/

theorem pinMoved (h : Thresholds s) (i : Fin 8) (pin : Option PinRange) (r : PinRange) (f : Nat → Nat) : BandForm (s.pinMoved i pin r f).reband :=
  .reband (h.congr ⟨rfl, rfl, rfl⟩ rfl)

theorem dropPins (h : Thresholds s) (l : List (Fin 8)) : Thresholds (l.foldl State.dropPin s) := by
  induction l generalizing s with
  | nil => exact h
  | cons i l ih => exact ih (h.congr (State.sameProfiles_of_control (by simp)) (by simp))

theorem resetViewer (h : Thresholds s) : BandForm s.resetViewer := by
  unfold State.resetViewer
  have hqueued : Thresholds (s.mapStore fun t => { t with viewerQueue := [] }) := h.congr ⟨rfl, rfl, rfl⟩ rfl
  exact .reband (dropPins hqueued _)

theorem resetDrain (h : BandForm s) : BandForm s.resetDrain := by
  refine h.map (g := Block.unclaim) rfl (fun b => ?_) (fun b _ => ?_) ⟨rfl, rfl, rfl⟩ rfl rfl
  · unfold Block.unclaim
    split <;> rfl
  · unfold Block.unclaim
    split
    next hstate => simp [Block.unarchived, hstate]
    · rfl
    · rfl
    · rfl

theorem resetPort (h : BandForm s) (p : Port) : BandForm (s.resetPort p) := by
  have hbegun : BandForm ((s.discardSlots p).dropWaits p) := h.of_core (by cases p <;> rfl)
  have howners : BandForm (((s.discardSlots p).dropWaits p).resetOwners p) := by
    cases p
    · exact resetViewer hbegun.thresholds
    · exact hbegun.resetDrain
  unfold State.resetPort
  generalize ((s.discardSlots p).dropWaits p).resetOwners p = u at howners
  have hdiscarded : BandForm (u.discardReads p) := howners.kept ⟨rfl, rfl, rfl⟩ rfl rfl rfl
  exact hdiscarded.of_core (State.mapPort_core ..)

theorem putMap (h : BandForm s) {span : BitVec 8} {groups : List (BitVec 8)} {map : List (Fin 16)} (hmap : groupMapParam span groups = some map) :
    BandForm (s.putMap map) := by
  have hpos : 0 < 1024 * map.length := by
    have hspan := (groupMapParam_legal hmap).1
    have : map.length ≠ 0 := fun hzero => by simp [hzero] at hspan
    omega
  exact .bandAfresh (h.thresholds.reclamp ⟨rfl, rfl, rfl⟩ hpos)

theorem reform (h : BandForm s) (hpos : 0 < s.capacity) : BandForm s.reform := by
  unfold State.reform
  dsimp only
  refine BandForm.of_core ?_ (State.testArchiveMark_core _)
  exact .bandAfresh (h.thresholds.reclamp ⟨rfl, rfl, rfl⟩ hpos)

end BandForm

end Sys2Proof.Machine

/-!
The band in every working and every command (O31).
-/
namespace Sys2Proof.Machine

variable {s t : State} {f : Frame} {before : Nat} {x x' : Fate} {b b' : Bool}

/-- The band while a frame is worked: the thresholds alone while the ring is not up to date. -/
def BandWork (stale : Bool) (s : State) : Prop :=
  if stale then Thresholds s else BandForm s

theorem BandWork.thresholds {stale : Bool} (h : BandWork stale s) : Thresholds s := by
  cases stale
  · exact BandForm.thresholds h
  · exact h

theorem WorkMove.bandWork (hm : WorkMove before f b x s b' x' t) (hw : WorkForm f x s) (h : BandWork b s) : BandWork b' t := by
  have hf := hw.toFormed
  have hpos := hf.ring.capacity_pos
  cases hm with
  | recordLoss loss => exact BandForm.kept h (State.sameProfiles_of_control (by simp)) (by simp) (by simp) (by simp)
  | sealed => exact BandForm.sealFilling h hf.tableForm.distinct
  | close hx reason => exact BandForm.closeSegment h hf reason
  | stop hx reason => exact BandForm.enterStopped h hpos reason
  | swap => exact BandForm.activate h.thresholds hpos
  | discardCarried => exact BandForm.kept h ⟨rfl, rfl, rfl⟩ rfl rfl rfl
  | stale => exact h.thresholds
  | leaves hleaves =>
    have hside : t.control = s.control ∧ t.power = s.power := by cases hleaves <;> simp
    exact Thresholds.congr h (State.sameProfiles_of_control hside.1) (by rw [hside.2])
  | settle => exact .settleRing h before
  | openSegment loss => exact Thresholds.congr h ⟨rfl, rfl, rfl⟩ rfl
  | openNext hopen =>
    obtain ⟨e, he⟩ := Option.isSome_iff_exists.mp hopen
    rw [State.nextBlockOpened, he]
    exact Thresholds.congr h ⟨rfl, rfl, rfl⟩ rfl
  | append a =>
    exact BandForm.map h (g := fun y => if y.lbn = a.lbn then { y with fillBytes := y.fillBytes + f.payload.length } else y) rfl
      (fun y => by split <;> rfl) (fun y _ => by split <;> rfl) ⟨rfl, rfl, rfl⟩ rfl rfl
  | headMark => exact BandForm.testHeadMark h hpos
  | actOn => exact BandForm.kept h ⟨rfl, rfl, rfl⟩ rfl rfl rfl
  | drop => exact BandForm.kept h ⟨rfl, rfl, rfl⟩ rfl rfl rfl
  | notice k => exact BandForm.of_core h (s.raiseNotice_core k)
  | gap lost cause => exact BandForm.kept h (State.sameProfiles_of_control (by simp)) (by simp) (by simp) (by simp)
  | dropContinuation => exact BandForm.kept h ⟨rfl, rfl, rfl⟩ rfl rfl rfl
  | wait stage => exact BandForm.kept h ⟨rfl, rfl, rfl⟩ rfl rfl rfl

theorem BandForm.works (h : BandForm s) (hr : RingForm s) (ha : AssemblyForm s) {loss : Option LossRecord} {rest : List IntakeItem}
    (hfront : s.link.intake = .frame f loss :: rest) : BandForm (s.granted.beginAct.worked f loss s.assembler.stage).present := by
  obtain ⟨y, -, hy⟩ := State.granted_worked hr ha f loss
  have hgranted : BandForm s.granted.beginAct := h.kept ⟨rfl, rfl, rfl⟩ rfl rfl rfl
  obtain ⟨-, hworked⟩ := hy.keeps (K := fun stale y u => WorkForm f y u ∧ BandWork stale u)
    (fun hs hm => ⟨hm.form hs.1, hm.bandWork hs.1 hs.2⟩) ⟨.granted hr ha hfront, hgranted⟩
  exact BandForm.kept hworked ⟨rfl, rfl, rfl⟩ rfl rfl rfl

theorem BandForm.markerTaken (h : BandForm s) (loss : Option LossRecord) : BandForm (s.takeMarker.recordLoss loss none) := by
  have htaken : BandForm s.takeMarker := h.kept ⟨rfl, rfl, rfl⟩ rfl rfl rfl
  exact htaken.kept (State.sameProfiles_of_control (by simp)) (by simp) (by simp) (by simp)

theorem coreKeeps_bandForm : CoreKeeps (fun s => RingForm s ∧ AssemblyForm s ∧ BandForm s) BandForm where
  before := by
    rintro s t ⟨hr, ha, hb⟩ hcore
    obtain ⟨hring, hassembly⟩ := coreKeeps_formed.before ⟨hr, ha⟩ hcore
    exact ⟨hring, hassembly, hb.of_core hcore⟩
  after h hcore := h.of_core hcore
  kept h := h.2.2
  start h _ _ := h.2.2.kept ⟨rfl, rfl, rfl⟩ rfl rfl rfl
  stopAtOnce h close reason := h.2.2.stopAtOnce ⟨h.1, h.2.1.assembling⟩ close reason
  stopAtEnd h := h.2.2.stopAtEnd h.1.capacity_pos
  sealFilling h := h.2.2.sealFilling h.1.lbns_nodup
  expires := by
    rintro s ⟨hr, ha, hb⟩
    obtain ⟨hring, hassembly⟩ := coreKeeps_formed.expires ⟨hr, ha⟩
    exact ⟨hring, hassembly, hb.kept ⟨rfl, rfl, rfl⟩ rfl rfl rfl⟩
  stage h q hq := h.2.2.stage h.1.capacity_pos hq
  headMark h := h.2.2.testHeadMark h.1.capacity_pos
  takePin h _ _ := BandForm.pinMoved h.2.2.thresholds ..
  dropPin h := .reband (h.2.2.thresholds.congr (State.sameProfiles_of_control (by simp)) (by simp))
  groupNext h g n := h.2.2.touched (.putGroup ..)
  applyChanges h _ _ := h.2.2.touched (.applyChanges _)
  putMap h _ hmap := h.2.2.putMap hmap
  reform h _ _ := h.2.2.reform h.1.capacity_pos
  openContext h _ w := h.2.2.kept ⟨rfl, rfl, rfl⟩ rfl rfl rfl
  closeOne h c := h.2.2.undrained (State.closeOne_undrained ..) (State.closeOne_archiveFront h.1.lbns_nodup c)
  claim {s} c w b h _ _ hchosen := h.2.2.claimed h.1.lbns_nodup hchosen c
  park tag h _ _ _ _ _ _ := h.2.2.kept ⟨rfl, rfl, rfl⟩ rfl rfl rfl
  confirm h _ loss := h.2.2.confirmBlock _ loss
  returnOne h hclaimed := h.2.2.returned h.1.lbns_nodup hclaimed
  resetPort h p := h.2.2.resetPort p
  frameJoins h _ _ loss := h.2.2.kept ⟨rfl, rfl, rfl⟩ rfl rfl rfl
  markerJoins h _ loss := h.2.2.kept ⟨rfl, rfl, rfl⟩ rfl rfl rfl
  orderlyHalt h _ _ := h.2.2.kept ⟨rfl, rfl, rfl⟩ rfl rfl rfl
  reset levels := by
    obtain ⟨-, -, -, -, -, -, -, -, -, -, -, -, hband⟩ := Proofs.resetHasEveryForm
    exact hband.of_core rfl
  settleGroup h _ := h.2.2.touched (.settleGroup ..)
  works h _ hfront := h.2.2.works h.1 h.2.1 hfront
  withdrawn h _ := h.2.2.kept ⟨rfl, rfl, rfl⟩ rfl rfl rfl
  haltMarker {s} loss rest h hfront := by
    have hf := ((Formed.mk h.1 h.2.1.assembling).takeMarker (by simp [hfront, IntakeItem.isFrame])).recordLoss loss none
    exact (h.2.2.markerTaken _).closeAndStop hf _ _
  resyncMarker {s} loss rest h hfront := by
    have hf := ((Formed.mk h.1 h.2.1.assembling).takeMarker (by simp [hfront, IntakeItem.isFrame])).recordLoss loss none
    exact ((h.2.2.markerTaken _).closeInCourse hf _).kept ⟨rfl, rfl, rfl⟩ rfl rfl rfl
  grantFetch h _ r := h.2.2.touched (.grantFetch _ r)
  grantRead h _ r := h.2.2.touched (.grantRead _ r)
  writeCompletes h _ _ := h.2.2.touched (.writeCompletes ..)
  readCompletes h _ _ units kind clamped result := h.2.2.touched (.completeRead ..)

end Sys2Proof.Machine

namespace Sys2Proof.Proofs
open Sys2Proof.Machine

/-- Settles O31: each evaluation agrees whatever the band was, and every act that moves Headroom or the thresholds ends in one. -/
theorem bandFollowsHeadroom : Obligations.BandFollowsHeadroom := by
  refine ⟨fun band headroom p k h hkp => ?_, fun _ _ hr ha hb hst => coreKeeps_bandForm.step hr ha hb hst⟩
  obtain ⟨hmoveCritical, hmoveRelaxed, -, -⟩ := bandMove_agrees band hkp (headroom := headroom) (h := h)
  obtain ⟨hfreshCritical, hfreshRelaxed, -, -⟩ := bandFresh_agrees h (headroom := headroom) (p := p) (k := k)
  refine ⟨?_, fun hle => ⟨hmoveCritical hle, hfreshCritical hle⟩, fun hle => ⟨hmoveRelaxed hle, hfreshRelaxed hle⟩, bandMove_relaxed_of_above band hkp,
    fun hlow hhigh => ?_, fun habove => ?_⟩
  · cases band with
    | relaxed => rfl
    | pressed => rfl
    | critical => exact bandMove_critical_row
  · rw [bandFresh, if_neg (not_le.mpr hlow), if_pos hhigh]
  · rw [bandFresh, if_neg (not_le.mpr (hkp.trans habove)), if_neg (not_le.mpr habove)]

end Sys2Proof.Proofs

/-!
The request slots of both ports as one list, and the requests at their blocks as another (R163, R196). `SlotForm` says of each port that its slots
are those of the requests that wait; here the ports are joined, so that a request that passes from a block to its answer is followed in one list.
-/
namespace Sys2Proof.Machine

/-- The slot of a parked wait, at its port (R187). -/
def ParkedWait.held (w : ParkedWait) : Port × Slot :=
  (w.port, slotOf w.tag .wait .parked)

/-- The slot of a parked take (R117). -/
def ParkedTake.held (k : ParkedTake) : Port × Slot :=
  (.archive, slotOf k.tag .take .parked)

/-- The slot of a queued Fetch (R122). -/
def FetchRequest.held (r : FetchRequest) : Port × Slot :=
  (.archive, slotOf r.tag .fetch .queued)

/-- The slot of a queued Read (R142). -/
def ReadRequest.held (r : ReadRequest) : Port × Slot :=
  (.viewer, slotOf r.tag .read .queued)

/-- The slot of a read in flight whose requester is not discarded (R159, R163). -/
def InFlight.held (e : InFlight) : Option (Port × Slot) :=
  match e.op, e.requester with
  | .archiveRead _, .request p tag => some (p, slotOf tag .fetch .issued)
  | .viewerRead _ _ _, .request p tag => some (p, slotOf tag .read .issued)
  | _, _ => none

/-- The slots of the waits parked on the flags (R187). -/
def flagSlots (flags : Vector SyncFlag 8) : List (Port × Slot) :=
  flags.toList.flatMap fun f => f.waits.map ParkedWait.held

/-- The slots of the requests that wait at the Drain Engine, in a queue of reads or in flight. -/
def State.requestSlots (s : State) : List (Port × Slot) :=
  s.drain.parkedTakes.map ParkedTake.held ++ s.store.archiveQueue.map FetchRequest.held
    ++ s.store.viewerQueue.map ReadRequest.held ++ s.store.inFlight.filterMap InFlight.held

/-- The slots of the requests that wait at a block. -/
def State.waitingSlots (s : State) : List (Port × Slot) :=
  flagSlots s.flags ++ s.requestSlots

/-- The occupied slots of both ports. -/
def State.occupiedSlots (s : State) : List (Port × Slot) :=
  s.viewerPort.slots.map (Prod.mk .viewer) ++ s.archivePort.slots.map (Prod.mk .archive)

/-- A port's tag for a request: no two slots share one (R196). -/
def slotKey (x : Port × Slot) : Port × Byte :=
  (x.1, x.2.tag)

/-- The slots of one port in a list of both ports'. -/
def atPort (p : Port) (l : List (Port × Slot)) : List Slot :=
  l.filterMap fun x => if x.1 = p then some x.2 else none

/-! ## The two lists and `SlotForm` -/

theorem atPort_map_same (p : Port) (l : List Slot) : atPort p (l.map (Prod.mk p)) = l := by
  simp [atPort, List.filterMap_map]

theorem atPort_map_other {p q : Port} (hne : q ≠ p) (l : List Slot) : atPort p (l.map (Prod.mk q)) = [] := by
  simp [atPort, List.filterMap_map, hne]

theorem perm_atPort (l : List (Port × Slot)) :
    l.Perm ((atPort .viewer l).map (Prod.mk .viewer) ++ (atPort .archive l).map (Prod.mk .archive)) := by
  induction l with
  | nil => exact .nil
  | cons x l ih =>
    obtain ⟨p, y⟩ := x
    cases p with
    | viewer => simpa [atPort] using ih
    | archive => exact (ih.cons _).trans (by simpa [atPort] using List.perm_middle.symm)

theorem perm_iff_atPort {l m : List (Port × Slot)} : l.Perm m ↔ ∀ p, (atPort p l).Perm (atPort p m) := by
  refine ⟨fun h p => h.filterMap _, fun h => ?_⟩
  exact (perm_atPort l).trans ((((h .viewer).map _).append ((h .archive).map _)).trans (perm_atPort m).symm)

theorem State.atPort_occupiedSlots (s : State) (p : Port) : atPort p s.occupiedSlots = (s.port p).slots := by
  have hsplit : atPort p s.occupiedSlots
      = atPort p (s.viewerPort.slots.map (Prod.mk .viewer)) ++ atPort p (s.archivePort.slots.map (Prod.mk .archive)) :=
    List.filterMap_append
  cases p with
  | viewer =>
    rw [hsplit, atPort_map_same, atPort_map_other (p := .viewer) (q := .archive) (by decide), List.append_nil]
    rfl
  | archive =>
    rw [hsplit, atPort_map_same, atPort_map_other (p := .archive) (q := .viewer) (by decide), List.nil_append]
    rfl

theorem atPort_waits (p : Port) (l : List ParkedWait) :
    atPort p (l.map ParkedWait.held) = (l.filter fun w => w.port = p).map fun w => slotOf w.tag .wait .parked := by
  induction l with
  | nil => rfl
  | cons w l ih => by_cases hw : w.port = p <;> simp_all [atPort, ParkedWait.held]

theorem atPort_flagSlots (s : State) (p : Port) : atPort p (flagSlots s.flags) = s.waitSlots p := by
  unfold flagSlots State.waitSlots
  generalize s.flags.toList = l
  induction l with
  | nil => rfl
  | cons f l ih =>
    simp only [List.flatMap_cons]
    rw [← ih, ← atPort_waits]
    exact List.filterMap_append

theorem atPort_inFlight (p : Port) (l : List InFlight) :
    atPort p (l.filterMap InFlight.held) = l.filterMap fun e => e.slotAt p := by
  rw [atPort, List.filterMap_filterMap]
  congr 1
  funext e
  unfold InFlight.held InFlight.slotAt
  rcases e with ⟨op, lbn, group, address, length, requester⟩
  cases op <;> cases requester <;> rfl

theorem State.atPort_waitingSlots (s : State) (p : Port) :
    atPort p s.waitingSlots = s.waitSlots p ++ s.queueSlots p ++ s.store.inFlight.filterMap fun e => e.slotAt p := by
  rw [← atPort_flagSlots, ← atPort_inFlight]
  cases p <;>
    simp [State.waitingSlots, State.requestSlots, State.queueSlots, atPort, List.filterMap_append, List.filterMap_map, Function.comp_def, ParkedTake.held,
      FetchRequest.held, ReadRequest.held]

theorem slotForm_iff {s : State} : SlotForm s ↔ s.occupiedSlots.Perm s.waitingSlots := by
  rw [perm_iff_atPort]
  exact forall_congr' fun p => by rw [State.atPort_occupiedSlots, State.atPort_waitingSlots]

/-! ## Lists of distinct keys -/

/-- Of a list of distinct keys, what is left without the key of its one element `x` is the rest. -/
theorem perm_filter_key {α β : Type} [DecidableEq β] {key : α → β} {x : α} {rest l : List α} (hl : l.Perm (x :: rest))
    (hkeys : (l.map key).Nodup) : (l.filter fun y => decide (key y ≠ key x)).Perm rest := by
  have hnodup : ((x :: rest).map key).Nodup := (hl.map key).nodup_iff.mp hkeys
  rw [List.map_cons, List.nodup_cons] at hnodup
  have hrest : rest.filter (fun y => decide (key y ≠ key x)) = rest :=
    List.filter_eq_self.mpr fun y hy => decide_eq_true fun heq => hnodup.1 (heq ▸ List.mem_map_of_mem hy)
  have h := hl.filter fun y => decide (key y ≠ key x)
  rwa [List.filter_cons_of_neg (by simp), hrest] at h

/-- Of a list of distinct elements, the others and the one that is left out are all. -/
theorem perm_cons_filter_ne {α : Type} [DecidableEq α] {x : α} {l : List α} (hl : l.Nodup) (hx : x ∈ l) :
    l.Perm (x :: l.filter fun y => decide (y ≠ x)) := by
  have h := List.perm_cons_erase hx
  rw [hl.erase_eq_filter] at h
  simpa [bne, beq_eq_decide] using h

theorem flagSlots_split (flags : Vector SyncFlag 8) (i : Fin 8) :
    ∃ rest, (flagSlots flags).Perm (flags[i].waits.map ParkedWait.held ++ rest)
      ∧ ∀ f, (flagSlots (flags.set i f)).Perm (f.waits.map ParkedWait.held ++ rest) := by
  have hi : i.val < flags.toList.length := by simp
  refine ⟨(flags.toList.take i).flatMap (fun f => f.waits.map ParkedWait.held)
    ++ (flags.toList.drop (i + 1)).flatMap (fun f => f.waits.map ParkedWait.held), ?_, fun f => ?_⟩
  · have hsplit : flags.toList = flags.toList.take i ++ flags[i] :: flags.toList.drop (i + 1) := by
      rw [show flags[i] = flags.toList[i.val] by simp, List.getElem_cons_drop, List.take_append_drop]
    unfold flagSlots
    rw [congrArg (List.flatMap _) hsplit, List.flatMap_append, List.flatMap_cons]
    exact List.perm_append_comm_assoc _ _ _
  · unfold flagSlots
    rw [Vector.toList_set, List.set_eq_take_append_cons_drop, if_pos hi, List.flatMap_append, List.flatMap_cons]
    exact List.perm_append_comm_assoc _ _ _

/-! ## A request that joins a block, or leaves it -/

/-- The slots of the requests at the blocks, block by block. -/
def slotsOf (flags : Vector SyncFlag 8) (takes : List ParkedTake) (fetches : List FetchRequest) (reads : List ReadRequest)
    (inFlight : List InFlight) : List (Port × Slot) :=
  flagSlots flags ++ (takes.map ParkedTake.held ++ fetches.map FetchRequest.held ++ reads.map ReadRequest.held
    ++ inFlight.filterMap InFlight.held)

section
variable (flags : Vector SyncFlag 8) (takes : List ParkedTake) (fetches : List FetchRequest) (reads : List ReadRequest)
variable (inFlight : List InFlight)

theorem slotsOf_take (k : ParkedTake) :
    (slotsOf flags (takes ++ [k]) fetches reads inFlight).Perm (k.held :: slotsOf flags takes fetches reads inFlight) := by
  rw [← Multiset.coe_eq_coe]
  simp only [slotsOf, List.map_append, List.map_cons, List.map_nil, ← Multiset.coe_add, ← Multiset.cons_coe, Multiset.coe_nil,
    ← Multiset.singleton_add]
  abel

theorem slotsOf_fetch (r : FetchRequest) :
    (slotsOf flags takes (fetches ++ [r]) reads inFlight).Perm (r.held :: slotsOf flags takes fetches reads inFlight) := by
  rw [← Multiset.coe_eq_coe]
  simp only [slotsOf, List.map_append, List.map_cons, List.map_nil, ← Multiset.coe_add, ← Multiset.cons_coe, Multiset.coe_nil,
    ← Multiset.singleton_add]
  abel

theorem slotsOf_fetch_cons (r : FetchRequest) :
    (slotsOf flags takes (r :: fetches) reads inFlight).Perm (r.held :: slotsOf flags takes fetches reads inFlight) := by
  rw [← Multiset.coe_eq_coe]
  simp only [slotsOf, List.map_cons, ← Multiset.coe_add, ← Multiset.cons_coe, ← Multiset.singleton_add]
  abel

theorem slotsOf_read (r : ReadRequest) :
    (slotsOf flags takes fetches (reads ++ [r]) inFlight).Perm (r.held :: slotsOf flags takes fetches reads inFlight) := by
  rw [← Multiset.coe_eq_coe]
  simp only [slotsOf, List.map_append, List.map_cons, List.map_nil, ← Multiset.coe_add, ← Multiset.cons_coe, Multiset.coe_nil,
    ← Multiset.singleton_add]
  abel

theorem slotsOf_read_cons (r : ReadRequest) :
    (slotsOf flags takes fetches (r :: reads) inFlight).Perm (r.held :: slotsOf flags takes fetches reads inFlight) := by
  rw [← Multiset.coe_eq_coe]
  simp only [slotsOf, List.map_cons, ← Multiset.coe_add, ← Multiset.cons_coe, ← Multiset.singleton_add]
  abel

theorem slotsOf_inFlight (e : InFlight) :
    (slotsOf flags takes fetches reads (inFlight ++ [e])).Perm (e.held.toList ++ slotsOf flags takes fetches reads inFlight) := by
  have hadd : (inFlight ++ [e]).filterMap InFlight.held = inFlight.filterMap InFlight.held ++ e.held.toList := by
    cases he : e.held <;> simp [he]
  rw [← Multiset.coe_eq_coe]
  simp only [slotsOf, hadd, ← Multiset.coe_add]
  abel

theorem slotsOf_inFlight_cons (e : InFlight) :
    (slotsOf flags takes fetches reads (e :: inFlight)).Perm (e.held.toList ++ slotsOf flags takes fetches reads inFlight) := by
  have hadd : (e :: inFlight).filterMap InFlight.held = e.held.toList ++ inFlight.filterMap InFlight.held := by
    cases he : e.held <;> simp [he]
  rw [← Multiset.coe_eq_coe]
  simp only [slotsOf, hadd, ← Multiset.coe_add]
  abel

end

end Sys2Proof.Machine

/-!
The ports within an act: `SignalForm`, and the occupied slots are those of the requests that wait at a block and of the requests the act is
answering. One rule for each operation on ports, slots, notices and flags.
-/
namespace Sys2Proof.Machine

/-- A port in form: its slots, their tags and its notice line (R193, R196). -/
def PortForm (q : PortState) : Prop :=
  q.slots.length ≤ 16 ∧ (q.slots.map Slot.tag).Nodup ∧ (q.notices.line = true ↔ q.notices.pending &&& q.notices.mask ≠ 0)

/-- A flag in form (R182). -/
def FlagForm (f : SyncFlag) : Prop :=
  f.waits.length ≤ 4 ∧ (f.value = true → f.waits = [])

theorem signalForm_iff {s : State} :
    SignalForm s ↔ (PortForm s.viewerPort ∧ PortForm s.archivePort) ∧ ∀ i : Fin 8, FlagForm s.flags[i] := by
  simp [SignalForm, PortForm, FlagForm]

/-- `s` within an act that is answering the requests of the slots `answering`: the ports and flags are in form, and, where `SlotForm` held as the
act began (`slotted`), the occupied slots are those of these requests and of the requests that wait at a block. -/
def PortsInForm (slotted : Prop) (answering : List (Port × Slot)) (s : State) : Prop :=
  SignalForm s ∧ (slotted → s.occupiedSlots.Perm (answering ++ s.waitingSlots))

/-- Whatever an act is answering, from `s` to `t` the ports stay in form. -/
def PortsKept (s t : State) : Prop :=
  ∀ ⦃slotted answering⦄, PortsInForm slotted answering s → PortsInForm slotted answering t

theorem PortsKept.refl (s : State) : PortsKept s s :=
  fun _ _ h => h

theorem PortsKept.trans {s t u : State} (h : PortsKept s t) (h' : PortsKept t u) : PortsKept s u :=
  fun _ _ hs => h' (h hs)

theorem PortsKept.foldl {α : Type} {f : State → α → State} (hf : ∀ s x, PortsKept s (f s x)) (l : List α) (s : State) :
    PortsKept s (l.foldl f s) := by
  induction l generalizing s with
  | nil => exact .refl s
  | cons x l ih => exact (hf s x).trans (ih _)

variable {s t : State} {slotted : Prop} {answering answering' : List (Port × Slot)} {p : Port} {tag : Byte} {i : Fin 8}

/-! ## What the form reads -/

/-- What of a state the ports' form reads, but for the requests at the blocks. -/
def State.signals (s : State) : (List Slot × NoticeUnit) × (List Slot × NoticeUnit) × Vector SyncFlag 8 :=
  ((s.viewerPort.slots, s.viewerPort.notices), (s.archivePort.slots, s.archivePort.notices), s.flags)

/-- The requests at the blocks but for the parked waits. -/
def State.requests (s : State) : List ParkedTake × List FetchRequest × List ReadRequest × List (Port × Slot) :=
  (s.drain.parkedTakes, s.store.archiveQueue, s.store.viewerQueue, s.store.inFlight.filterMap InFlight.held)

theorem SignalForm.of_signals (h : SignalForm s) (hsame : t.signals = s.signals) : SignalForm t := by
  simp only [State.signals, Prod.mk.injEq] at hsame
  obtain ⟨⟨hvs, hvn⟩, ⟨has, han⟩, hf⟩ := hsame
  simpa only [signalForm_iff, PortForm, hvs, hvn, has, han, hf] using h

theorem State.occupiedSlots_of_signals (hsame : t.signals = s.signals) : t.occupiedSlots = s.occupiedSlots := by
  simp only [State.signals, Prod.mk.injEq] at hsame
  obtain ⟨⟨hvs, -⟩, ⟨has, -⟩, -⟩ := hsame
  rw [State.occupiedSlots, State.occupiedSlots, hvs, has]

theorem State.waitingSlots_of_requests (hf : t.flags = s.flags) (hsame : t.requests = s.requests) :
    t.waitingSlots = s.waitingSlots := by
  simp only [State.requests, Prod.mk.injEq] at hsame
  obtain ⟨hk, ha, hv, he⟩ := hsame
  rw [State.waitingSlots, State.waitingSlots, State.requestSlots, State.requestSlots, hf, hk, ha, hv, he]

/-- Requests pass between the blocks and the act's answers; the ports and flags stay as they are. -/
theorem PortsInForm.rebook (h : PortsInForm slotted answering s) (hsame : t.signals = s.signals)
    (hbook : slotted → (answering ++ s.waitingSlots).Perm (answering' ++ t.waitingSlots)) : PortsInForm slotted answering' t :=
  ⟨h.1.of_signals hsame, fun hb => State.occupiedSlots_of_signals hsame ▸ (h.2 hb).trans (hbook hb)⟩

theorem PortsKept.of_same (hsignals : t.signals = s.signals) (hrequests : t.requests = s.requests) : PortsKept s t := by
  intro slotted answering h
  have hflags : t.flags = s.flags := congrArg (fun x => x.2.2) hsignals
  exact h.rebook hsignals fun _ => by rw [State.waitingSlots_of_requests hflags hrequests]

/-! ## Ports -/

theorem SignalForm.mapPort {f : PortState → PortState} (h : SignalForm s) (hf : PortForm (s.port p) → PortForm (f (s.port p))) :
    SignalForm (s.mapPort p f) := by
  rw [signalForm_iff] at h ⊢
  obtain ⟨⟨hv, ha⟩, hflags⟩ := h
  cases p with
  | viewer => exact ⟨⟨hf hv, ha⟩, hflags⟩
  | archive => exact ⟨⟨hv, hf ha⟩, hflags⟩

theorem SignalForm.port (h : SignalForm s) (p : Port) : PortForm (s.port p) := by
  rw [signalForm_iff] at h
  cases p with
  | viewer => exact h.1.1
  | archive => exact h.1.2

theorem SignalForm.flag (h : SignalForm s) (i : Fin 8) : FlagForm s.flags[i] :=
  (signalForm_iff.mp h).2 i

theorem SignalForm.slotKeys_nodup (h : SignalForm s) : (s.occupiedSlots.map slotKey).Nodup := by
  have keysAt : ∀ (p : Port) (l : List Slot), (l.map Slot.tag).Nodup → (l.map fun x => (p, x.tag)).Nodup := fun p l hl => by
    have := hl.map (f := Prod.mk p) fun _ _ heq => (Prod.mk.injEq _ _ _ _ ▸ heq).2
    rwa [List.map_map] at this
  have hv := keysAt .viewer _ (h.port .viewer).2.1
  have ha := keysAt .archive _ (h.port .archive).2.1
  rw [State.occupiedSlots, List.map_append, List.map_map, List.map_map]
  refine List.nodup_append.mpr ⟨hv, ha, fun x hx y hy heq => ?_⟩
  obtain ⟨a, -, rfl⟩ := List.mem_map.mp hx
  obtain ⟨b, -, rfl⟩ := List.mem_map.mp hy
  exact (nomatch (congrArg Prod.fst heq : Port.viewer = Port.archive))

/-- A port's Notice Unit with its line brought up to date. -/
theorem State.mapNotices_portsKept (s : State) (p : Port) (f : NoticeUnit → NoticeUnit) : PortsKept s (s.mapNotices p f) := by
  intro slotted answering h
  refine ⟨h.1.mapPort fun ⟨hlen, htags, _⟩ => ⟨hlen, htags, by simp [NoticeUnit.drive]⟩, fun hb => ?_⟩
  cases p with
  | viewer => exact h.2 hb
  | archive => exact h.2 hb

theorem State.raiseNotice_portsKept (s : State) (k : NoticeKind) : PortsKept s (s.raiseNotice k) :=
  (State.mapNotices_portsKept s _ _).trans (State.mapNotices_portsKept _ _ _)

theorem State.occupiedSlots_freeSlot (s : State) (p : Port) (tag : Byte) :
    (s.freeSlot p tag).occupiedSlots = s.occupiedSlots.filter fun y => decide (slotKey y ≠ (p, tag)) := by
  cases p <;> simp [State.freeSlot, State.mapPort, State.occupiedSlots, List.filter_map, Function.comp_def, slotKey]

/-- A request is answered: its slot is free, and no other (R196, R197). -/
theorem PortsInForm.answerWith {x : Slot} (h : PortsInForm slotted ((p, x) :: answering) s) (kind : RequestKind) (status : Status)
    (result : Result) (data : List Byte) :
    PortsInForm slotted answering (s.answerWith p x.tag kind status result data) := by
  refine ⟨?_, fun hb => ?_⟩
  · have hfree : SignalForm (s.freeSlot p x.tag) := h.1.mapPort fun ⟨hlen, htags, hline⟩ =>
      ⟨(List.length_filter_le _ _).trans hlen, htags.sublist (List.filter_sublist.map _), hline⟩
    exact hfree
  · have hkept := perm_filter_key (h.2 hb) h.1.slotKeys_nodup
    have hfreed := State.occupiedSlots_freeSlot s p x.tag
    have hwaiting : (s.answerWith p x.tag kind status result data).waitingSlots = s.waitingSlots := by cases p <;> rfl
    rw [hwaiting]
    exact (hfreed ▸ hkept : (s.freeSlot p x.tag).occupiedSlots.Perm _)

/-- The answer of the one request of the act. -/
theorem PortsInForm.answer {x : Slot} (h : PortsInForm slotted ((p, x) :: answering) s) (kind : RequestKind) (status : Status)
    (result : Result) : PortsInForm slotted answering (s.answer p x.tag kind status result) :=
  h.answerWith kind status result []

theorem State.occupiedSlots_setProgress (s : State) (p : Port) (tag : Byte) (progress : Progress) :
    (s.setProgress p tag progress).occupiedSlots
      = s.occupiedSlots.map fun y => if slotKey y = (p, tag) then (y.1, { y.2 with progress := progress }) else y := by
  cases p <;> simp [State.setProgress, State.mapPort, State.occupiedSlots, slotKey, Function.comp_def] <;>
    exact fun a _ => by split <;> rfl

/-- A request's progress is recorded in its slot (R196). -/
theorem PortsInForm.setProgress {x : Slot} (h : PortsInForm slotted ((p, x) :: answering) s) (progress : Progress) :
    PortsInForm slotted ((p, { x with progress := progress }) :: answering) (s.setProgress p x.tag progress) := by
  refine ⟨h.1.mapPort fun ⟨hlen, htags, hline⟩ => ⟨by simpa using hlen, ?_, hline⟩, fun hb => ?_⟩
  · have hsame : (fun y : Slot => (if y.tag = x.tag then { y with progress := progress } else y).tag) = Slot.tag := by
      funext y
      split <;> rfl
    simpa [List.map_map, Function.comp_def, hsame] using htags
  · have hkeys := ((h.2 hb).map slotKey).nodup_iff.mp h.1.slotKeys_nodup
    simp only [List.cons_append, List.map_cons, List.nodup_cons] at hkeys
    have hwaiting : (s.setProgress p x.tag progress).waitingSlots = s.waitingSlots := by cases p <;> rfl
    have hother : ∀ y ∈ answering ++ s.waitingSlots,
        (if slotKey y = (p, x.tag) then (y.1, { y.2 with progress := progress }) else y) = y := fun y hy =>
      if_neg fun heq => hkeys.1 (List.mem_map.mpr ⟨y, hy, heq⟩)
    have hperm := (h.2 hb).map fun y => if slotKey y = (p, x.tag) then (y.1, { y.2 with progress := progress }) else y
    rw [List.cons_append, List.map_cons, List.map_congr_left hother, List.map_id', ← State.occupiedSlots_setProgress] at hperm
    rw [hwaiting]
    simpa [slotKey] using hperm

/-- A slot is taken for a request of a tag no slot holds (R195, R196). -/
theorem PortsInForm.occupy (h : PortsInForm slotted answering s) (kind : RequestKind) (hfree : (s.port p).slots.length < 16)
    (htag : ∀ x ∈ (s.port p).slots, x.tag ≠ tag) :
    PortsInForm slotted ((p, { tag := tag, kind := kind, progress := .answering }) :: answering) (s.occupy p tag kind) := by
  refine ⟨h.1.mapPort fun ⟨_, htags, hline⟩ => ⟨?_, ?_, hline⟩, fun hb => ?_⟩
  · simpa using hfree
  · rw [List.map_append, List.nodup_append]
    refine ⟨htags, by simp, fun a ha b hb => ?_⟩
    obtain ⟨x, hx, rfl⟩ := List.mem_map.mp ha
    simpa [List.mem_singleton.mp hb] using htag x hx
  · have hwaiting : (s.occupy p tag kind).waitingSlots = s.waitingSlots := by cases p <;> rfl
    rw [hwaiting]
    refine List.Perm.trans ?_ ((h.2 hb).cons _)
    cases p with
    | viewer => simp [State.occupiedSlots, State.occupy, State.mapPort]
    | archive =>
      simpa [State.occupiedSlots, State.occupy, State.mapPort]
        using (List.perm_append_singleton (Port.archive, _) (s.occupiedSlots))

/-! ## Flags -/

/-- A flag is replaced, and the requests of its waits with it. -/
theorem PortsInForm.putFlag {f : SyncFlag} (h : PortsInForm slotted answering s) (hf : FlagForm f)
    (hbook : slotted → (answering ++ s.flags[i].waits.map ParkedWait.held).Perm (answering' ++ f.waits.map ParkedWait.held)) :
    PortsInForm slotted answering' (s.putFlag i f) := by
  refine ⟨?_, fun hb => ?_⟩
  · have hs := h.1
    rw [signalForm_iff] at hs ⊢
    refine ⟨hs.1, fun j => ?_⟩
    by_cases hij : i = j
    · subst hij
      simpa [State.putFlag] using hf
    · have hval : i.val ≠ j.val := fun heq => hij (Fin.ext heq)
      simpa [State.putFlag, Vector.getElem_set_ne, hval] using hs.2 j
  · obtain ⟨rest, hall, hset⟩ := flagSlots_split s.flags i
    calc (s.putFlag i f).occupiedSlots
      _ = s.occupiedSlots := rfl
      List.Perm _ (answering ++ (flagSlots s.flags ++ s.requestSlots)) := h.2 hb
      List.Perm _ (answering ++ ((s.flags[i].waits.map ParkedWait.held ++ rest) ++ s.requestSlots)) :=
        (hall.append_right _).append_left _
      _ = (answering ++ s.flags[i].waits.map ParkedWait.held) ++ (rest ++ s.requestSlots) := by simp
      List.Perm _ ((answering' ++ f.waits.map ParkedWait.held) ++ (rest ++ s.requestSlots)) := (hbook hb).append_right _
      _ = answering' ++ ((f.waits.map ParkedWait.held ++ rest) ++ s.requestSlots) := by simp
      List.Perm _ (answering' ++ (flagSlots (s.flags.set i f) ++ s.requestSlots)) :=
        (((hset f).symm).append_right _).append_left _

end Sys2Proof.Machine

/-!
The ports stay in form through the shared acts: events and the waits they serve, parked takes, the band, sealing, closing, stopping and the power of
the bank groups. A part of the state that holds no request and no signal changes them nothing (`PortsKept.of_same`).
-/
namespace Sys2Proof.Machine

variable {s t : State} {slotted : Prop} {answering : List (Port × Slot)} {p : Port} {i : Fin 8}

/-! ## Parts of the state without signals or requests -/

theorem State.mapControl_portsKept (s : State) (f : Control → Control) : PortsKept s (s.mapControl f) :=
  .of_same rfl rfl

theorem State.mapAssembler_portsKept (s : State) (f : Assembler → Assembler) : PortsKept s (s.mapAssembler f) :=
  .of_same rfl rfl

theorem State.mapLink_portsKept (s : State) (f : Link → Link) : PortsKept s (s.mapLink f) :=
  .of_same rfl rfl

theorem State.count_portsKept (s : State) (f : StreamCounts → StreamCounts) : PortsKept s (s.count f) :=
  .of_same rfl rfl

theorem State.mapRing_portsKept (s : State) (f : Ring → Ring) : PortsKept s (s.mapRing f) :=
  .of_same rfl rfl

theorem State.mapBlock_portsKept (s : State) (lbn : Nat) (f : Block → Block) : PortsKept s (s.mapBlock lbn f) :=
  .of_same rfl rfl

theorem State.mapOpen_portsKept (s : State) (f : Entry → Entry) : PortsKept s (s.mapOpen f) :=
  .of_same rfl rfl

theorem State.mapEntry_portsKept (s : State) (number : Nat) (f : Entry → Entry) : PortsKept s (s.mapEntry number f) :=
  .of_same rfl rfl

theorem State.retire_portsKept (s : State) : PortsKept s s.retire :=
  .of_same rfl rfl

theorem State.putContext_portsKept (s : State) (ctx : Fin 4) (w : Option Window) : PortsKept s (s.putContext ctx w) :=
  .of_same rfl rfl

theorem State.putPin_portsKept (s : State) (id : Fin 8) (r : Option PinRange) : PortsKept s (s.putPin id r) :=
  .of_same rfl rfl

theorem State.putGroup_portsKept (s : State) (g : Fin 16) (r : Group) : PortsKept s (s.putGroup g r) :=
  .of_same rfl rfl

theorem State.loseContents_portsKept (s : State) (g : Fin 16) : PortsKept s (s.loseContents g) :=
  .of_same rfl rfl

theorem State.present_portsKept (s : State) : PortsKept s s.present :=
  .of_same rfl rfl

theorem State.updatePause_portsKept (s : State) : PortsKept s s.updatePause :=
  .of_same rfl rfl

/-! ## Events (R184, R188, R191) -/

/-- Serving parts the waits in order: those completed, and those that stay parked. -/
theorem serveWaits_append (waits : List ParkedWait) : (serveWaits waits).served.map Prod.fst ++ (serveWaits waits).kept = waits := by
  induction waits with
  | nil => rfl
  | cons w rest ih =>
    cases hmode : w.mode with
    | consume => simp [serveWaits, hmode]
    | peek => simpa [serveWaits, hmode] using ih

/-- A flag stays Set only when no wait stays parked. -/
theorem serveWaits_kept_nil {waits : List ParkedWait} (hset : (serveWaits waits).value = true) : (serveWaits waits).kept = [] := by
  induction waits with
  | nil => rfl
  | cons w rest ih =>
    cases hmode : w.mode with
    | consume => simp [serveWaits, hmode] at hset
    | peek =>
      simp only [serveWaits, hmode] at hset ⊢
      exact ih hset

theorem PortsInForm.completeWait {done : ParkedWait × Bool} (h : PortsInForm slotted (done.1.held :: answering) s) (i : Fin 8) :
    PortsInForm slotted answering (s.completeWait i done) :=
  PortsInForm.answer (x := slotOf done.1.tag .wait .parked) h _ _ _

theorem PortsInForm.completeWaits (i : Fin 8) (served : List (ParkedWait × Bool))
    (h : PortsInForm slotted (served.map (fun d => d.1.held) ++ answering) s) :
    PortsInForm slotted answering (served.foldl (fun s done => s.completeWait i done) s) := by
  induction served generalizing s with
  | nil => exact h
  | cons done served ih => exact ih (PortsInForm.completeWait h i)

theorem State.setFlag_portsKept (s : State) (i : Fin 8) : PortsKept s (s.setFlag i) := by
  intro slotted answering h
  unfold State.setFlag
  split
  · exact h
  · obtain ⟨hfew, -⟩ := h.1.flag i
    have hparts := serveWaits_append s.flags[i].waits
    refine PortsInForm.completeWaits i _ (h.putFlag ⟨?_, serveWaits_kept_nil⟩ fun _ => ?_)
    · have hlen := congrArg List.length hparts
      rw [List.length_append] at hlen
      exact (Nat.le_of_add_left_le hlen.le).trans hfew
    · have hheld : s.flags[i].waits.map ParkedWait.held
          = (serveWaits s.flags[i].waits).served.map (fun d => d.1.held)
            ++ (serveWaits s.flags[i].waits).kept.map ParkedWait.held := by
        conv_lhs => rw [← hparts]
        simp [Function.comp_def]
      rw [hheld, List.append_assoc]
      exact List.perm_append_comm_assoc _ _ _

theorem State.raise_portsKept (s : State) (e : Event) : PortsKept s (s.raise e) := by
  refine (State.raiseNotice_portsKept s _).trans (PortsKept.foldl (fun s i => ?_) _ _)
  split
  · exact State.setFlag_portsKept s i
  · exact .refl s

/-! ## The band (R25, R27, R40) -/

theorem State.setBand_portsKept (s : State) (band : Band) : PortsKept s (s.setBand band) := by
  unfold State.setBand
  split
  · exact .refl s
  · exact (State.mapRing_portsKept s _).trans ((State.raise_portsKept _ _).trans (State.updatePause_portsKept _))

theorem State.reband_portsKept (s : State) : PortsKept s s.reband :=
  State.setBand_portsKept s _

theorem State.rebandFresh_portsKept (s : State) : PortsKept s s.rebandFresh :=
  State.setBand_portsKept s _

theorem State.activate_portsKept (s : State) : PortsKept s s.activate :=
  (State.mapControl_portsKept s _).trans ((State.rebandFresh_portsKept _).trans (State.updatePause_portsKept _))

/-! ## Parked takes (R117 to R120) -/

/-- The parked takes are told apart by their tags. -/
theorem PortsInForm.parkedTakes_nodup (h : PortsInForm slotted answering s) (hb : slotted) : s.drain.parkedTakes.Nodup := by
  have hkeys := ((h.2 hb).map slotKey).nodup_iff.mp h.1.slotKeys_nodup
  have hsub : (s.drain.parkedTakes.map ParkedTake.held).Sublist (answering ++ s.waitingSlots) := by
    simp only [State.waitingSlots, State.requestSlots, List.append_assoc]
    exact ((List.sublist_append_left _ _).trans (List.sublist_append_right _ _)).trans (List.sublist_append_right _ _)
  have htakes := hkeys.sublist (hsub.map slotKey)
  rw [List.map_map] at htakes
  exact htakes.of_map _

/-- A parked take leaves the arrival order for its answer. -/
theorem PortsInForm.unpark {k : ParkedTake} (h : PortsInForm slotted answering s) (hk : slotted → k ∈ s.drain.parkedTakes) :
    PortsInForm slotted (k.held :: answering) (s.unpark k) := by
  refine h.rebook rfl fun hb => ?_
  have hperm := (perm_cons_filter_ne (h.parkedTakes_nodup hb) (hk hb)).map ParkedTake.held
  have hwaiting : s.waitingSlots.Perm (k.held :: (s.unpark k).waitingSlots) := by
    simp only [State.waitingSlots, State.requestSlots, List.append_assoc]
    exact ((hperm.append_right _).append_left _).trans List.perm_middle
  exact (hwaiting.append_left _).trans List.perm_middle

theorem PortsInForm.answerTake {k : ParkedTake} (h : PortsInForm slotted (k.held :: answering) s) (status : Status) (result : Result) :
    PortsInForm slotted answering (s.answer .archive k.tag .take status result) :=
  PortsInForm.answer (x := slotOf k.tag .take .parked) h _ _ _

theorem PortsInForm.endTake {k : ParkedTake} (h : PortsInForm slotted answering s) (hk : slotted → k ∈ s.drain.parkedTakes)
    (status : Status) : PortsInForm slotted answering ((s.unpark k).refuse .archive k.tag .take status) :=
  (h.unpark hk).answerTake status .none

theorem State.offer_portsKept (s : State) (lbn : Nat) : PortsKept s (s.offer lbn) := by
  unfold State.offer
  split
  next k b hk _ =>
    intro slotted answering h
    have hfree := h.unpark fun _ => List.mem_of_find?_eq_some hk
    exact (State.mapBlock_portsKept _ _ _ hfree).answerTake _ _
  next => exact .refl s

/-- Parked takes that end in one act, in arrival order: each is still parked when it ends, as no two are the same. -/
theorem PortsInForm.endTakes (status : Status) {takes : List ParkedTake} (h : PortsInForm slotted answering s)
    (hsub : slotted → takes.Sublist s.drain.parkedTakes) :
    PortsInForm slotted answering (takes.foldl (fun s k => (s.unpark k).refuse .archive k.tag .take status) s) := by
  induction takes generalizing s with
  | nil => exact h
  | cons k takes ih =>
    refine ih (h.endTake (fun hb => (hsub hb).subset List.mem_cons_self) status) fun hb => ?_
    have hlater := (hsub hb).nodup (h.parkedTakes_nodup hb)
    rw [List.nodup_cons] at hlater
    have hothers : takes.filter (fun x => decide (x ≠ k)) = takes :=
      List.filter_eq_self.mpr fun x hx => decide_eq_true fun heq => hlater.1 (heq ▸ hx)
    have hkept := ((List.sublist_cons_self k takes).trans (hsub hb)).filter fun x => decide (x ≠ k)
    rwa [hothers] at hkept

theorem State.endDoneTakes_portsKept (s : State) : PortsKept s s.endDoneTakes :=
  fun _ _ h => h.endTakes .windowDone fun _ => List.filter_sublist

theorem State.endParkedTakes_portsKept (s : State) : PortsKept s s.endParkedTakes :=
  fun _ _ h => h.endTakes .empty fun _ => .refl _

/-! ## Bringing the ring up to date (R13, R14, R25, R109, R119) -/

theorem State.testArchiveMark_portsKept (s : State) : PortsKept s s.testArchiveMark := by
  unfold State.testArchiveMark
  split
  · split
    · exact (State.mapControl_portsKept s _).trans (State.raise_portsKept _ _)
    · exact .refl s
  · exact .refl s

theorem State.settleRing_portsKept (s : State) (before : Nat) : PortsKept s (s.settleRing before) := by
  have hband := State.reband_portsKept s
  unfold State.settleRing
  generalize s.reband = t at hband ⊢
  simp only
  split
  · exact hband
  · exact hband.trans ((State.testArchiveMark_portsKept t).trans (State.endDoneTakes_portsKept _))

theorem State.leavingReport_portsKept (s : State) (b : Block) (evicted : Bool) : PortsKept s (s.leavingReport b evicted) :=
  .of_same rfl rfl

theorem State.recycleTail_portsKept (s : State) (b : Block) : PortsKept s (s.recycleTail b) :=
  (State.mapRing_portsKept s _).trans (State.leavingReport_portsKept _ b false)

theorem State.evictTail_portsKept (s : State) (b : Block) : PortsKept s (s.evictTail b) :=
  (State.mapRing_portsKept s _).trans <| (State.leavingReport_portsKept _ b true).trans <|
    (State.count_portsKept _ _).trans (State.raiseNotice_portsKept _ _)

/-! ## Sealing, closing and stopping -/

theorem State.sealFilling_portsKept (s : State) : PortsKept s s.sealFilling := by
  unfold State.sealFilling
  split
  next => exact .refl s
  next b _ =>
    have hsealed := (State.mapBlock_portsKept s b.lbn fun b => { b with state := .sealed }).trans <|
      (State.count_portsKept _ fun c => { c with blocksSealed := c.blocksSealed + 1 }).trans (State.raise_portsKept _ .blockSealed)
    simp only
    split
    · exact hsealed.trans (State.offer_portsKept _ _)
    · exact hsealed

theorem State.recordGap_portsKept (s : State) (lost : Nat) (cause : GapCause) (mixed : Bool) :
    PortsKept s (s.recordGap lost cause mixed) := by
  unfold State.recordGap
  split
  · exact .refl s
  · exact (State.mapOpen_portsKept s _).trans (State.mapAssembler_portsKept _ _)

theorem State.recordLoss_portsKept (s : State) (loss : Option LossRecord) (stamp : Option Tick) :
    PortsKept s (s.recordLoss loss stamp) := by
  unfold State.recordLoss
  split
  · exact (State.mapOpen_portsKept s _).trans (State.recordGap_portsKept _ _ _ _)
  · exact .refl s

theorem State.discardIntake_portsKept (s : State) : PortsKept s s.discardIntake :=
  .of_same rfl rfl

theorem State.enterStopped_portsKept (s : State) (reason : StopReason) : PortsKept s (s.enterStopped reason) := by
  have hdiscard := (State.discardIntake_portsKept s).trans <|
    (State.mapAssembler_portsKept _ fun a => { a with continuation := none }).trans <|
      (State.mapControl_portsKept _ fun c =>
        { c with capture := .stopped, stopReason := reason, stoppingReason := none, orderlyHalt := false }).trans
        (State.mapLink_portsKept _ fun l => { l with captureEnable := false })
  have hend : ∀ t : State, PortsKept t (t.raise .captureStopped).endParkedTakes := fun t =>
    (State.raise_portsKept t _).trans (State.endParkedTakes_portsKept _)
  unfold State.enterStopped
  simp only
  split
  · exact hdiscard.trans ((State.activate_portsKept _).trans (hend _))
  · exact hdiscard.trans (hend _)

theorem State.closeSegment_portsKept (s : State) (reason : CloseReason) : PortsKept s (s.closeSegment reason) := by
  unfold State.closeSegment
  split
  · exact .refl s
  · exact (State.sealFilling_portsKept s).trans <| (State.mapOpen_portsKept _ _).trans <| (State.retire_portsKept _).trans <|
      (State.raise_portsKept _ _).trans (State.mapAssembler_portsKept _ _)

theorem State.closeInCourse_portsKept (s : State) (reason : CloseReason) : PortsKept s (s.closeInCourse reason) := by
  have hclose := State.closeSegment_portsKept s reason
  unfold State.closeInCourse
  split
  · exact .refl s
  · generalize s.closeSegment reason = t at hclose ⊢
    simp only
    split
    · exact hclose.trans (State.enterStopped_portsKept t _)
    · exact hclose

theorem State.stopAtOnce_portsKept (s : State) (close : CloseReason) (reason : StopReason) : PortsKept s (s.stopAtOnce close reason) :=
  (State.discardIntake_portsKept s).trans <| (State.closeSegment_portsKept _ _).trans (State.enterStopped_portsKept _ _)

theorem State.stopAtEnd_portsKept (s : State) : PortsKept s s.stopAtEnd := by
  unfold State.stopAtEnd
  split
  · split
    · exact State.mapControl_portsKept s _
    · exact State.enterStopped_portsKept s _
  · exact .refl s

theorem State.testHeadMark_portsKept (s : State) : PortsKept s s.testHeadMark := by
  unfold State.testHeadMark
  split
  next => exact .refl s
  next m _ =>
    have hfired := (State.mapControl_portsKept s fun c => { c with headMark := none }).trans (State.raise_portsKept _ .headMark)
    generalize (s.mapControl fun c => { c with headMark := none }).raise .headMark = t at hfired ⊢
    simp only
    split
    · split
      · split
        · exact hfired.trans (State.mapControl_portsKept t _)
        · exact hfired.trans (State.enterStopped_portsKept t _)
      · exact hfired
    · exact .refl s

/-! ## The power of the bank groups (R166 to R172) -/

theorem State.settleGroup_portsKept (s : State) (g : Fin 16) (start target : GroupPower) : PortsKept s (s.settleGroup g start target) := by
  have hput := State.putGroup_portsKept s g { s.power.groups[g] with state := .settled target }
  have hsettled : ∀ t : State, PortsKept t (if t.anyChanging then t else t.raise .groupsSettled) := fun t => by
    split
    · exact .refl t
    · exact State.raise_portsKept t _
  unfold State.settleGroup
  simp only
  split
  · exact hput.trans ((State.loseContents_portsKept _ g).trans (hsettled _))
  · exact hput.trans (hsettled _)

theorem State.endDraining_portsKept (s : State) (g : Fin 16) : PortsKept s (s.endDraining g) := by
  unfold State.endDraining
  split
  · split
    · exact State.settleGroup_portsKept s g _ _
    · exact State.putGroup_portsKept s g _
    · exact State.putGroup_portsKept s g _
  · exact .refl s
  · exact .refl s

theorem State.checkDrain_portsKept (s : State) (g : Fin 16) : PortsKept s (s.checkDrain g) := by
  unfold State.checkDrain
  split
  · exact State.endDraining_portsKept s g
  · exact .refl s

theorem State.applyChanges_portsKept (s : State) : PortsKept s s.applyChanges := by
  have hbegin : ∀ (s : State) (g : Fin 16), PortsKept s (s.beginChange g) := fun s g => by
    unfold State.beginChange
    split
    · exact State.putGroup_portsKept s g _
    · exact .refl s
  have hend : ∀ (s : State) (g : Fin 16), PortsKept s (s.endFirstPhase g) := fun s g => by
    unfold State.endFirstPhase
    split
    · exact State.endDraining_portsKept s g
    · exact State.checkDrain_portsKept s g
  exact (PortsKept.foldl hbegin _ s).trans (PortsKept.foldl hend _ _)

end Sys2Proof.Machine

/-!
The ports stay in form through the working of the front item: placing a payload, dropping a frame, and opening a block or a segment.
-/
namespace Sys2Proof.Machine

variable {s t : State}

/-! ## Placing a payload (R8, R9, R49) -/

/-- An admission write is no request. -/
theorem State.issueWrite_portsKept (s : State) (lbn offset : Nat) (payload : List Byte) : PortsKept s (s.issueWrite lbn offset payload) :=
  .of_same rfl (by simp [State.requests, State.issueWrite, State.mapStore, InFlight.held])

theorem State.countPlaced_portsKept (s : State) (f : Frame) : PortsKept s (s.countPlaced f) :=
  .of_same rfl rfl

theorem State.appendPayload_portsKept (s : State) (b : Block) (f : Frame) : PortsKept s (s.appendPayload b f) :=
  (State.mapBlock_portsKept s _ _).trans (State.issueWrite_portsKept _ _ _ _)

theorem State.openBlock_portsKept (s : State) (segment : Nat) (archiveRequired : Bool) (f : Frame) :
    PortsKept s (s.openBlock segment archiveRequired f) :=
  (State.mapRing_portsKept s _).trans (State.issueWrite_portsKept _ _ _ _)

theorem State.recordTrigger_portsKept (s : State) (f : Frame) : PortsKept s (s.recordTrigger f) := by
  unfold State.recordTrigger
  split
  · exact State.mapOpen_portsKept s _
  · exact .refl s

theorem State.spendFrame_portsKept (s : State) (f : Frame) : PortsKept s (s.spendFrame f) :=
  .of_same rfl rfl

theorem State.sealFull_portsKept (s : State) : PortsKept s s.sealFull := by
  unfold State.sealFull
  split
  · split
    · exact State.sealFilling_portsKept s
    · exact .refl s
  · exact .refl s

theorem State.endFrame_portsKept (s : State) (f : Frame) : PortsKept s (s.endFrame f) := by
  unfold State.endFrame
  split
  · exact State.closeInCourse_portsKept s _
  · split
    · exact State.closeInCourse_portsKept s _
    · exact .refl s

theorem State.afterPlaced_portsKept (s : State) (f : Frame) : PortsKept s (s.afterPlaced f) :=
  (State.recordTrigger_portsKept s f).trans <| (State.spendFrame_portsKept _ f).trans <| (State.sealFull_portsKept _).trans
    (State.endFrame_portsKept _ f)

theorem State.finishOpening_portsKept (s : State) (before : Nat) (f : Frame) : PortsKept s (s.finishOpening before f) :=
  (State.countPlaced_portsKept s f).trans <| (State.settleRing_portsKept _ before).trans <| (State.testHeadMark_portsKept _).trans
    (State.afterPlaced_portsKept _ f)

/-! ## Drops (R4, R19 to R23, R55, R86) -/

theorem State.dropFront_portsKept (s : State) : PortsKept s s.dropFront :=
  .of_same rfl rfl

theorem State.dropContinuation_portsKept (s : State) : PortsKept s s.dropContinuation :=
  .of_same rfl rfl

theorem State.exhaustLbn_portsKept (s : State) : PortsKept s s.exhaustLbn :=
  (State.dropFront_portsKept s).trans <| (State.raiseNotice_portsKept _ _).trans <| (State.closeSegment_portsKept _ _).trans
    (State.enterStopped_portsKept _ _)

theorem State.overrun_portsKept (s : State) (f : Frame) : PortsKept s (s.overrun f) := by
  have hdrop := (State.dropFront_portsKept s).trans (State.raiseNotice_portsKept _ .overrunLoss)
  have hend : ∀ t : State,
      PortsKept t (if t.control.active.overrunPolicy = .stop then (t.closeSegment .overrun).enterStopped .overrun else t) := fun t => by
    split
    · exact (State.closeSegment_portsKept t _).trans (State.enterStopped_portsKept _ _)
    · exact .refl t
  unfold State.overrun
  generalize s.dropFront.raiseNotice .overrunLoss = t at hdrop ⊢
  simp only
  split
  · exact hdrop.trans ((State.recordGap_portsKept t _ _ _).trans (hend _))
  · exact hdrop.trans ((State.dropContinuation_portsKept t).trans (hend _))

theorem State.indexFull_portsKept (s : State) : PortsKept s s.indexFull := by
  have hdrop := (State.dropFront_portsKept s).trans <| (State.raiseNotice_portsKept _ .indexFull).trans
    (State.dropContinuation_portsKept _)
  unfold State.indexFull
  generalize (s.dropFront.raiseNotice .indexFull).dropContinuation = t at hdrop ⊢
  simp only
  split
  · exact hdrop.trans (State.enterStopped_portsKept t _)
  · exact hdrop

theorem State.waitAtFront_portsKept (s : State) (stage : Stage) : PortsKept s (s.waitAtFront stage) :=
  .of_same rfl rfl

/-! ## The Ring Manager's answer and room in the index (R15 to R17, R85) -/

theorem State.requestBlock_portsKept (h : s.requestBlock = .granted t) : PortsKept s t := by
  unfold State.requestBlock at h
  split at h
  · cases h
  split at h
  · cases h
    exact .refl s
  split at h
  · cases h
  next b _ =>
    split at h
    · cases h
      exact State.recycleTail_portsKept s b
    · cases h
      exact State.evictTail_portsKept s b
    · cases h
    · cases h

theorem State.makeRoom_portsKept (s : State) (fuel : Nat) : PortsKept s (s.makeRoom fuel).state := by
  induction fuel generalizing s with
  | zero =>
    unfold State.makeRoom
    split <;> exact .refl s
  | succ fuel ih =>
    unfold State.makeRoom
    split
    · exact .refl s
    split
    · exact .refl s
    next b _ =>
      split
      · exact (State.recycleTail_portsKept s b).trans (ih _)
      · exact (State.evictTail_portsKept s b).trans (ih _)
      · exact .refl s
      · exact .refl s

/-! ## Opening a segment or a block (R50, R54 to R57) -/

theorem State.openSegment_portsKept (s : State) (f : Frame) (loss : Option LossRecord) : PortsKept s (s.openSegment f loss) :=
  (State.openBlock_portsKept s _ _ f).trans (.of_same rfl rfl)

theorem State.openWithBlock_portsKept (s : State) (before : Nat) (f : Frame) (loss : Option LossRecord) :
    PortsKept s (s.openWithBlock before f loss) := by
  have hsettle := State.settleRing_portsKept s before
  unfold State.openWithBlock
  split
  next u granted =>
    exact (State.requestBlock_portsKept granted).trans <| (State.openSegment_portsKept u f loss).trans
      (State.finishOpening_portsKept _ before f)
  · exact hsettle.trans ((State.dropContinuation_portsKept _).trans (State.exhaustLbn_portsKept _))
  · exact hsettle.trans (State.waitAtFront_portsKept _ _)
  · exact hsettle.trans (State.overrun_portsKept _ f)

theorem State.openWithRoom_portsKept (s : State) (before : Nat) (f : Frame) (loss : Option LossRecord) :
    PortsKept s (s.openWithRoom before f loss) := by
  have hroom := State.makeRoom_portsKept s s.ring.blocks.length
  unfold State.openWithRoom
  generalize s.makeRoom s.ring.blocks.length = answer at hroom ⊢
  cases answer with
  | made u => exact hroom.trans (State.openWithBlock_portsKept u before f loss)
  | readBound u => exact hroom.trans ((State.settleRing_portsKept u before).trans (State.waitAtFront_portsKept _ _))
  | held u => exact hroom.trans ((State.settleRing_portsKept u before).trans (State.indexFull_portsKept _))

theorem State.beginSegment_portsKept (s : State) (before : Nat) (f : Frame) (loss : Option LossRecord) :
    PortsKept s (s.beginSegment before f loss) := by
  have hbegun : ∀ t : State, PortsKept t
      (if lastSegment ≤ t.assembler.nextSegment then
        ((t.dropFront.raiseNotice .overrunLoss).dropContinuation).enterStopped .segmentNumberExhausted
      else t.openWithRoom before f loss) := fun t => by
    split
    · exact (State.dropFront_portsKept t).trans <| (State.raiseNotice_portsKept _ _).trans <| (State.dropContinuation_portsKept _).trans
        (State.enterStopped_portsKept _ _)
    · exact State.openWithRoom_portsKept t before f loss
  unfold State.beginSegment
  simp only
  split
  · exact (State.activate_portsKept s).trans ((State.mapAssembler_portsKept _ _).trans (hbegun _))
  · exact hbegun s

theorem State.nextBlock_portsKept (s : State) (before : Nat) (e : Entry) (f : Frame) : PortsKept s (s.nextBlock before e f) := by
  unfold State.nextBlock
  split
  next u granted =>
    exact (State.requestBlock_portsKept granted).trans <| (State.openBlock_portsKept u _ _ f).trans <| (State.mapOpen_portsKept _ _).trans
      (State.finishOpening_portsKept _ before f)
  · exact State.exhaustLbn_portsKept s
  · exact State.waitAtFront_portsKept s _
  · exact State.overrun_portsKept s f

/-! ## Working a frame (R48 to R50) -/

theorem State.placeInSegment_portsKept (s : State) (before : Nat) (e : Entry) (f : Frame) :
    PortsKept s (s.placeInSegment before e f) := by
  unfold State.placeInSegment
  split
  next b _ =>
    split
    · exact (State.appendPayload_portsKept s b f).trans ((State.countPlaced_portsKept _ f).trans (State.afterPlaced_portsKept _ f))
    · exact (State.sealFilling_portsKept s).trans (State.nextBlock_portsKept _ before e f)
  next => exact State.nextBlock_portsKept s before e f

theorem State.placeFrame_portsKept (s : State) (before : Nat) (f : Frame) (loss : Option LossRecord) :
    PortsKept s (s.placeFrame before f loss) := by
  unfold State.placeFrame
  split
  · exact State.placeInSegment_portsKept s before _ f
  · exact State.beginSegment_portsKept s before f loss

theorem State.workFrame_portsKept (s : State) (f : Frame) (loss : Option LossRecord) : PortsKept s (s.workFrame f loss) := by
  have hloss := State.recordLoss_portsKept s loss f.stamp
  unfold State.workFrame
  simp only
  generalize s.recordLoss loss f.stamp = t at hloss ⊢
  have hclose := State.closeInCourse_portsKept t .missingEnd
  generalize t.closeInCourse .missingEnd = u at hclose ⊢
  split
  · split
    · exact hloss.trans hclose
    · exact hloss.trans (hclose.trans (State.placeFrame_portsKept u _ f loss))
  · exact hloss.trans (State.placeFrame_portsKept t _ f loss)

theorem State.resumeFrame_portsKept (s : State) (stage : Stage) (f : Frame) (loss : Option LossRecord) :
    PortsKept s (s.resumeFrame stage f loss) := by
  cases stage with
  | makeRoom => exact State.openWithRoom_portsKept s _ f loss
  | openBlock => exact State.openWithBlock_portsKept s _ f loss
  | nextBlock =>
    unfold State.resumeFrame
    simp only
    split
    · exact State.nextBlock_portsKept s _ _ f
    · exact .refl s

theorem State.workFront_portsKept (s : State) : PortsKept s s.workFront := by
  have htake : PortsKept s ((s.mapStore fun t => { t with admission := false }).mapAssembler fun a => { a with stage := none }) :=
    .of_same rfl rfl
  unfold State.workFront
  simp only
  generalize (s.mapStore fun t => { t with admission := false }).mapAssembler (fun a => { a with stage := none }) = t at htake ⊢
  split
  · refine htake.trans (PortsKept.trans ?_ (State.present_portsKept _))
    split
    · exact State.workFrame_portsKept t _ _
    · exact State.resumeFrame_portsKept t _ _ _
  · exact htake

end Sys2Proof.Machine

/-!
The requests keep the ports in form: each is answered, which frees its slot, or waits at its block, where its slot is accounted for.
-/
namespace Sys2Proof.Machine

variable {s t : State} {slotted : Prop} {answering : List (Port × Slot)} {p : Port} {tag : Byte} {kind : RequestKind} {h : Header}
variable {i : Fin 8}

/-- The slot of a request that an act is answering (R196). -/
def openSlot (p : Port) (tag : Byte) (kind : RequestKind) : Port × Slot :=
  (p, { tag := tag, kind := kind, progress := .answering })

/-- From one state between acts to the next, the ports stay in form. -/
def PortsStep (s t : State) : Prop :=
  ∀ ⦃slotted⦄, PortsInForm slotted [] s → PortsInForm slotted [] t

theorem PortsKept.step (hkept : PortsKept s t) : PortsStep s t :=
  fun _ hs => hkept hs

/-- The command whose outcome this is keeps the ports in form, where it answers a next state. -/
def PortsNext (s : State) (outcome : Host.Outcome State Fault Refusal) : Prop :=
  ∀ t, outcome = .next t → PortsStep s t

theorem PortsStep.next (hstep : PortsStep s t) : PortsNext s (.next t) :=
  fun _ heq => by cases heq; exact hstep

/-- A request's answer (R196, R197). -/
theorem PortsInForm.reply (hs : PortsInForm slotted [openSlot p tag kind] s) (status : Status) (result : Result) :
    PortsInForm slotted [] (s.answer p tag kind status result) :=
  PortsInForm.answer (x := (openSlot p tag kind).2) hs kind status result

/-- A request's refusal (R197). -/
theorem PortsInForm.refuse (hs : PortsInForm slotted [openSlot p tag kind] s) (status : Status) :
    PortsInForm slotted [] (s.refuse p tag kind status) :=
  hs.reply status .none

theorem State.endAct_portsKept (s : State) : PortsKept s s.endAct :=
  .of_same rfl rfl

theorem State.beginAct_portsKept (s : State) : PortsKept s s.beginAct :=
  .of_same rfl rfl

theorem State.arrive_portsKept (s : State) (p : Port) : PortsKept s (s.arrive p) := by
  cases p <;> exact .of_same rfl rfl

theorem State.reject_portsKept (s : State) (p : Port) (tag : Byte) (code : BitVec 8) (status : Status) :
    PortsKept s (s.reject p tag code status) :=
  .of_same rfl rfl

/-- An act of the part that keeps the ports in form. -/
theorem State.act_portsNext {f : State → State} (hf : ∀ u, PortsKept u (f u)) : PortsNext s (.next (s.act f)) :=
  ((State.beginAct_portsKept s).trans ((hf _).trans (State.endAct_portsKept _))).step.next

/-- A request that its block answers, or keeps with its slot accounted for, keeps the ports in form: its port's tests come first (R195). -/
theorem State.request_portsNext {bodyBytes : Nat} {act : State → State}
    (hact : ∀ ⦃slotted⦄ u, PortsInForm slotted [openSlot p h.tag kind] u → PortsInForm slotted [] (act u)) :
    PortsNext s (.next (s.request p kind h bodyBytes act)) := by
  refine PortsStep.next fun slotted hs => ?_
  replace hs := State.arrive_portsKept s p hs
  unfold State.request
  generalize s.arrive p = u at hs ⊢
  refine State.endAct_portsKept _ ?_
  split
  · exact State.reject_portsKept u _ _ _ _ hs
  split
  · exact State.reject_portsKept u _ _ _ _ hs
  next hroom =>
    split
    · exact State.reject_portsKept u _ _ _ _ hs
    next htag =>
      have hopen : PortsInForm slotted [openSlot p h.tag kind] (u.occupy p h.tag kind) :=
        hs.occupy kind (Nat.lt_of_not_le hroom) fun x hx heq => htag (List.any_eq_true.mpr ⟨x, hx, decide_eq_true heq⟩)
      split
      · exact hopen.refuse _
      · exact hact _ hopen

/-! ## Capture Control (R91 to R109) -/

theorem execStart_portsNext : PortsNext s (execStart h s) := by
  unfold execStart
  refine State.request_portsNext fun _ u hu => ?_
  split
  · exact hu.refuse _
  split
  · exact hu.refuse _
  · have hstart : PortsKept u u.startCapture := .of_same rfl rfl
    exact (hstart hu).reply _ _

theorem PortsInForm.takeStop {mode : BitVec 8} (hs : PortsInForm slotted [openSlot .viewer h.tag .stop] s) :
    PortsInForm slotted [] (s.takeStop h mode) := by
  unfold State.takeStop
  split
  · exact hs.refuse _
  next now _ =>
    split
    · cases now with
      | true => exact (State.stopAtOnce_portsKept s _ _ hs).reply _ _
      | false => exact (State.stopAtEnd_portsKept s hs).reply _ _
    · exact hs.refuse _

theorem execStopAtSegmentEnd_portsNext {mode : BitVec 8} : PortsNext s (execStopAtSegmentEnd h mode s) :=
  State.request_portsNext fun _ _ hu => hu.takeStop

theorem execStopNow_portsNext {mode : BitVec 8} : PortsNext s (execStopNow h mode s) :=
  State.request_portsNext fun _ _ hu => hu.takeStop

theorem State.stage_portsKept (s : State) (profile : Profile) : PortsKept s (s.stage profile) := by
  unfold State.stage
  simp only
  split
  · exact (State.mapControl_portsKept s _).trans (State.mapControl_portsKept _ _)
  · exact (State.mapControl_portsKept s _).trans (State.activate_portsKept _)

theorem execStageProfile_portsNext {fields : ProfileFields} : PortsNext s (execStageProfile h fields s) := by
  unfold execStageProfile
  refine State.request_portsNext fun _ u hu => ?_
  split
  · exact hu.refuse _
  next profile _ =>
    have hstaged := State.stage_portsKept u profile hu
    generalize u.stage profile = v at hstaged ⊢
    simp only
    split
    · exact hstaged.reply _ _
    · exact hstaged.reply _ _

theorem execReadProfile_portsNext {which : BitVec 8} : PortsNext s (execReadProfile h which s) := by
  unfold execReadProfile
  refine State.request_portsNext fun _ u hu => ?_
  split
  · exact hu.reply _ _
  split
  · exact hu.reply _ _
  · exact hu.refuse _

theorem execSetHeadMark_portsNext {lbn : BitVec 64} {action : BitVec 8} : PortsNext s (execSetHeadMark h lbn action s) := by
  unfold execSetHeadMark
  refine State.request_portsNext fun _ u hu => ?_
  split
  next n a _ _ =>
    have harmed := State.mapControl_portsKept u (fun c => { c with headMark := some { lbn := n, action := a } }) hu
    exact (State.testHeadMark_portsKept _ harmed).reply _ _
  · exact hu.refuse _

theorem execClearHeadMark_portsNext : PortsNext s (execClearHeadMark h s) :=
  State.request_portsNext fun _ u hu => (State.mapControl_portsKept u (fun c => { c with headMark := none }) hu).reply _ _

theorem execSetArchiveMark_portsNext {lbn : BitVec 64} : PortsNext s (execSetArchiveMark h lbn s) := by
  unfold execSetArchiveMark
  refine State.request_portsNext fun _ u hu => ?_
  split
  next n _ =>
    have harmed := State.mapControl_portsKept u (fun c => { c with archiveMark := some n }) hu
    exact (State.testArchiveMark_portsKept _ harmed).reply _ _
  · exact hu.refuse _

theorem execClearArchiveMark_portsNext : PortsNext s (execClearArchiveMark h s) :=
  State.request_portsNext fun _ u hu => (State.mapControl_portsKept u (fun c => { c with archiveMark := none }) hu).reply _ _

theorem execFlush_portsNext : PortsNext s (execFlush h s) :=
  State.request_portsNext fun _ u hu => (State.sealFilling_portsKept u hu).reply _ _

/-! ## Requests that wait at their block (R117, R122, R142, R187) -/

/-- A request waits: its progress is recorded in its slot, and its block holds it. -/
theorem PortsInForm.waits {waiter : Port × Slot} {progress : Progress} (hs : PortsInForm slotted (openSlot p tag kind :: answering) s)
    (hwaiter : waiter = (p, slotOf tag kind progress)) (hsame : t.signals = (s.setProgress p tag progress).signals)
    (hholds : t.waitingSlots.Perm (waiter :: s.waitingSlots)) : PortsInForm slotted answering t := by
  subst hwaiter
  have hnoted := PortsInForm.setProgress (x := (openSlot p tag kind).2) hs progress
  refine hnoted.rebook hsame fun _ => ?_
  have hwaiting : (s.setProgress p tag progress).waitingSlots = s.waitingSlots := by cases p <;> rfl
  exact (List.perm_middle.symm.trans (hwaiting ▸ hholds.symm.append_left _))

theorem PortsInForm.parkTake {ctx : Fin 4} (hs : PortsInForm slotted [openSlot .archive tag .take] s) :
    PortsInForm slotted [] (s.parkTake ctx tag) :=
  hs.waits (waiter := ParkedTake.held { ctx := ctx, tag := tag }) rfl rfl (slotsOf_take _ _ _ _ _ _)

theorem execTake_portsNext {wait : BitVec 8} : PortsNext s (execTake h wait s) := by
  unfold execTake
  refine State.request_portsNext fun _ u hu => ?_
  split
  next ctx w _ _ =>
    split
    · exact hu.refuse _
    next window _ =>
      unfold State.takeFrom
      split
      · exact hu.refuse _
      split
      next b _ =>
        split
        · exact (State.mapBlock_portsKept u b.lbn _ hu).reply _ _
        · exact hu.refuse _
      split
      · exact hu.refuse _
      split
      · exact hu.refuse _
      split
      · exact hu.refuse _
      split
      · exact hu.refuse _
      · exact hu.parkTake
  · exact hu.refuse _

theorem execFetch_portsNext {lbn : BitVec 64} {offset length : BitVec 32} : PortsNext s (execFetch h lbn offset length s) := by
  unfold execFetch
  refine State.request_portsNext fun _ u hu => ?_
  split
  next ctx n _ _ _ =>
    split
    · exact hu.refuse _
    split
    · exact hu.refuse _
    split
    · exact hu.refuse _
    · exact hu.waits rfl rfl (slotsOf_fetch _ _ _ _ _ _)
  · exact hu.refuse _

theorem execRead_portsNext {lbn : BitVec 64} {offset length : BitVec 32} : PortsNext s (execRead h lbn offset length s) := by
  unfold execRead
  refine State.request_portsNext fun _ u hu => ?_
  split
  next id n _ _ _ =>
    split
    · exact hu.refuse _
    unfold State.checkRead
    split
    · exact hu.refuse _
    split
    · exact hu.refuse _
    split
    · exact hu.refuse _
    · exact hu.waits rfl rfl (slotsOf_read _ _ _ _ _ _)
  · exact hu.refuse _

theorem FlagForm.clear {f : SyncFlag} (hf : FlagForm f) : FlagForm { f with value := false } :=
  ⟨hf.1, fun h => (nomatch h)⟩

theorem PortsInForm.clearFlag (hs : PortsInForm slotted answering s) (i : Fin 8) :
    PortsInForm slotted answering (s.putFlag i { s.flags[i] with value := false }) :=
  hs.putFlag (hs.1.flag i).clear fun _ => .refl _

theorem PortsInForm.parkWait {w : ParkedWait} (hs : PortsInForm slotted [openSlot w.port w.tag .wait] s)
    (hclear : s.flags[i].value = false) (hroom : s.flags[i].waits.length < 4) : PortsInForm slotted [] (s.parkWait i w) := by
  have hnoted : PortsInForm slotted [w.held] (s.setProgress w.port w.tag .parked) :=
    PortsInForm.setProgress (x := (openSlot w.port w.tag .wait).2) hs .parked
  have hflags : (s.setProgress w.port w.tag .parked).flags = s.flags := by cases w.port <;> rfl
  have hcommute : s.parkWait i w
      = (s.setProgress w.port w.tag .parked).putFlag i { s.flags[i] with waits := s.flags[i].waits ++ [w] } := by
    unfold State.parkWait
    cases w.port <;> rfl
  rw [hcommute]
  refine hnoted.putFlag ⟨by simpa using hroom, fun hset => ?_⟩ fun _ => ?_
  · rw [hclear] at hset
    exact (nomatch hset)
  · rw [hflags, List.map_append, List.map_singleton, List.nil_append]
    exact List.perm_append_comm

theorem PortsInForm.takeWait {w : ParkedWait} (hs : PortsInForm slotted [openSlot w.port w.tag .wait] s) :
    PortsInForm slotted [] (s.takeWait i w) := by
  unfold State.takeWait
  split
  · split
    · exact hs.reply _ _
    · exact (hs.clearFlag i).reply _ _
  next hclear =>
    split
    · exact hs.refuse _
    next hroom => exact hs.parkWait (Bool.eq_false_iff.mpr hclear) (Nat.lt_of_not_le hroom)

theorem execWait_portsNext {mode : BitVec 8} {timeout : BitVec 32} : PortsNext s (execWait p h mode timeout s) := by
  unfold execWait
  refine State.request_portsNext fun _ u hu => ?_
  split
  · split
    · exact hu.refuse _
    · exact hu.takeWait
  · exact hu.refuse _

/-! ## The Drain Engine (R112 to R130) -/

theorem execOpenContext_portsNext {first length : BitVec 64} : PortsNext s (execOpenContext h first length s) := by
  unfold execOpenContext
  refine State.request_portsNext fun _ u hu => ?_
  split
  · split
    · exact hu.refuse _
    · exact (State.putContext_portsKept u _ _ hu).reply _ _
  · exact hu.refuse _

theorem State.cancelTake_portsKept (s : State) (ctx : Fin 4) : PortsKept s (s.cancelTake ctx) := by
  unfold State.cancelTake
  split
  next k hk => exact fun _ _ hs => hs.endTake (fun _ => List.mem_of_find?_eq_some hk) .cancelled
  · exact .refl s

theorem State.returnOne_portsKept (s : State) (b : Block) : PortsKept s (s.returnOne b) :=
  (State.mapBlock_portsKept s _ _).trans (State.offer_portsKept _ _)

theorem State.closeOne_portsKept (s : State) (ctx : Fin 4) : PortsKept s (s.closeOne ctx) :=
  (State.cancelTake_portsKept s ctx).trans <| (PortsKept.foldl State.returnOne_portsKept _ _).trans (State.putContext_portsKept _ _ _)

theorem execCloseContext_portsNext : PortsNext s (execCloseContext h s) := by
  unfold execCloseContext
  refine State.request_portsNext fun _ u hu => ?_
  split
  · exact hu.refuse _
  split
  · exact (State.closeOne_portsKept u _ hu).reply _ _
  · exact hu.refuse _

theorem State.confirmBlock_portsKept (s : State) (b : Block) (withLoss : Bool) : PortsKept s (s.confirmBlock b withLoss) := by
  have hmark : ∀ u : State, PortsKept u (u.markLoss b withLoss) := fun u => by
    unfold State.markLoss
    split
    · exact State.mapEntry_portsKept u _ _
    · exact .refl u
  exact (State.mapBlock_portsKept s _ _).trans ((hmark _).trans (State.settleRing_portsKept _ _))

theorem execConfirm_portsNext {lbn : BitVec 64} {withLoss : BitVec 8} : PortsNext s (execConfirm h lbn withLoss s) := by
  unfold execConfirm
  refine State.request_portsNext fun _ u hu => ?_
  split
  · split
    · exact hu.refuse _
    · exact (State.confirmBlock_portsKept u _ _ hu).reply _ _
  · exact hu.refuse _

theorem execReturnBlock_portsNext {lbn : BitVec 64} : PortsNext s (execReturnBlock h lbn s) := by
  unfold execReturnBlock
  refine State.request_portsNext fun _ u hu => ?_
  split
  · split
    · exact hu.refuse _
    · exact (State.returnOne_portsKept u _ hu).reply _ _
  · exact hu.refuse _

/-! ## The Viewer Engine (R137 to R141) -/

theorem State.takePin_portsKept (s : State) (id : Fin 8) (r : PinRange) : PortsKept s (s.takePin id r) :=
  (State.putPin_portsKept s _ _).trans ((State.mapRing_portsKept _ _).trans (State.reband_portsKept _))

theorem State.dropPin_portsKept (s : State) (id : Fin 8) : PortsKept s (s.dropPin id) := by
  unfold State.dropPin
  split
  · exact (State.mapRing_portsKept s _).trans (State.putPin_portsKept _ _ _)
  · exact .refl s

theorem execPin_portsNext {first : BitVec 64} {count : BitVec 32} : PortsNext s (execPin h first count s) := by
  unfold execPin
  refine State.request_portsNext fun _ u hu => ?_
  split
  · exact hu.refuse _
  split
  · exact hu.refuse _
  split
  · exact hu.refuse _
  split
  · exact hu.refuse _
  simp only
  split
  · exact hu.refuse _
  · exact (State.takePin_portsKept u _ _ hu).reply _ _

theorem execUnpin_portsNext : PortsNext s (execUnpin h s) := by
  unfold execUnpin
  refine State.request_portsNext fun _ u hu => ?_
  split
  · exact hu.refuse _
  split
  · exact hu.refuse _
  · exact (State.reband_portsKept _ (State.dropPin_portsKept u _ hu)).reply _ _

/-! ## The bank groups (R167 to R179) -/

theorem execSetGroupNext_portsNext {next : BitVec 8} : PortsNext s (execSetGroupNext h next s) := by
  unfold execSetGroupNext
  refine State.request_portsNext fun _ u hu => ?_
  split
  · exact (State.putGroup_portsKept u _ _ hu).reply _ _
  · exact hu.refuse _

theorem execApplyGroups_portsNext : PortsNext s (execApplyGroups h s) := by
  unfold execApplyGroups
  refine State.request_portsNext fun _ u hu => ?_
  split
  · exact hu.reply _ _
  split
  · exact hu.reply _ _
  · exact (State.applyChanges_portsKept u hu).reply _ _

theorem State.putMap_portsKept (s : State) (map : List (Fin 16)) : PortsKept s (s.putMap map) := by
  have hmap : PortsKept s { s with power := { s.power with groupMap := map } } := .of_same rfl rfl
  exact hmap.trans <| (State.mapRing_portsKept _ _).trans <| (State.mapControl_portsKept _ _).trans <|
    (State.mapControl_portsKept _ _).trans <| (State.rebandFresh_portsKept _).trans (State.updatePause_portsKept _)

theorem execSetGroupMap_portsNext {span : BitVec 8} {groups : List (BitVec 8)} : PortsNext s (execSetGroupMap h span groups s) := by
  unfold execSetGroupMap
  refine State.request_portsNext fun _ u hu => ?_
  split
  · exact hu.refuse _
  split
  · exact (State.putMap_portsKept u _ hu).reply _ _
  · exact hu.refuse _

theorem State.reform_portsKept (s : State) : PortsKept s s.reform := by
  have hindex : ∀ u : State, PortsKept u { u with index := [] } := fun _ => .of_same rfl rfl
  exact (State.mapRing_portsKept s _).trans <| (hindex _).trans <| (State.mapControl_portsKept _ _).trans <|
    (State.mapControl_portsKept _ _).trans <| (State.rebandFresh_portsKept _).trans <| (State.updatePause_portsKept _).trans
      (State.testArchiveMark_portsKept _)

theorem execReform_portsNext : PortsNext s (execReform h s) := by
  unfold execReform
  refine State.request_portsNext fun _ u hu => ?_
  split
  · exact hu.refuse _
  split
  · exact hu.refuse _
  · exact (State.reform_portsKept u hu).reply _ _

/-! ## Flags, notices and reads (R88, R183 to R192, R201, R202) -/

theorem execSetFlagSource_portsNext {source : BitVec 8} : PortsNext s (execSetFlagSource p h source s) := by
  unfold execSetFlagSource
  refine State.request_portsNext fun _ u hu => ?_
  split
  next i src _ _ =>
    split
    · have hput : PortsInForm _ _ (u.putFlag i { u.flags[i] with source := src }) := hu.putFlag (hu.1.flag i) fun _ => .refl _
      exact hput.reply _ _
    · exact hu.refuse _
  · exact hu.refuse _

theorem execPost_portsNext : PortsNext s (execPost p h s) := by
  unfold execPost
  refine State.request_portsNext fun _ u hu => ?_
  split
  · exact hu.refuse _
  · exact (State.setFlag_portsKept u _ hu).reply _ _

theorem execClearFlag_portsNext : PortsNext s (execClearFlag p h s) := by
  unfold execClearFlag
  refine State.request_portsNext fun _ u hu => ?_
  split
  · exact hu.refuse _
  · exact (hu.clearFlag _).reply _ _

theorem PortsInForm.manageNotices {kinds : BitVec 16} {f : NoticeSet → NoticeUnit → NoticeUnit}
    (hs : PortsInForm slotted [openSlot p h.tag kind] s) : PortsInForm slotted [] (s.manageNotices p h kind kinds f) := by
  unfold State.manageNotices
  split
  · exact hs.refuse _
  · exact (State.mapNotices_portsKept s p _ hs).reply _ _

theorem execSetNoticeMask_portsNext {kinds : BitVec 16} : PortsNext s (execSetNoticeMask p h kinds s) :=
  State.request_portsNext fun _ _ hu => hu.manageNotices

theorem execClearNotice_portsNext {kinds : BitVec 16} : PortsNext s (execClearNotice p h kinds s) :=
  State.request_portsNext fun _ _ hu => hu.manageNotices

theorem execForceNotice_portsNext {kinds : BitVec 16} : PortsNext s (execForceNotice p h kinds s) :=
  State.request_portsNext fun _ _ hu => hu.manageNotices

theorem execReadIndex_portsNext {first : BitVec 64} {count : BitVec 8} : PortsNext s (execReadIndex p h first count s) := by
  unfold execReadIndex
  refine State.request_portsNext fun _ u hu => ?_
  split
  · exact hu.refuse _
  · exact hu.reply _ _

theorem execReadStatus_portsNext : PortsNext s (execReadStatus p h s) :=
  State.request_portsNext fun _ _ hu => hu.reply _ _

theorem execReadCounts_portsNext : PortsNext s (execReadCounts p h s) :=
  State.request_portsNext fun _ _ hu => hu.reply _ _

end Sys2Proof.Machine

/-!
The events, the grants, the completions and the resets keep the ports in form (O59).
-/
namespace Sys2Proof.Machine

variable {s t : State} {slotted : Prop} {answering : List (Port × Slot)} {p : Port} {tag : Byte} {kind : RequestKind} {h : Header}
variable {i : Fin 8}

/-! ## The Sample Link (R31 to R44, R97) -/

theorem State.offerFrame_portsKept (s : State) (f : Frame) (gap : Nat) : PortsKept s (s.offerFrame f gap) := by
  unfold State.offerFrame
  split
  · exact State.count_portsKept s _
  split
  · exact (State.mapLink_portsKept s _).trans ((State.mapLink_portsKept _ _).trans (State.present_portsKept _))
  · exact (State.count_portsKept s _).trans (State.mapLink_portsKept _ _)

theorem State.sequenceTest_portsKept (s : State) (f : Frame) : PortsKept s (s.sequenceTest f) := by
  have hoffer : ∀ (u : State) (gap : Nat), PortsKept u ((u.expectAfter f).offerFrame f gap) := fun u gap =>
    (State.mapLink_portsKept u _).trans (State.offerFrame_portsKept _ f gap)
  unfold State.sequenceTest
  split
  · exact hoffer s 0
  next expected _ =>
    simp only
    split
    · exact hoffer s 0
    split
    · exact (State.count_portsKept s _).trans ((State.raiseNotice_portsKept _ _).trans (hoffer _ _))
    · exact (State.count_portsKept s _).trans (State.raiseNotice_portsKept _ _)

theorem State.receive_portsKept (s : State) (bytes : List Byte) : PortsKept s (s.receive bytes) := by
  have harrive := (State.mapLink_portsKept s fun l => { l with locked := true }).trans
    (State.count_portsKept _ fun c => { c with framesReceived := c.framesReceived + 1 })
  unfold State.receive
  simp only
  split
  · exact harrive.trans (State.sequenceTest_portsKept _ _)
  · exact harrive.trans ((State.count_portsKept _ _).trans (State.raiseNotice_portsKept _ _))

theorem State.resync_portsKept (s : State) : PortsKept s s.resync := by
  have hfault := (State.count_portsKept s fun c => { c with linkResyncs := c.linkResyncs + 1 }).trans <|
    (State.raiseNotice_portsKept _ .linkFault).trans (State.mapLink_portsKept _ fun l => { l with expected := none })
  unfold State.resync
  simp only
  split
  · unfold State.placeResync
    split
    · exact hfault.trans (State.mapLink_portsKept _ _)
    · exact hfault.trans (State.mapLink_portsKept _ _)
  · exact hfault

theorem State.takeHalt_portsKept (s : State) : PortsKept s s.takeHalt := by
  unfold State.takeHalt
  split
  · split
    · exact State.stopAtOnce_portsKept s _ _
    · split
      · exact .refl s
      · exact (State.mapLink_portsKept s _).trans (State.mapControl_portsKept _ _)
  · exact .refl s

theorem execFrameArrival_portsNext {bytes : List Byte} : PortsNext s (execFrameArrival bytes s) :=
  State.act_portsNext fun u => State.receive_portsKept u bytes

theorem execResyncMarker_portsNext : PortsNext s (execResyncMarker s) :=
  State.act_portsNext fun u => (State.mapLink_portsKept u _).trans (State.resync_portsKept _)

theorem execLinkLockLoss_portsNext {relocked : Bool} : PortsNext s (execLinkLockLoss relocked s) := by
  refine State.act_portsNext fun u => ?_
  split
  · exact (State.mapLink_portsKept u _).trans (State.resync_portsKept _)
  · exact .refl u

theorem execHaltAssertion_portsNext : PortsNext s (execHaltAssertion s) := by
  refine State.act_portsNext fun u => ?_
  split
  · exact .refl u
  · exact (State.mapLink_portsKept u _).trans (State.takeHalt_portsKept _)

theorem execHaltRelease_portsNext : PortsNext s (execHaltRelease s) :=
  State.act_portsNext fun u => State.mapLink_portsKept u _

/-! ## The Block Assembler (R49, R52, R60) -/

theorem execAdmissionGrant_portsNext : PortsNext s (execAdmissionGrant s) := by
  refine State.act_portsNext fun u => ?_
  split
  · exact State.workFront_portsKept u
  · exact .refl u

theorem execHaltMarkerWorked_portsNext : PortsNext s (execHaltMarkerWorked s) := by
  refine State.act_portsNext fun u => ?_
  split
  · exact (State.mapLink_portsKept u _).trans <| (State.recordLoss_portsKept _ _ _).trans <| (State.closeSegment_portsKept _ _).trans
      (State.enterStopped_portsKept _ _)
  · exact .refl u

theorem execResyncMarkerWorked_portsNext : PortsNext s (execResyncMarkerWorked s) := by
  refine State.act_portsNext fun u => ?_
  split
  · exact (State.mapLink_portsKept u _).trans <| (State.recordLoss_portsKept _ _ _).trans <| (State.closeInCourse_portsKept _ _).trans
      (State.present_portsKept _)
  · exact .refl u

theorem execIdleFlushExpiry_portsNext : PortsNext s (execIdleFlushExpiry s) := by
  refine State.act_portsNext fun u => ?_
  split
  · exact (State.mapAssembler_portsKept u _).trans (State.sealFilling_portsKept _)
  · exact .refl u

theorem execGroupSettle_portsNext {g : Fin 16} : PortsNext s (execGroupSettle g s) := by
  refine State.act_portsNext fun u => ?_
  split
  · exact State.settleGroup_portsKept u g _ _
  · exact .refl u
  · exact .refl u

/-! ## The end of a wait's time (R189) -/

/-- The waits parked on a flag are told apart by their ports and tags. -/
theorem PortsInForm.waits_nodup (hs : PortsInForm slotted answering s) (hb : slotted) (i : Fin 8) : s.flags[i].waits.Nodup := by
  obtain ⟨rest, hall, -⟩ := flagSlots_split s.flags i
  have hkeys := ((hs.2 hb).map slotKey).nodup_iff.mp hs.1.slotKeys_nodup
  have hflags := hkeys.sublist (((List.sublist_append_left _ _).trans (List.sublist_append_right _ _)).map slotKey)
  have hwaits := (((hall.map slotKey).nodup_iff).mp hflags).sublist ((List.sublist_append_left _ _).map slotKey)
  rw [List.map_map] at hwaits
  exact hwaits.of_map _

/-- A parked wait leaves its flag for its answer. -/
theorem PortsInForm.unparkWait {w : ParkedWait} (hs : PortsInForm slotted answering s) (hw : w ∈ s.flags[i].waits) :
    PortsInForm slotted (w.held :: answering)
      (s.putFlag i { s.flags[i] with waits := s.flags[i].waits.filter fun x => decide (x ≠ w) }) := by
  obtain ⟨hfew, hset⟩ := hs.1.flag i
  refine hs.putFlag ⟨(List.length_filter_le _ _).trans hfew, fun hv => ?_⟩ fun hb => ?_
  · exact List.filter_eq_nil_iff.mpr fun x hx => (nomatch (hset hv ▸ hx : x ∈ []))
  · have hperm := (perm_cons_filter_ne (hs.waits_nodup hb i) hw).map ParkedWait.held
    exact (hperm.append_left _).trans List.perm_middle

theorem execWaitTimeout_portsNext : PortsNext s (execWaitTimeout i p tag s) := by
  refine State.act_portsNext fun u => ?_
  split
  next => exact .refl u
  next w hw =>
    have hdue := List.find?_some hw
    simp only [Bool.and_eq_true, decide_eq_true_eq] at hdue
    obtain ⟨⟨rfl, rfl⟩, -⟩ := hdue
    intro slotted answering hu
    exact PortsInForm.answer (x := slotOf w.tag .wait .parked) (hu.unparkWait (List.mem_of_find?_eq_some hw)) _ _ _

/-! ## Grants (R123, R143, R155 to R160) -/

/-- A request of a queue of reads is issued: its slot shows it, and it waits in flight. -/
theorem PortsInForm.issueRead {x : Slot} {op : Operation} {lbn offset length : Nat}
    (hs : PortsInForm slotted ((p, x) :: answering) s)
    (hheld : ∀ e : InFlight, e.op = op → e.requester = .request p x.tag → e.held = some (p, { x with progress := .issued })) :
    PortsInForm slotted answering (s.issueRead p x.tag op lbn offset length) := by
  have hnoted := hs.setProgress .issued
  refine hnoted.rebook (by cases p <;> rfl) fun _ => ?_
  have hwaiting : (s.setProgress p x.tag .issued).waitingSlots = s.waitingSlots := by cases p <;> rfl
  have hissued := slotsOf_inFlight s.flags s.drain.parkedTakes s.store.archiveQueue s.store.viewerQueue s.store.inFlight
    { op := op, lbn := lbn, group := s.groupOf lbn, address := s.storeAddress lbn offset, length := length,
      requester := .request p x.tag }
  rw [hheld _ rfl rfl] at hissued
  have hgot : (s.issueRead p x.tag op lbn offset length).waitingSlots.Perm ((p, { x with progress := .issued }) :: s.waitingSlots) := by
    cases p <;> exact hissued
  rw [hwaiting]
  exact List.perm_middle.symm.trans (hgot.symm.append_left _)

theorem execFetchGrant_portsNext : PortsNext s (execFetchGrant s) := by
  refine State.act_portsNext fun u => ?_
  split
  next r rest _ hqueue =>
    intro slotted answering hu
    have htaken : PortsInForm slotted (r.held :: answering) (u.mapStore fun t => { t with archiveQueue := rest, turn := .viewer }) := by
      refine hu.rebook rfl fun _ => ?_
      have hleft := slotsOf_fetch_cons u.flags u.drain.parkedTakes rest u.store.viewerQueue u.store.inFlight r
      rw [← hqueue] at hleft
      exact (hleft.append_left _).trans List.perm_middle
    generalize u.mapStore (fun t => { t with archiveQueue := rest, turn := .viewer }) = v at htaken ⊢
    unfold State.grantFetch
    split
    · exact PortsInForm.answer (x := slotOf r.tag .fetch .queued) htaken _ _ _
    split
    · refine PortsInForm.issueRead (x := slotOf r.tag .fetch .queued) htaken fun e hop hreq => ?_
      simp [InFlight.held, hop, hreq, slotOf]
    · exact PortsInForm.answer (x := slotOf r.tag .fetch .queued) htaken _ _ _
  · exact .refl u

theorem execReadGrant_portsNext : PortsNext s (execReadGrant s) := by
  refine State.act_portsNext fun u => ?_
  split
  next r rest _ hqueue =>
    intro slotted answering hu
    have htaken : PortsInForm slotted (r.held :: answering) (u.mapStore fun t => { t with viewerQueue := rest, turn := .archive }) := by
      refine hu.rebook rfl fun _ => ?_
      have hleft := slotsOf_read_cons u.flags u.drain.parkedTakes u.store.archiveQueue rest u.store.inFlight r
      rw [← hqueue] at hleft
      exact (hleft.append_left _).trans List.perm_middle
    generalize u.mapStore (fun t => { t with viewerQueue := rest, turn := .archive }) = v at htaken ⊢
    unfold State.grantRead
    split
    · exact PortsInForm.answer (x := slotOf r.tag .read .queued) htaken _ _ _
    split
    · refine PortsInForm.issueRead (x := slotOf r.tag .read .queued) htaken fun e hop hreq => ?_
      simp [InFlight.held, hop, hreq, slotOf]
    · exact PortsInForm.answer (x := slotOf r.tag .read .queued) htaken _ _ _
  · exact .refl u

/-! ## Completions (R124, R144, R159 to R163) -/

theorem State.endRead_portsKept (s : State) (lbn : Nat) (g : Fin 16) : PortsKept s (s.endRead lbn g) := by
  have hwake : ∀ u : State, PortsKept u (u.wakeAssembler lbn) := fun u => by
    unfold State.wakeAssembler
    split
    · exact .of_same rfl rfl
    · exact .refl u
  exact (State.mapBlock_portsKept s _ _).trans ((hwake _).trans (State.checkDrain_portsKept _ g))

theorem State.markDamaged_portsKept (s : State) (lbn : Nat) : PortsKept s (s.markDamaged lbn) := by
  have hend : ∀ u : State, PortsKept u
      ((u.count fun c => { c with uncorrectableErrors := c.uncorrectableErrors + 1 }).raise .mediaError) := fun u =>
    (State.count_portsKept u _).trans (State.raise_portsKept _ _)
  unfold State.markDamaged
  simp only
  split
  · exact (State.mapBlock_portsKept s _ _).trans ((State.mapEntry_portsKept _ _ _).trans (hend _))
  · exact hend s

/-- The oldest operation leaves the in-flight list: its slot, where it has one, is the act's to answer. -/
theorem PortsInForm.popInFlight {e : InFlight} {rest : List InFlight} (hs : PortsInForm slotted answering s)
    (hinFlight : s.store.inFlight = e :: rest) : PortsInForm slotted (e.held.toList ++ answering) s.popInFlight := by
  refine hs.rebook rfl fun _ => ?_
  have hleft := slotsOf_inFlight_cons s.flags s.drain.parkedTakes s.store.archiveQueue s.store.viewerQueue rest e
  have hpop : s.popInFlight.waitingSlots
      = slotsOf s.flags s.drain.parkedTakes s.store.archiveQueue s.store.viewerQueue s.store.inFlight.tail := rfl
  rw [← hinFlight] at hleft
  rw [hpop, hinFlight, List.tail_cons, List.append_assoc]
  exact (hleft.append_left _).trans (List.perm_append_comm_assoc _ _ _)

/-- The slot of a read's requester (R163). -/
def Requester.held (kind : RequestKind) : Requester → Option (Port × Slot)
  | .request p tag => some (p, slotOf tag kind .issued)
  | .absent => none
  | .discarded => none

theorem InFlight.held_fetch {e : InFlight} {r : FetchRequest} (hop : e.op = .archiveRead r) : e.held = e.requester.held .fetch := by
  unfold InFlight.held
  rw [hop]
  cases e.requester <;> rfl

theorem InFlight.held_read {e : InFlight} {r : ReadRequest} {fill : Nat} {blockSealed : Bool} (hop : e.op = .viewerRead r fill blockSealed) :
    e.held = e.requester.held .read := by
  unfold InFlight.held
  rw [hop]
  cases e.requester <;> rfl

/-- A completed read is answered where its requester is not discarded (R163). -/
theorem PortsInForm.answerRead {e : InFlight} {clamped failed : Bool} {result : Result} {data : List Byte}
    (hs : PortsInForm slotted ((e.requester.held kind).toList ++ answering) s) :
    PortsInForm slotted answering (s.answerRead e kind clamped failed result data) := by
  unfold State.answerRead
  cases hreq : e.requester with
  | request p tag =>
    rw [hreq] at hs
    simp only
    split
    · exact PortsInForm.answer (x := slotOf tag kind .issued) hs _ _ _
    · exact PortsInForm.answerWith (x := slotOf tag kind .issued) hs _ _ _ _
  | discarded => exact (hreq ▸ hs :)
  | absent => exact (hreq ▸ hs :)

theorem PortsInForm.completeRead {e : InFlight} {rest : List InFlight} {units : List UnitResult} {clamped : Bool} {result : Result}
    (hs : PortsInForm slotted answering s) (hinFlight : s.store.inFlight = e :: rest)
    (hheld : e.held = e.requester.held kind) :
    PortsInForm slotted answering (s.completeRead e units kind clamped result) := by
  have hcount : ∀ u : State, PortsKept u
      ((u.mapStore fun t => { t with readsDone := t.readsDone + 1 }).countCorrected (unitsOf units e.length)) := fun _ => .of_same rfl rfl
  have hpop := hcount _ (hs.popInFlight hinFlight)
  rw [hheld] at hpop
  have hanswered := hpop.answerRead (clamped := clamped) (failed := uncorrectable (unitsOf units e.length)) (result := result)
    (data := Memory.deliver s.store.memory s.store.readsDone e.address e.length)
  unfold State.completeRead
  simp only
  split
  · exact State.endRead_portsKept _ _ _ (State.markDamaged_portsKept _ _ hanswered)
  · exact State.endRead_portsKept _ _ _ hanswered

theorem execAdmissionWriteCompletion_portsNext : PortsNext s (execAdmissionWriteCompletion s) := by
  refine State.act_portsNext fun u => ?_
  split
  next e rest hinFlight =>
    split
    next payload hop =>
      intro slotted answering hu
      have hpop := hu.popInFlight hinFlight
      have hheld : e.held = none := by simp [InFlight.held, hop]
      rw [hheld] at hpop
      have hstore : PortsKept u.popInFlight (u.popInFlight.storePayload e.address payload) := .of_same rfl rfl
      exact State.checkDrain_portsKept _ _ (hstore hpop)
    · exact .refl u
    · exact .refl u
  · exact .refl u

theorem execFetchCompletion_portsNext {units : List UnitResult} : PortsNext s (execFetchCompletion units s) := by
  refine State.act_portsNext fun u => ?_
  split
  next e rest hinFlight =>
    split
    next r hop => exact fun _ _ hu => hu.completeRead hinFlight (InFlight.held_fetch hop)
    · exact .refl u
    · exact .refl u
  · exact .refl u

theorem execReadCompletion_portsNext {units : List UnitResult} : PortsNext s (execReadCompletion units s) := by
  refine State.act_portsNext fun u => ?_
  split
  next e rest hinFlight =>
    split
    next r fill blockSealed hop => exact fun _ _ hu => hu.completeRead hinFlight (InFlight.held_read hop)
    · exact .refl u
    · exact .refl u
  · exact .refl u

end Sys2Proof.Machine

/-!
A port reset discards the port's slots and its requests alike, and a device reset those of both ports; so every step keeps the ports, their slots and
the flags in form (O59).
-/
namespace Sys2Proof.Machine

variable {s t : State} {slotted : Prop} {p : Port}

/-! ## The requests of a port are discarded (R132, R149, R163, R190, R199) -/

/-- The requests of a port at the Drain Engine and in its queue of reads are removed (R132, R149). -/
def State.dropRequests (s : State) : Port → State
  | .viewer => s.mapStore fun t => { t with viewerQueue := [] }
  | .archive => s.resetDrain

/-- The port's slots and all its requests are discarded. -/
def State.cleared (s : State) (p : Port) : State :=
  (((s.discardSlots p).dropWaits p).dropRequests p).discardReads p

/-- The slots that are not a port's. -/
def offPort (p : Port) (l : List (Port × Slot)) : List (Port × Slot) :=
  l.filter fun x => decide (x.1 ≠ p)

theorem offPort_waits (p : Port) (l : List ParkedWait) :
    (l.filter fun w => decide (w.port ≠ p)).map ParkedWait.held = offPort p (l.map ParkedWait.held) := by
  rw [offPort, List.filter_map]
  rfl

theorem flagSlots_dropWaits (s : State) (p : Port) : flagSlots (s.dropWaits p).flags = offPort p (flagSlots s.flags) := by
  have hlist : (s.dropWaits p).flags.toList
      = s.flags.toList.map fun f => { f with waits := f.waits.filter fun w => decide (w.port ≠ p) } := by
    simp [State.dropWaits, Vector.toList_map]
  unfold flagSlots
  rw [hlist]
  generalize s.flags.toList = l
  induction l with
  | nil => rfl
  | cons f l ih =>
    rw [List.map_cons, List.flatMap_cons, List.flatMap_cons, ih, offPort_waits]
    exact (List.filter_append ..).symm

theorem InFlight.held_discardFor (e : InFlight) (p : Port) :
    (e.discardFor p).held = e.held.filter fun x => decide (x.1 ≠ p) := by
  rcases e with ⟨op, lbn, group, address, length, requester⟩
  cases requester with
  | absent => cases op <;> rfl
  | discarded => cases op <;> rfl
  | request q tag =>
    by_cases hq : q = p
    · cases op <;> simp [InFlight.discardFor, InFlight.held, hq, Option.filter]
    · cases op <;> simp [InFlight.discardFor, InFlight.held, hq, Option.filter]

theorem inFlight_discardFor (l : List InFlight) (p : Port) :
    (l.map fun e => e.discardFor p).filterMap InFlight.held = offPort p (l.filterMap InFlight.held) := by
  rw [List.filterMap_map, offPort, List.filter_filterMap]
  exact List.filterMap_congr fun e _ => InFlight.held_discardFor e p

theorem offPort_own {α : Type} {f : α → Port × Slot} (hf : ∀ x, (f x).1 = p) (l : List α) : offPort p (l.map f) = [] := by
  simp [offPort, hf]

theorem offPort_other {α : Type} {f : α → Port × Slot} (hf : ∀ x, (f x).1 ≠ p) (l : List α) : offPort p (l.map f) = l.map f := by
  simp [offPort, hf]

theorem State.waitingSlots_cleared (s : State) (p : Port) : (s.cleared p).waitingSlots = offPort p s.waitingSlots := by
  have hparts : offPort p s.waitingSlots = offPort p (flagSlots s.flags) ++ (offPort p (s.drain.parkedTakes.map ParkedTake.held)
      ++ offPort p (s.store.archiveQueue.map FetchRequest.held) ++ offPort p (s.store.viewerQueue.map ReadRequest.held)
      ++ offPort p (s.store.inFlight.filterMap InFlight.held)) := by
    simp [State.waitingSlots, State.requestSlots, offPort]
  rw [hparts, ← flagSlots_dropWaits, ← inFlight_discardFor]
  cases p with
  | viewer =>
    rw [offPort_other fun _ => by simp [ParkedTake.held], offPort_other fun _ => by simp [FetchRequest.held], offPort_own (p := .viewer) (fun _ => rfl)]
    rfl
  | archive =>
    rw [offPort_own (p := .archive) (fun _ => rfl), offPort_own (p := .archive) (fun _ => rfl), offPort_other fun _ => by simp [ReadRequest.held]]
    rfl

theorem State.occupiedSlots_cleared (s : State) (p : Port) : (s.cleared p).occupiedSlots = offPort p s.occupiedSlots := by
  have hparts : offPort p s.occupiedSlots
      = offPort p (s.viewerPort.slots.map (Prod.mk .viewer)) ++ offPort p (s.archivePort.slots.map (Prod.mk .archive)) :=
    List.filter_append ..
  rw [hparts]
  cases p with
  | viewer =>
    rw [offPort_own (p := .viewer) (fun _ => rfl), offPort_other fun _ => by simp]
    rfl
  | archive =>
    rw [offPort_other fun _ => by simp, offPort_own (p := .archive) (fun _ => rfl)]
    rfl

theorem PortsInForm.cleared (hs : PortsInForm slotted [] s) (p : Port) : PortsInForm slotted [] (s.cleared p) := by
  refine ⟨?_, fun hb => ?_⟩
  · have hslots : SignalForm (s.discardSlots p) := hs.1.mapPort fun ⟨_, _, hline⟩ => ⟨by simp, by simp, hline⟩
    rw [signalForm_iff] at hslots
    have hwaits : SignalForm ((s.discardSlots p).dropWaits p) := by
      rw [signalForm_iff]
      refine ⟨hslots.1, fun i => ?_⟩
      obtain ⟨hfew, hset⟩ := hslots.2 i
      have hflag : ((s.discardSlots p).dropWaits p).flags[i]
          = { (s.discardSlots p).flags[i] with waits := (s.discardSlots p).flags[i].waits.filter fun w => decide (w.port ≠ p) } := by
        simp [State.dropWaits]
      rw [hflag]
      refine ⟨(List.length_filter_le _ _).trans hfew, fun hv => ?_⟩
      exact List.filter_eq_nil_iff.mpr fun x hx => (nomatch (hset hv ▸ hx : x ∈ []))
    exact hwaits.of_signals (by cases p <;> rfl)
  · rw [State.occupiedSlots_cleared, State.waitingSlots_cleared]
    exact (hs.2 hb).filter _

/-! ## Events and the Store Channel act on parts of their own -/

section
variable (f : Store → Store)

theorem State.foldl_mapStore {α : Type} {g : State → α → State} (hg : ∀ s x, g (s.mapStore f) x = (g s x).mapStore f) (l : List α)
    (s : State) : l.foldl g (s.mapStore f) = (l.foldl g s).mapStore f := by
  induction l generalizing s with
  | nil => rfl
  | cons x l ih => rw [List.foldl_cons, List.foldl_cons, hg, ih]

theorem State.setFlag_mapStore (s : State) (i : Fin 8) : (s.mapStore f).setFlag i = (s.setFlag i).mapStore f := by
  have hcomplete : ∀ (u : State) (done : ParkedWait × Bool), (u.mapStore f).completeWait i done = (u.completeWait i done).mapStore f :=
    fun u done => by
      obtain ⟨w, v⟩ := done
      obtain ⟨q, tag, mode, timeout, timeLeft⟩ := w
      cases q <;> rfl
  unfold State.setFlag
  have hflags : (s.mapStore f).flags = s.flags := rfl
  simp only [hflags]
  split
  · rfl
  · exact State.foldl_mapStore f hcomplete _ (s.putFlag i _)

theorem State.raise_mapStore (s : State) (e : Event) : (s.mapStore f).raise e = (s.raise e).mapStore f := by
  refine State.foldl_mapStore f (fun u i => ?_) _ (s.raiseNotice e.notice)
  have hflags : (u.mapStore f).flags = u.flags := rfl
  rw [hflags]
  split
  · exact State.setFlag_mapStore f u i
  · rfl

theorem State.reband_mapStore (s : State) : (s.mapStore f).reband = s.reband.mapStore f := by
  have hset : ∀ band : Band, (s.mapStore f).setBand band = (s.setBand band).mapStore f := fun band => by
    unfold State.setBand
    have hring : (s.mapStore f).ring = s.ring := rfl
    have hmap : ((s.mapStore f).mapRing fun r => { r with band := band }) = (s.mapRing fun r => { r with band := band }).mapStore f := rfl
    rw [hring, hmap, State.raise_mapStore]
    split
    · rfl
    · generalize (s.mapRing fun r => { r with band := band }).raise band.event = u
      rfl
  exact hset _

theorem State.dropPin_mapStore (s : State) (i : Fin 8) : (s.mapStore f).dropPin i = (s.dropPin i).mapStore f := by
  unfold State.dropPin
  have hpins : (s.mapStore f).pins = s.pins := rfl
  rw [hpins]
  split <;> rfl

end

/-- The reads in flight may be discarded before the owning blocks act, which do not read them. -/
theorem State.resetPort_viewer (s : State) :
    s.resetPort .viewer
      = ((List.finRange 8).foldl State.dropPin (s.cleared .viewer)).reband.mapPort .viewer fun q => { q with notices := resetNotices } := by
  have hpins := State.foldl_mapStore (fun t => { t with inFlight := t.inFlight.map fun e => e.discardFor .viewer })
    (fun u i => State.dropPin_mapStore _ u i) (List.finRange 8) (((s.discardSlots .viewer).dropWaits .viewer).dropRequests .viewer)
  have hcleared : s.cleared .viewer = (((s.discardSlots .viewer).dropWaits .viewer).dropRequests .viewer).mapStore
      (fun t => { t with inFlight := t.inFlight.map fun e => e.discardFor .viewer }) := rfl
  rw [hcleared, hpins, State.reband_mapStore]
  rfl

theorem State.resetNotices_portsKept (s : State) (p : Port) : PortsKept s (s.mapPort p fun q => { q with notices := resetNotices }) := by
  intro slotted answering hs
  refine ⟨hs.1.mapPort fun ⟨hlen, htags, _⟩ => ⟨hlen, htags, by simp [resetNotices]⟩, fun hb => ?_⟩
  cases p with
  | viewer => exact hs.2 hb
  | archive => exact hs.2 hb

theorem State.resetPort_portsStep (s : State) (p : Port) : PortsStep s (s.resetPort p) := by
  intro slotted hs
  have hcleared := hs.cleared p
  cases p with
  | viewer =>
    rw [State.resetPort_viewer]
    exact State.resetNotices_portsKept _ _ (State.reband_portsKept _ (PortsKept.foldl State.dropPin_portsKept _ _ hcleared))
  | archive => exact State.resetNotices_portsKept (s.cleared .archive) .archive hcleared

theorem execResetPort_portsNext {h : Header} : PortsNext s (execResetPort p h s) := by
  refine PortsStep.next fun slotted hs => State.endAct_portsKept _ ?_
  have harrived := State.arrive_portsKept s p hs
  split
  · exact State.reject_portsKept _ _ _ _ _ harrived
  split
  · exact State.reject_portsKept _ _ _ _ _ harrived
  · exact State.reject_portsKept _ _ _ _ _ (State.resetPort_portsStep _ p harrived)

theorem execUnsupportedKind_portsNext {code : BitVec 8} {h : Header} : PortsNext s (execUnsupportedKind p code h s) := by
  refine PortsStep.next fun slotted hs => State.endAct_portsKept _ ?_
  have harrived := State.arrive_portsKept s p hs
  split
  · exact State.beginAct_portsKept s hs
  split
  · exact State.reject_portsKept _ _ _ _ _ harrived
  · exact State.reject_portsKept _ _ _ _ _ harrived

theorem execPortLinkDown_portsNext {cameUp : Bool} : PortsNext s (execPortLinkDown p cameUp s) := by
  refine PortsStep.next fun slotted hs => State.endAct_portsKept _ ?_
  simp only
  have hbegun := State.beginAct_portsKept s hs
  have hdown : ∀ u : State, PortsKept u (u.mapPort p fun q => { q with linkUp := false }) := fun u => by cases p <;> exact .of_same rfl rfl
  split
  · exact hdown _ (State.resetPort_portsStep _ p hbegun)
  · exact hbegun

theorem execDeviceReset_portsNext {levels : ResetLevels} : PortsNext s (execDeviceReset levels s) := by
  refine PortsStep.next fun slotted _ => ⟨?_, fun _ => ?_⟩
  · have hport : ∀ up, PortForm (resetPortState up) := fun up => ⟨Nat.zero_le _, List.nodup_nil, by simp [resetPortState, resetNotices]⟩
    rw [signalForm_iff]
    refine ⟨⟨hport _, hport _⟩, fun i => ?_⟩
    have hflag : (resetWith levels).flags[i] = { value := false, source := .none, waits := [] } := by simp [resetWith]
    have hform : FlagForm (resetWith levels).flags[i] := by
      rw [hflag]
      exact ⟨Nat.zero_le _, fun _ => rfl⟩
    exact hform
  · exact .refl _

/-! ## Every command -/

theorem exec_portsNext (i : Instr) (s : State) : PortsNext s (exec i s) := by
  cases i with
  | start h => exact execStart_portsNext
  | stopAtSegmentEnd h mode => exact execStopAtSegmentEnd_portsNext
  | stopNow h mode => exact execStopNow_portsNext
  | flush h => exact execFlush_portsNext
  | stageProfile h fields => exact execStageProfile_portsNext
  | readProfile h which => exact execReadProfile_portsNext
  | setHeadMark h lbn action => exact execSetHeadMark_portsNext
  | clearHeadMark h => exact execClearHeadMark_portsNext
  | pin h first count => exact execPin_portsNext
  | unpin h => exact execUnpin_portsNext
  | read h lbn offset length => exact execRead_portsNext
  | setGroupNext h next => exact execSetGroupNext_portsNext
  | applyGroups h => exact execApplyGroups_portsNext
  | setGroupMap h span groups => exact execSetGroupMap_portsNext
  | reform h => exact execReform_portsNext
  | openContext h first length => exact execOpenContext_portsNext
  | closeContext h => exact execCloseContext_portsNext
  | take h wait => exact execTake_portsNext
  | fetch h lbn offset length => exact execFetch_portsNext
  | confirm h lbn withLoss => exact execConfirm_portsNext
  | returnBlock h lbn => exact execReturnBlock_portsNext
  | setArchiveMark h lbn => exact execSetArchiveMark_portsNext
  | clearArchiveMark h => exact execClearArchiveMark_portsNext
  | setFlagSource p h source => exact execSetFlagSource_portsNext
  | post p h => exact execPost_portsNext
  | wait p h mode timeout => exact execWait_portsNext
  | clearFlag p h => exact execClearFlag_portsNext
  | readIndex p h first count => exact execReadIndex_portsNext
  | readStatus p h => exact execReadStatus_portsNext
  | readCounts p h => exact execReadCounts_portsNext
  | setNoticeMask p h kinds => exact execSetNoticeMask_portsNext
  | clearNotice p h kinds => exact execClearNotice_portsNext
  | forceNotice p h kinds => exact execForceNotice_portsNext
  | resetPort p h => exact execResetPort_portsNext
  | unsupportedKind p code h => exact execUnsupportedKind_portsNext
  | portLinkDown p cameUp => exact execPortLinkDown_portsNext
  | frameArrival bytes => exact execFrameArrival_portsNext
  | resyncMarker => exact execResyncMarker_portsNext
  | linkLockLoss relocked => exact execLinkLockLoss_portsNext
  | haltAssertion => exact execHaltAssertion_portsNext
  | haltRelease => exact execHaltRelease_portsNext
  | deviceReset levels => exact execDeviceReset_portsNext
  | idleFlushExpiry => exact execIdleFlushExpiry_portsNext
  | waitTimeout flag p tag => exact execWaitTimeout_portsNext
  | groupSettle group => exact execGroupSettle_portsNext
  | admissionGrant => exact execAdmissionGrant_portsNext
  | fetchGrant => exact execFetchGrant_portsNext
  | readGrant => exact execReadGrant_portsNext
  | haltMarkerWorked => exact execHaltMarkerWorked_portsNext
  | resyncMarkerWorked => exact execResyncMarkerWorked_portsNext
  | admissionWriteCompletion => exact execAdmissionWriteCompletion_portsNext
  | fetchCompletion units => exact execFetchCompletion_portsNext
  | readCompletion units => exact execReadCompletion_portsNext

theorem step_portsStep (hstep : step s = .next t) : PortsStep s t := by
  unfold step at hstep
  split at hstep
  · cases hstep
    exact fun _ hs => hs
  next c rest hpending =>
    have htaken : PortsKept s { s with pending := rest } := .of_same rfl rfl
    exact fun _ hs => exec_portsNext c _ t hstep (htaken hs)

end Sys2Proof.Machine

namespace Sys2Proof.Proofs
open Sys2Proof.Machine

/-- Settles O59: through an act the occupied slots stay those of the requests that wait at a block and of the requests the act is answering, and
between acts it answers none. -/
theorem everyStepKeepsPortsAndFlagsInForm : Obligations.EveryStepKeepsPortsAndFlagsInForm := by
  intro s t hsignals hstep
  have hports : PortsInForm (SlotForm s) [] t := step_portsStep hstep ⟨hsignals, slotForm_iff.mp⟩
  exact ⟨hports.1, fun hslots => slotForm_iff.mpr (hports.2 hslots)⟩

end Sys2Proof.Proofs
